-- ==== Sys2Proof/Word.lean ====
section
/-! DEFINITION. The widths of the part's values and their plainest arithmetic. -/

namespace Sys2Proof

/-- One byte of a kitchen frame or of a link. -/
abbrev Byte := BitVec 8

/-- A line address 1 to 16, kept as its index 0 to 15 (R2). -/
abbrev OvenId := Fin 16

/-- Line time: a 32-bit count of whole seconds that wraps (R124). -/
abbrev LineTime := BitVec 32

/-- A 48-bit Ethernet address (R147). -/
abbrev EthAddr := BitVec 48

/-- The largest value of a 16-bit saturating counter (R13, R136, R145). -/
abbrev max16 : Nat := 65535

/-- The largest value of a 32-bit saturating accumulator (R66 to R68). -/
abbrev max32 : Nat := 4294967295

/-- `n + k`, staying at `limit` where the sum would pass it ("Units and number conventions"). -/
def satAdd (limit n k : Nat) : Nat := min limit (n + k)

/-- One more, saturating at 65,535. -/
def sat16 (n : Nat) : Nat := satAdd max16 n 1

/-- The nearer end of `lo` to `hi` where `n` lies outside it. -/
def clampNat (lo hi n : Nat) : Nat := max lo (min hi n)

/-- The sixteen line addresses in order. -/
def allOvens : List OvenId := List.finRange 16

/-- The line address an index stands for. -/
def OvenId.addr (i : OvenId) : Nat := i.val + 1

end Sys2Proof
end

