-- ==== Sys2Proof/Machine/Bytes.lean ====
section
/-! DEFINITION. Byte order and bit fields: every number of a kitchen frame is sent most significant byte
first, signed values in two's complement (R152). -/

namespace Sys2Proof.Machine

/-- The `n` bytes of `v`, most significant first (R152). -/
def be : Nat → Nat → List Byte
  | 0, _ => []
  | n + 1, v => BitVec.ofNat 8 (v / 256 ^ n) :: be n v

/-- The number a run of bytes spells, most significant first (R152). -/
def ofBe (bs : List Byte) : Nat := bs.foldl (fun a b => a * 256 + b.toNat) 0

/-- The `n`-byte number at offset `off` of a payload (R152 to R156). -/
def field (p : List Byte) (off n : Nat) : Nat := ofBe ((p.drop off).take n)

/-- The signed 16-bit number at offset `off` of a payload, in two's complement (R152). -/
def signedField (p : List Byte) (off : Nat) : Int := (BitVec.ofNat 16 (field p off 2)).toInt

/-- The `n` low bytes of an `n * 8`-bit word, most significant first. -/
def beWord {w : Nat} (n : Nat) (v : BitVec w) : List Byte := be n v.toNat

/-- A signed number as two bytes in two's complement (R152). -/
def beSigned (v : Int) : List Byte := be 2 (BitVec.ofInt 16 v).toNat

/-- A flag is one byte, 0 clear and 1 set (R152). -/
def beFlag (b : Bool) : List Byte := [if b then 1 else 0]

/-- The `n` bytes of `v`, least significant first: the order of an Ethernet FCS (R147). -/
def le (n v : Nat) : List Byte := (be n v).reverse

end Sys2Proof.Machine
end

