-- ==== Sys2Proof/Machine/Crc.lean ====
section
/-! DEFINITION. The two cyclic redundancy checks: CRC-32 of firmware images, Ethernet frames and the saved
image (R115, R147, R165), CRC-16 of Oven Line frames (R150). -/

namespace Sys2Proof.Machine

/-- One bit of the CRC-32: the register shifts toward its least significant end and the reflected
polynomial is combined where a one leaves it (R115). -/
def crc32Bit (r : BitVec 32) : BitVec 32 :=
  if r.getLsbD 0 then (r >>> 1) ^^^ 0xEDB88320#32 else r >>> 1

/-- One byte, least significant bit first (R115). -/
def crc32Byte (r : BitVec 32) (b : Byte) : BitVec 32 :=
  Nat.repeat crc32Bit 8 (r ^^^ b.setWidth 32)

/-- The register at an OPEN: all ones (R115). -/
def crc32Start : BitVec 32 := 0xFFFFFFFF#32

/-- The register after a run of bytes, taken in order (R115). -/
def crc32Absorb (r : BitVec 32) (bs : List Byte) : BitVec 32 := bs.foldl crc32Byte r

/-- The computed CRC-32 of a run of bytes: the complement of the register after the last byte (R115). -/
def crc32 (bs : List Byte) : BitVec 32 := ~~~ (crc32Absorb crc32Start bs)

/-- One bit of the CRC-16: polynomial 0x1021, most significant bit first (R150). -/
def crc16Bit (r : BitVec 16) : BitVec 16 :=
  if r.getLsbD 15 then (r <<< 1) ^^^ 0x1021#16 else r <<< 1

/-- One byte, most significant bit first (R150). -/
def crc16Byte (r : BitVec 16) (b : Byte) : BitVec 16 :=
  Nat.repeat crc16Bit 8 (r ^^^ (b.setWidth 16 <<< 8))

/-- The CRC-16 of a run of bytes: register preset to all ones, no final complement (R150). -/
def crc16 (bs : List Byte) : BitVec 16 := bs.foldl crc16Byte 0xFFFF#16

end Sys2Proof.Machine
end

