-- ==== Sys2Proof/Syntax.lean ====
section
/-! DEFINITION. The commands of the part: one constructor of `Instr` for each row of
spec/opcode_table.json, in the table's order, with the data each event brings. -/

namespace Sys2Proof

/-- A kitchen frame taken from the Store Link after the MAC (R136, R152). The class is the row's own;
`len` is the header's length field; `src` is the Ethernet source address (R146). -/
structure StoreFrame where
  src : EthAddr
  oven : Byte
  tag : BitVec 16
  seq : Byte
  len : BitVec 16
  payload : List Byte
  deriving DecidableEq, Repr

/-- An upward kitchen frame the Oven Line receiver has delivered whole with a correct CRC-16
(R135, R151). The class and, for a NOTICE, the kind are the row's own. -/
structure UpFrame where
  oven : Byte
  seq : Byte
  payload : List Byte
  deriving DecidableEq, Repr

/-- An Ethernet frame as the MAC receives or sends it (R147, R148): `rxErr` is the PHY's receive error,
`fcs` the check sequence carried. -/
structure EthFrame where
  rxErr : Bool
  dest : EthAddr
  src : EthAddr
  etype : BitVec 16
  payload : List Byte
  fcs : BitVec 32
  deriving DecidableEq, Repr

/-- What the Oven Line receiver meets (R150, R151): a byte, with its stop bit present or missing, or an
idle gap of two idle byte-times. -/
inductive LineEvent where
  | byte (value : Byte) (stopBit : Bool)
  | idleGap
  deriving DecidableEq, Repr

/-- The two links (R147, R150). -/
inductive Link where
  | store
  | ovenLine
  deriving DecidableEq, Repr

/-- The commands of the part. -/
inductive Instr where
  | powerOn
  | resetPin
  | ready
  | startUpDiscard (link : Link)
  | watchTick
  | silenceWatchExpiry (i : OvenId)
  | ackTimerExpiry (i : OvenId)
  | overtimeExpiry (i : OvenId)
  | applyTimerExpiry (i : OvenId)
  | lineErrorWindowClose
  | pauseExpiry
  | softResetTenthTick
  | tableClearCompletion
  | saveEnd
  | storeFrameDropped (e : EthFrame)
  | storeClassifierDiscard (e : EthFrame)
  | pauseFrame (dest : EthAddr) (quanta : BitVec 16)
  | statusRead (f : StoreFrame)
  | configWrite (f : StoreFrame)
  | configRead (f : StoreFrame)
  | daypartSet (f : StoreFrame)
  | rollCall (f : StoreFrame)
  | softReset (f : StoreFrame)
  | save (f : StoreFrame)
  | ovenCommission (f : StoreFrame)
  | ovenRetire (f : StoreFrame)
  | ovenRead (f : StoreFrame)
  | ovenSet (f : StoreFrame)
  | serviceEnter (f : StoreFrame)
  | serviceLeave (f : StoreFrame)
  | watchReload (f : StoreFrame)
  | mapStage (f : StoreFrame)
  | mapSet (f : StoreFrame)
  | mapRead (f : StoreFrame)
  | mapReadNext (f : StoreFrame)
  | release (f : StoreFrame)
  | withdraw (f : StoreFrame)
  | discardStaged (f : StoreFrame)
  | stepWrite (f : StoreFrame)
  | stepWriteNext (f : StoreFrame)
  | stepRead (f : StoreFrame)
  | stepReadNext (f : StoreFrame)
  | tableClear (f : StoreFrame)
  | classMapWrite (f : StoreFrame)
  | classMapRead (f : StoreFrame)
  | severityMapWrite (f : StoreFrame)
  | severityMapRead (f : StoreFrame)
  | callRead (f : StoreFrame)
  | callAck (f : StoreFrame)
  | callClearOverflow (f : StoreFrame)
  | cleanRelease (f : StoreFrame)
  | cookStart (f : StoreFrame)
  | cookStop (f : StoreFrame)
  | cleanRequest (f : StoreFrame)
  | cleanCancel (f : StoreFrame)
  | updateOpen (f : StoreFrame)
  | updateChunk (f : StoreFrame)
  | updateSeal (f : StoreFrame)
  | updateApply (f : StoreFrame)
  | updateAbort (f : StoreFrame)
  | direct (f : StoreFrame)
  | lineFrameDiscard (events : List LineEvent)
  | sample (tag : BitVec 16) (f : UpFrame)
  | hello (f : UpFrame)
  | stepAck (f : UpFrame)
  | panelStart (f : UpFrame)
  | panelStop (f : UpFrame)
  | fault (f : UpFrame)
  | faultClear (f : UpFrame)
  | cleanPhase (f : UpFrame)
  | cleanDone (f : UpFrame)
  | updateStatus (f : UpFrame)
  | serviceKey (f : UpFrame)
  | ovenNote (f : UpFrame)
  | lineTransmitterTake
  | transmissionEnd
  | storeLinkSend
  | storeLinkTransmissionEnd
  deriving DecidableEq, Repr

end Sys2Proof
end

