-- ==== Sys2Proof/Machine/Frames.lean ====
section
/-! DEFINITION. Kitchen frames: class and tag numbers, result codes, the 7-byte header, and the two
carriages, Ethernet (R147) and the Oven Line (R150). Layouts from R152 to R156. -/

namespace Sys2Proof.Machine

/-- A kitchen frame; its length field is the number of its payload bytes (R152). -/
structure KFrame where
  cls : Byte
  oven : Byte
  tag : BitVec 16
  seq : Byte
  payload : List Byte
  deriving DecidableEq, Repr

/-- Class numbers of the header (R152). -/
abbrev clsCook : Byte := 1
abbrev clsClean : Byte := 2
abbrev clsUpdate : Byte := 3
abbrev clsDirect : Byte := 4
abbrev clsControl : Byte := 5
abbrev clsStep : Byte := 6
abbrev clsSample : Byte := 7
abbrev clsNotice : Byte := 8
abbrev clsReply : Byte := 9
abbrev clsReport : Byte := 10
abbrev clsService : Byte := 11

/-- The longest payload (R152). -/
abbrev maxPayload : Nat := 480

/-- The header's oven address that names all ovens (R152). -/
abbrev allOvensAddr : Byte := 31

/-- Result codes of R155. -/
inductive Result where
  | accepted | done | queued
  | unknownOven | notActive | locked | service | occupied | cleanPending
  | daypart | notPermitted | capability | noRecipe
  | duplicate | busy | state
  | badField | inUse | incomplete | draining
  | gap | mismatch | worn | clearing
  deriving DecidableEq, Repr

/-- The code of a result (table of R155). -/
def Result.code : Result → Nat
  | .accepted => 1 | .done => 2 | .queued => 3
  | .unknownOven => 10 | .notActive => 11 | .locked => 12 | .service => 13
  | .occupied => 14 | .cleanPending => 15
  | .daypart => 20 | .notPermitted => 21 | .capability => 22 | .noRecipe => 23
  | .duplicate => 30 | .busy => 31 | .state => 32
  | .badField => 40 | .inUse => 41 | .incomplete => 42 | .draining => 43
  | .gap => 50 | .mismatch => 51 | .worn => 61 | .clearing => 62

/-- The seven header bytes and the payload (R152). -/
def KFrame.bytes (k : KFrame) : List Byte :=
  [k.cls, k.oven] ++ beWord 2 k.tag ++ [k.seq] ++ be 2 k.payload.length ++ k.payload

/-- The length field of a header that has arrived (R152). -/
def headerLen (bs : List Byte) : Nat := field bs 5 2

/-- The frame whose header and payload stand at the front of `bs`; bytes after the payload are not read
(padding, R136). `none` where the header or the payload is cut short. -/
def KFrame.ofBytes (bs : List Byte) : Option KFrame :=
  if 7 ≤ bs.length ∧ 7 + headerLen bs ≤ bs.length then
    some { cls := bs.getD 0 0, oven := bs.getD 1 0, tag := BitVec.ofNat 16 (field bs 2 2),
           seq := bs.getD 4 0, payload := (bs.drop 7).take (headerLen bs) }
  else none

/-- The bytes the Line Transmitter sends for a frame: start byte, header, payload, CRC-16 high byte
first (R150). -/
def lineBytes (k : KFrame) : List Byte :=
  (0x7E : Byte) :: (k.bytes ++ beWord 2 (crc16 k.bytes))

/-- One bit-time of the Oven Line (R150): the start bit, a data bit, or the stop-bit level, in which the line also
rests. -/
inductive LineBit where
  | start
  | data (b : Bool)
  | stop
  deriving DecidableEq, Repr

/-- A byte in asynchronous form: the start bit, eight data bits with the least significant first, the stop bit
(R150). -/
def byteBits (b : Byte) : List LineBit :=
  .start :: (List.range 8).map (fun k => LineBit.data (b.getLsbD k)) ++ [.stop]

/-- What the Line Transmitter puts on the line for a frame, one element for each microsecond: the frame's bytes
back to back, then 4 idle byte-times of 10 bits (R150). -/
def lineSignal (k : KFrame) : List LineBit := (lineBytes k).flatMap byteBits ++ List.replicate 40 .stop

/-- A frame shorter than 46 bytes is followed by zero bytes up to 46 (R147). -/
def ethPad (bs : List Byte) : List Byte := bs ++ List.replicate (46 - bs.length) 0

/-- The bytes an Ethernet FCS is taken over: destination to the last payload or padding byte (R147). -/
def EthFrame.covered (e : EthFrame) : List Byte :=
  beWord 6 e.dest ++ beWord 6 e.src ++ beWord 2 e.etype ++ e.payload

/-- The Ethernet frame that carries a kitchen frame, with the FCS the MAC appends (R147). -/
def ethFrame (dest src : EthAddr) (etype : BitVec 16) (k : KFrame) : EthFrame :=
  let e : EthFrame := { rxErr := false, dest := dest, src := src, etype := etype,
                        payload := ethPad k.bytes, fcs := 0 }
  { e with fcs := crc32 (EthFrame.covered e) }

/-- The bytes of an Ethernet frame on the link, the FCS least significant byte first (R147). -/
def EthFrame.wire (e : EthFrame) : List Byte := EthFrame.covered e ++ le 4 e.fcs.toNat

/-- An Ethernet frame's length in bytes, FCS included (R148). -/
def EthFrame.size (e : EthFrame) : Nat := 18 + e.payload.length

/-- The type field of MAC control frames (R148). -/
abbrev macControlType : BitVec 16 := 0x8808

/-- The reserved multicast address of pause frames (R148). -/
abbrev pauseMulticast : EthAddr := 0x0180C2000001

/-- The Ethernet broadcast address (R136, R146). -/
abbrev ethBroadcast : EthAddr := 0xFFFFFFFFFFFF

/-- The opcode of a MAC control frame. PRESUMED (log 18): the first two payload bytes, as IEEE 802.3 lays
them out; R148 names the opcode but not its place. Unsafe. -/
def EthFrame.macOpcode (e : EthFrame) : Nat := field e.payload 0 2

/-- Cook request tags (R152). -/
abbrev tagStart : BitVec 16 := 1
abbrev tagStop : BitVec 16 := 2
/-- CLEAN tags (R152). -/
abbrev tagCleanRequest : BitVec 16 := 1
abbrev tagCleanCancel : BitVec 16 := 2
/-- UPDATE tags (R152). -/
abbrev tagOpen : BitVec 16 := 1
abbrev tagChunk : BitVec 16 := 2
abbrev tagSeal : BitVec 16 := 3
abbrev tagApply : BitVec 16 := 4
abbrev tagAbort : BitVec 16 := 5
/-- NOTICE kinds (R152). -/
abbrev tagHello : BitVec 16 := 1
abbrev tagStepAck : BitVec 16 := 2
abbrev tagPanelStart : BitVec 16 := 3
abbrev tagPanelStop : BitVec 16 := 4
abbrev tagFault : BitVec 16 := 5
abbrev tagFaultClear : BitVec 16 := 6
abbrev tagCleanPhase : BitVec 16 := 7
abbrev tagCleanDone : BitVec 16 := 8
abbrev tagUpdateStatus : BitVec 16 := 9
abbrev tagServiceKey : BitVec 16 := 10
abbrev tagOvenNote : BitVec 16 := 11

/-- The payload lengths R154 gives for an upward class and tag: least and greatest. `none` for a class or
kind that R135 does not name. The tag of a SAMPLE is not read (R152). -/
def upwardLengths (cls : Byte) (tag : BitVec 16) : Option (Nat × Nat) :=
  if cls = clsSample then some (7, 23)
  else if cls = clsNotice then
    match tag.toNat with
    | 1 => some (11, 11)
    | 2 => some (1, 1)
    | 3 => some (2, 2)
    | 4 => some (0, 0)
    | 5 => some (1, 1)
    | 6 => some (1, 1)
    | 7 => some (1, 1)
    | 8 => some (1, 1)
    | 9 => some (1, 1)
    | 10 => some (1, 1)
    | 11 => some (0, 64)
    | _ => none
  else none

/-- The line address a header or payload byte names, where it is 1 to 16. -/
def ovenOf (a : Nat) : Option OvenId :=
  if h : 1 ≤ a ∧ a ≤ 16 then some ⟨a - 1, by omega⟩ else none

/-- The address byte of an oven. -/
def ovenByte (i : OvenId) : Byte := BitVec.ofNat 8 i.addr

end Sys2Proof.Machine
end

