-- ==== Sys2Proof/Decode.lean ====
section
/-! DEFINITION. From kitchen frames to commands. The opcode table gives no row bits, so `decodeTableWord`
reads none (log 2). What spells a command on the links is the class and tag of a kitchen frame (R152,
R157): those tables stand here, with the frame a command stands for. -/

namespace Sys2Proof

/-- The command a table word spells: none, as the table gives no row any bits (log 2). -/
def decodeTableWord (_nbits _w : Nat) : Option Instr := none

namespace Machine

/-! ### Class and tag to command (R152, R157) -/

/-- COOK tags (R152). -/
def cookCommand : Nat → Option (StoreFrame → Instr)
  | 1 => some .cookStart
  | 2 => some .cookStop
  | _ => none

/-- CLEAN tags (R152). -/
def cleanCommand : Nat → Option (StoreFrame → Instr)
  | 1 => some .cleanRequest
  | 2 => some .cleanCancel
  | _ => none

/-- UPDATE tags (R152). -/
def updateCommand : Nat → Option (StoreFrame → Instr)
  | 1 => some .updateOpen
  | 2 => some .updateChunk
  | 3 => some .updateSeal
  | 4 => some .updateApply
  | 5 => some .updateAbort
  | _ => none

/-- Request codes of CONTROL frames (R157). -/
def controlCommand : Nat → Option (StoreFrame → Instr)
  | 1 => some .statusRead
  | 2 => some .configWrite
  | 3 => some .configRead
  | 4 => some .daypartSet
  | 5 => some .rollCall
  | 6 => some .softReset
  | 7 => some .save
  | 10 => some .ovenCommission
  | 11 => some .ovenRetire
  | 12 => some .ovenRead
  | 13 => some .ovenSet
  | 14 => some .serviceEnter
  | 15 => some .serviceLeave
  | 16 => some .watchReload
  | 20 => some .mapStage
  | 21 => some .mapSet
  | 22 => some .mapRead
  | 23 => some .mapReadNext
  | 24 => some .release
  | 25 => some .withdraw
  | 26 => some .discardStaged
  | 27 => some .stepWrite
  | 28 => some .stepWriteNext
  | 29 => some .stepRead
  | 30 => some .stepReadNext
  | 31 => some .tableClear
  | 40 => some .classMapWrite
  | 41 => some .classMapRead
  | 42 => some .severityMapWrite
  | 43 => some .severityMapRead
  | 44 => some .callRead
  | 45 => some .callAck
  | 46 => some .callClearOverflow
  | 47 => some .cleanRelease
  | _ => none

/-- NOTICE kinds (R152). -/
def noticeCommand : Nat → Option (UpFrame → Instr)
  | 1 => some .hello
  | 2 => some .stepAck
  | 3 => some .panelStart
  | 4 => some .panelStop
  | 5 => some .fault
  | 6 => some .faultClear
  | 7 => some .cleanPhase
  | 8 => some .cleanDone
  | 9 => some .updateStatus
  | 10 => some .serviceKey
  | 11 => some .ovenNote
  | _ => none
/-- The command of a Store Link class and tag. A tag that names no request of its class is refused alike by
every row of the class, and stands with the class's first row (log 8). Every DIRECT tag is a direct kind. -/
def storeCommand (cls : Byte) (tag : Nat) : Option (StoreFrame → Instr) :=
  if cls = clsCook then some ((cookCommand tag).getD .cookStart)
  else if cls = clsClean then some ((cleanCommand tag).getD .cleanRequest)
  else if cls = clsUpdate then some ((updateCommand tag).getD .updateOpen)
  else if cls = clsDirect then some .direct
  else if cls = clsControl then some ((controlCommand tag).getD .statusRead)
  else none

/-- The command of an upward class and tag (R135, R152). -/
def upCommand (cls : Byte) (tag : BitVec 16) : Option (UpFrame → Instr) :=
  if cls = clsSample then some (.sample tag)
  else if cls = clsNotice then noticeCommand tag.toNat
  else none

/-- The command a whole kitchen frame spells: a Store Link class, with the Ethernet source it came from, or
an upward class. -/
def commandOf (src : EthAddr) (k : KFrame) : Option Instr :=
  match storeCommand k.cls k.tag.toNat with
  | some c =>
    some (c { src := src, oven := k.oven, tag := k.tag, seq := k.seq,
              len := BitVec.ofNat 16 k.payload.length, payload := k.payload })
  | none =>
    (upCommand k.cls k.tag).map fun c => c { oven := k.oven, seq := k.seq, payload := k.payload }

/-- The command that the bytes of a kitchen frame spell. -/
def decodeFrame (src : EthAddr) (bs : List Byte) : Option Instr :=
  (KFrame.ofBytes bs).bind (commandOf src)

/-! ### Command to frame -/

/-- The class of a Store Link command, its own tag, and its frame. -/
structure StoreForm where
  cls : Byte
  code : BitVec 16
  frame : StoreFrame

/-- The class, tag and frame of an upward command. -/
structure UpForm where
  cls : Byte
  tag : BitVec 16
  frame : UpFrame

/-- Where a command is a Store Link frame: its class, its own tag (R152, R157) and the frame. A DIRECT frame
has no tag of its own: its tag is its kind. -/
def storeForm : Instr → Option StoreForm
  | .powerOn => none
  | .resetPin => none
  | .ready => none
  | .startUpDiscard _ => none
  | .watchTick => none
  | .silenceWatchExpiry _ => none
  | .ackTimerExpiry _ => none
  | .overtimeExpiry _ => none
  | .applyTimerExpiry _ => none
  | .lineErrorWindowClose => none
  | .pauseExpiry => none
  | .softResetTenthTick => none
  | .tableClearCompletion => none
  | .saveEnd => none
  | .storeFrameDropped _ => none
  | .storeClassifierDiscard _ => none
  | .pauseFrame _ _ => none
  | .statusRead f => some ⟨clsControl, 1, f⟩
  | .configWrite f => some ⟨clsControl, 2, f⟩
  | .configRead f => some ⟨clsControl, 3, f⟩
  | .daypartSet f => some ⟨clsControl, 4, f⟩
  | .rollCall f => some ⟨clsControl, 5, f⟩
  | .softReset f => some ⟨clsControl, 6, f⟩
  | .save f => some ⟨clsControl, 7, f⟩
  | .ovenCommission f => some ⟨clsControl, 10, f⟩
  | .ovenRetire f => some ⟨clsControl, 11, f⟩
  | .ovenRead f => some ⟨clsControl, 12, f⟩
  | .ovenSet f => some ⟨clsControl, 13, f⟩
  | .serviceEnter f => some ⟨clsControl, 14, f⟩
  | .serviceLeave f => some ⟨clsControl, 15, f⟩
  | .watchReload f => some ⟨clsControl, 16, f⟩
  | .mapStage f => some ⟨clsControl, 20, f⟩
  | .mapSet f => some ⟨clsControl, 21, f⟩
  | .mapRead f => some ⟨clsControl, 22, f⟩
  | .mapReadNext f => some ⟨clsControl, 23, f⟩
  | .release f => some ⟨clsControl, 24, f⟩
  | .withdraw f => some ⟨clsControl, 25, f⟩
  | .discardStaged f => some ⟨clsControl, 26, f⟩
  | .stepWrite f => some ⟨clsControl, 27, f⟩
  | .stepWriteNext f => some ⟨clsControl, 28, f⟩
  | .stepRead f => some ⟨clsControl, 29, f⟩
  | .stepReadNext f => some ⟨clsControl, 30, f⟩
  | .tableClear f => some ⟨clsControl, 31, f⟩
  | .classMapWrite f => some ⟨clsControl, 40, f⟩
  | .classMapRead f => some ⟨clsControl, 41, f⟩
  | .severityMapWrite f => some ⟨clsControl, 42, f⟩
  | .severityMapRead f => some ⟨clsControl, 43, f⟩
  | .callRead f => some ⟨clsControl, 44, f⟩
  | .callAck f => some ⟨clsControl, 45, f⟩
  | .callClearOverflow f => some ⟨clsControl, 46, f⟩
  | .cleanRelease f => some ⟨clsControl, 47, f⟩
  | .cookStart f => some ⟨clsCook, 1, f⟩
  | .cookStop f => some ⟨clsCook, 2, f⟩
  | .cleanRequest f => some ⟨clsClean, 1, f⟩
  | .cleanCancel f => some ⟨clsClean, 2, f⟩
  | .updateOpen f => some ⟨clsUpdate, 1, f⟩
  | .updateChunk f => some ⟨clsUpdate, 2, f⟩
  | .updateSeal f => some ⟨clsUpdate, 3, f⟩
  | .updateApply f => some ⟨clsUpdate, 4, f⟩
  | .updateAbort f => some ⟨clsUpdate, 5, f⟩
  | .direct f => some ⟨clsDirect, f.tag, f⟩
  | .lineFrameDiscard _ => none
  | .sample _ _ => none
  | .hello _ => none
  | .stepAck _ => none
  | .panelStart _ => none
  | .panelStop _ => none
  | .fault _ => none
  | .faultClear _ => none
  | .cleanPhase _ => none
  | .cleanDone _ => none
  | .updateStatus _ => none
  | .serviceKey _ => none
  | .ovenNote _ => none
  | .lineTransmitterTake => none
  | .transmissionEnd => none
  | .storeLinkSend => none
  | .storeLinkTransmissionEnd => none

/-- Where a command is an upward frame: its class, tag and frame. -/
def upForm : Instr → Option UpForm
  | .powerOn => none
  | .resetPin => none
  | .ready => none
  | .startUpDiscard _ => none
  | .watchTick => none
  | .silenceWatchExpiry _ => none
  | .ackTimerExpiry _ => none
  | .overtimeExpiry _ => none
  | .applyTimerExpiry _ => none
  | .lineErrorWindowClose => none
  | .pauseExpiry => none
  | .softResetTenthTick => none
  | .tableClearCompletion => none
  | .saveEnd => none
  | .storeFrameDropped _ => none
  | .storeClassifierDiscard _ => none
  | .pauseFrame _ _ => none
  | .statusRead _ => none
  | .configWrite _ => none
  | .configRead _ => none
  | .daypartSet _ => none
  | .rollCall _ => none
  | .softReset _ => none
  | .save _ => none
  | .ovenCommission _ => none
  | .ovenRetire _ => none
  | .ovenRead _ => none
  | .ovenSet _ => none
  | .serviceEnter _ => none
  | .serviceLeave _ => none
  | .watchReload _ => none
  | .mapStage _ => none
  | .mapSet _ => none
  | .mapRead _ => none
  | .mapReadNext _ => none
  | .release _ => none
  | .withdraw _ => none
  | .discardStaged _ => none
  | .stepWrite _ => none
  | .stepWriteNext _ => none
  | .stepRead _ => none
  | .stepReadNext _ => none
  | .tableClear _ => none
  | .classMapWrite _ => none
  | .classMapRead _ => none
  | .severityMapWrite _ => none
  | .severityMapRead _ => none
  | .callRead _ => none
  | .callAck _ => none
  | .callClearOverflow _ => none
  | .cleanRelease _ => none
  | .cookStart _ => none
  | .cookStop _ => none
  | .cleanRequest _ => none
  | .cleanCancel _ => none
  | .updateOpen _ => none
  | .updateChunk _ => none
  | .updateSeal _ => none
  | .updateApply _ => none
  | .updateAbort _ => none
  | .direct _ => none
  | .lineFrameDiscard _ => none
  | .sample tag f => some ⟨clsSample, tag, f⟩
  | .hello f => some ⟨clsNotice, 1, f⟩
  | .stepAck f => some ⟨clsNotice, 2, f⟩
  | .panelStart f => some ⟨clsNotice, 3, f⟩
  | .panelStop f => some ⟨clsNotice, 4, f⟩
  | .fault f => some ⟨clsNotice, 5, f⟩
  | .faultClear f => some ⟨clsNotice, 6, f⟩
  | .cleanPhase f => some ⟨clsNotice, 7, f⟩
  | .cleanDone f => some ⟨clsNotice, 8, f⟩
  | .updateStatus f => some ⟨clsNotice, 9, f⟩
  | .serviceKey f => some ⟨clsNotice, 10, f⟩
  | .ovenNote f => some ⟨clsNotice, 11, f⟩
  | .lineTransmitterTake => none
  | .transmissionEnd => none
  | .storeLinkSend => none
  | .storeLinkTransmissionEnd => none

/-- The kitchen frame of a Store Link command. -/
def StoreForm.kframe (x : StoreForm) : KFrame :=
  { cls := x.cls, oven := x.frame.oven, tag := x.frame.tag, seq := x.frame.seq,
    payload := x.frame.payload }

/-- The kitchen frame of an upward command. -/
def UpForm.kframe (x : UpForm) : KFrame :=
  { cls := x.cls, oven := x.frame.oven, tag := x.tag, seq := x.frame.seq, payload := x.frame.payload }

/-- The bytes of the kitchen frame a command stands for, where it stands for one. -/
def encodeFrame (i : Instr) : Option (List Byte) :=
  match storeForm i with
  | some x => some x.kframe.bytes
  | none => (upForm i).map fun x => x.kframe.bytes

end Machine
end Sys2Proof
end

