-- ==== Sys2Proof/Machine/Types.lean ====
section
/-! DEFINITION. The data of the part's tables: one type for each kind of entry the chapters describe. The
constructors of each named value stand in the order in which the manual lists the names, which is the
order R152 numbers them in. -/

namespace Sys2Proof.Machine

/-! ### The Oven Table (01, before R2) -/

inductive Presence where
  | vacant | announced | commissioned | active | silent
  deriving DecidableEq, Repr

inductive Occupancy where
  | free | cooking | cleaning | applying
  deriving DecidableEq, Repr

inductive Activity where
  | idle | cooking | cleaning | updating
  deriving DecidableEq, Repr

/-- What a REPORT OVEN_STATE gives as the cause of a presence change (R19). -/
inductive PresenceCause where
  | hello | mismatch | commission | silence | return | retire
  deriving DecidableEq, Repr

/-- A capability set: a subset of STEAM, PROBE, AUTO_CLEAN. -/
structure Caps where
  steam : Bool
  probe : Bool
  autoClean : Bool
  deriving DecidableEq, Repr

/-- A firmware version. -/
structure Version where
  major : Byte
  minor : Byte
  deriving DecidableEq, Repr

/-- The commissioning record of an entry. -/
structure CommRecord where
  serial : BitVec 48
  modelClass : Nat
  caps : Caps
  window : Nat
  scale : Nat
  decimation : Nat
  deriving DecidableEq, Repr

/-- The announced fields: what the oven said of itself in its last HELLO. -/
structure Announced where
  serial : BitVec 48
  modelClass : Nat
  caps : Caps
  version : Version
  activity : Activity
  deriving DecidableEq, Repr

/-- The counters of an entry, in the order of the table of R13. -/
structure OvenCounters where
  received : Nat
  refused : Nat
  clamped : Nat
  gaps : Nat
  dropped : Nat
  duplicates : Nat
  staleAcks : Nat
  phase : Nat
  deriving DecidableEq, Repr

/-- An Oven Table entry. -/
structure OvenEntry where
  presence : Presence
  record : Option CommRecord
  announced : Option Announced
  occupancy : Occupancy
  service : Bool
  locked : Bool
  counters : OvenCounters
  deriving DecidableEq, Repr

/-- A watch of the Silence Watch (R125). -/
structure Watch where
  counter : Nat
  prescaler : Nat
  scale : Nat
  frozen : Bool
  deriving DecidableEq, Repr

/-! ### Recipe Map and Step Store (02) -/

inductive Mode where
  | convection | steam | combi
  deriving DecidableEq, Repr

inductive EndKind where
  | time | core
  deriving DecidableEq, Repr

inductive Overrun where
  | note | abort
  deriving DecidableEq, Repr

inductive Role where
  | staged | live | draining
  deriving DecidableEq, Repr

/-- The field contents of a step record; temperatures in tenths of a degree. -/
structure StepParams where
  mode : Mode
  cavity : Int
  humidity : Nat
  fan : Nat
  endKind : EndKind
  duration : Nat
  coreTarget : Option Int
  hold : Nat
  tolLow : Nat
  tolHigh : Nat
  budget : Nat
  overrun : Overrun
  deriving DecidableEq, Repr

/-- The version of a recipe a step record belongs to. -/
structure Owner where
  recipe : Nat
  version : Nat
  role : Role
  deriving DecidableEq, Repr

/-- A step record; `owner = none` is FREE. -/
structure StepRec where
  params : StepParams
  written : Bool
  owner : Option Owner
  deriving DecidableEq, Repr

/-- The needs of a live version. -/
structure Needs where
  steam : Bool
  probe : Bool
  deriving DecidableEq, Repr

/-- A version number with its run of step records. -/
structure Run where
  version : Nat
  first : Nat
  count : Nat
  deriving DecidableEq, Repr

structure LiveVersion where
  run : Run
  needs : Needs
  users : Nat
  deriving DecidableEq, Repr

structure DrainVersion where
  run : Run
  users : Nat
  deriving DecidableEq, Repr

/-- A Recipe Map entry. -/
structure RecipeEntry where
  live : Option LiveVersion
  staged : Option Run
  draining : Option DrainVersion
  dayparts : BitVec 4
  permit : BitVec 16
  deriving DecidableEq, Repr

/-! ### Cook Engine (03) -/

inductive CookState where
  | idle | starting | running | advancing | ending
  deriving DecidableEq, Repr

inductive Origin where
  | store | panel
  deriving DecidableEq, Repr

/-- The results of R58. -/
inductive CookResult where
  | completed | endedUnconfirmed | stopped | abortedNoAck | abortedDeviation
  | abortedCoreTimeout | abortedLockout | abortedSilent | abortedRestart
  deriving DecidableEq, Repr

/-- A cook context (R40). -/
structure CookCtx where
  state : CookState
  origin : Origin
  recipe : Nat
  version : Nat
  first : Nat
  count : Nat
  batch : BitVec 16
  stepIndex : Nat
  stepsDone : Nat
  stepClock : Nat
  holdClock : Nat
  dev : Nat
  tripped : Bool
  doorOpen : Nat
  gaps : Nat
  missingRun : Nat
  lastStamp : BitVec 16
  baseline : Bool
  total : Nat
  started : LineTime
  deriving DecidableEq, Repr

/-- What a STEP frame carries of its step record (R49). -/
structure StepHead where
  mode : Mode
  cavity : Int
  humidity : Nat
  fan : Nat
  endKind : EndKind
  deriving DecidableEq, Repr

/-- The four frame kinds of a step slot (R41). -/
inductive SlotFrame where
  | step (index count : Nat) (head : StepHead)
  | endCook (index : Nat)
  | stop
  | refuse (recipe : Nat) (reason : Result)
  deriving DecidableEq, Repr

/-- A step slot (R41). `onLine` marks a PENDING frame the Line Transmitter is sending (log 25). -/
inductive Slot where
  | empty
  | pending (f : SlotFrame) (onLine : Bool)
  | sent (f : SlotFrame)
  deriving DecidableEq, Repr

/-- A step slot with its acknowledgement timer (R43): `some n` runs with `n` ticks left. -/
structure SlotState where
  slot : Slot
  timer : Option Nat
  deriving DecidableEq, Repr

/-! ### Cleaning Admission (05) -/

inductive Programme where
  | rinse | light | medium | heavy
  deriving DecidableEq, Repr

/-- A timer on line time (R91, R120): `due` from the line-time second that reaches its deadline until its
expiry is taken (log 6). -/
inductive LineTimer where
  | stopped | running | due
  deriving DecidableEq, Repr

structure WaitEntry where
  oven : OvenId
  programme : Programme
  taken : LineTime
  seq : Byte
  deriving DecidableEq, Repr

/-- A cleaning record; programme `none` is unknown (R77). -/
structure CleanRecord where
  isOpen : Bool
  programme : Option Programme
  phase : Nat
  admitted : LineTime
  deadline : LineTime
  timer : LineTimer
  overtime : Bool
  requestSent : Bool
  cancelSent : Bool
  seq : Byte
  deriving DecidableEq, Repr

inductive CleanResult where
  | complete | aborted | fault
  deriving DecidableEq, Repr

/-- What ended a cleaning (R88). -/
inductive EndedBy where
  | oven | release | reconcile
  deriving DecidableEq, Repr

/-- Why a wait entry was dropped, in the order of the table of R84. -/
inductive DropReason where
  | cook | adopted | retired | locked | capability
  deriving DecidableEq, Repr

inductive Route where
  | direct | queue
  deriving DecidableEq, Repr

/-- The volatile state of Cleaning Admission (R77). -/
structure Cleaning where
  slotCount : Nat
  queue : List WaitEntry
  records : Vector CleanRecord 16
  passHeld : Bool
  deriving DecidableEq, Repr

/-! ### Call Table (06) -/

inductive Severity where
  | lockout | major | minor | info
  deriving DecidableEq, Repr

inductive CallKind where
  | condition | event
  deriving DecidableEq, Repr

/-- The states of a call, named `opened` for OPEN. -/
inductive CallState where
  | opened | reported | acknowledged | resolved
  deriving DecidableEq, Repr

/-- A call entry; `oven = none` is the part itself. -/
structure Call where
  number : Nat
  oven : Option OvenId
  code : Nat
  severity : Severity
  kind : CallKind
  state : CallState
  cleared : Bool
  occurrences : Nat
  firstSeen : LineTime
  lastSeen : LineTime
  deriving DecidableEq, Repr

/-- The line error window (R107); `closeDue` from the line-time second that closes it until the close is
taken (log 6). -/
structure LineWindow where
  count : Nat
  raised : Bool
  closeDue : Bool
  deriving DecidableEq, Repr

/-- The Call Table (R93). -/
structure CallTable where
  slots : Vector (Option Call) 32
  order : List (Fin 32)
  reports : List (Fin 32)
  overflow : Vector Bool 16
  next : Nat
  lost : Nat
  ignored : Nat
  window : LineWindow
  deriving DecidableEq, Repr

/-! ### Update Tracker (07) -/

inductive UpdateState where
  | idle | opened | receiving | sealed | applying | failed
  deriving DecidableEq, Repr

/-- Failure causes; `noCause` is the None of R109. -/
inductive FailCause where
  | noCause | mismatch | locked | version | status | timeout | serial
  deriving DecidableEq, Repr

/-- The results of REPORT UPDATE_END (R123). -/
inductive UpdateEnd where
  | applied | failed | locked | retired
  deriving DecidableEq, Repr

/-- An update context (R109). -/
structure UpdateCtx where
  state : UpdateState
  imageId : Nat
  length : Nat
  expectedCrc : BitVec 32
  version : Version
  passed : Nat
  crc : BitVec 32
  queued : Nat
  repeated : Nat
  deadline : LineTime
  timer : LineTimer
  begun : Bool
  cause : FailCause
  deriving DecidableEq, Repr

/-! ### Queues and links (09, 10) -/

/-- A frame of a class queue with its buffer. `live` is set while the update transfer or the cleaning that
queued it still counts it (R142, R144; log 25). -/
structure DownFrame where
  frame : KFrame
  live : Bool
  deriving DecidableEq, Repr

/-- Where the Line Transmitter took a frame from (R143). -/
inductive LineSource where
  | cls (k : Fin 4)
  | rollCall
  | slot (i : OvenId)
  deriving DecidableEq, Repr

/-- The frame the Line Transmitter is sending, and the bits it puts on the line for it, the gap after it
included (R150). -/
structure LineTx where
  source : LineSource
  frame : KFrame
  line : List LineBit
  deriving DecidableEq, Repr

/-- The Downward Queue and the Line Transmitter (R139, R143). -/
structure Down where
  classes : Vector (List DownFrame) 4
  purged : Nat
  rollCall : Bool
  lastSlot : OvenId
  tx : Option LineTx
  deriving DecidableEq, Repr

/-- The Upward Queue and the Store Link transmitter (R145, R146). -/
structure Up where
  frames : List KFrame
  repliesLost : Nat
  reportsLost : Nat
  tx : Option EthFrame
  deriving DecidableEq, Repr

/-- The pause state of the Store Link port (R149). -/
structure Pause where
  remaining : Nat
  paused : Nat
  deriving DecidableEq, Repr

/-- The Oven Line receiver (R151). `armed`: an idle gap has just passed and no byte has come since.
`got` holds the header and payload bytes taken, `crc` the first CRC byte once taken, `marked` a missing
stop bit. -/
inductive LineRx where
  | hunt (armed : Bool)
  | header (got : List Byte) (marked : Bool)
  | payload (got : List Byte) (marked : Bool)
  | check (got : List Byte) (crc : Option Byte) (marked : Bool)
  deriving DecidableEq, Repr

/-- The Classifier counters in the order of the table of R136, then the start-up discards (R166). -/
structure Discards where
  storeFcs : Nat
  storeForeign : Nat
  storeLength : Nat
  storeClass : Nat
  storeAddress : Nat
  lineLength : Nat
  lineCrc : Nat
  lineSource : Nat
  lineClass : Nat
  unknownSource : Nat
  startUp : Nat
  deriving DecidableEq, Repr

/-! ### Control Unit (11) and start-up (12) -/

/-- The tables of the table cursor (R159). -/
inductive TableId where
  | recipeMap | stepStore | classMap | severityMap
  deriving DecidableEq, Repr

structure Cursor where
  table : TableId
  index : Nat
  deriving DecidableEq, Repr

/-- What a REPLY echoes of the frame it answers (R155). -/
structure ReplyTo where
  cls : Byte
  oven : Byte
  tag : BitVec 16
  seq : Byte
  deriving DecidableEq, Repr

/-- The fourteen configuration parameters (R161), in parameter-number order. -/
structure Params where
  kitchenType : BitVec 16
  cleanMask : BitVec 4
  updateMask : BitVec 4
  slotLimit : Nat
  rinse : Nat
  light : Nat
  medium : Nat
  heavy : Nat
  bulkLimit : Nat
  bulkHoldOff : Nat
  stepAckTimeout : Nat
  gapLimit : Nat
  applyTimeout : Nat
  lineErrorThreshold : Nat
  deriving DecidableEq, Repr

inductive Phase where
  | restoring | ready
  deriving DecidableEq, Repr

inductive ResetCause where
  | powerOn | pin | control
  deriving DecidableEq, Repr

inductive RestoreResult where
  | restored | empty | lost
  deriving DecidableEq, Repr

/-- What a SAVE writes of a Recipe Map entry: live version with needs, staged version, masks (R39). -/
structure SavedRecipe where
  live : Option (Run × Needs)
  staged : Option Run
  dayparts : BitVec 4
  permit : BitVec 16
  deriving DecidableEq, Repr

/-- The saved content (R39, R168). A step record that is not saved stands as `none`. -/
structure SavedContent where
  records : Vector (Option CommRecord) 16
  recipes : Vector SavedRecipe 512
  steps : Vector (Option StepRec) 768
  severity : Vector Severity 199
  classMap : Vector (Fin 4) 64
  config : Params
  daypart : Fin 4
  deriving DecidableEq, Repr

/-- The saved image: its contents, the complete mark and the CRC-32 stored with it (R165, R168). -/
structure Image where
  content : SavedContent
  complete : Bool
  crc : BitVec 32
  deriving DecidableEq, Repr

end Sys2Proof.Machine
end

