-- ==== Sys2Proof/Config.lean ====
section
/-! DEFINITION. What each issue of the part fixes and the manual does not give: constants with no body, so
that no claim can rest on a value of theirs. -/

namespace Sys2Proof.Config

/-- The silicon revision less one. Free constant (log 12). -/
opaque siliconRevisionLessOne : Fin 255

/-- The silicon revision, 1 to 255, fixed in the silicon of each issue of the part (R160). -/
def siliconRevision : Nat := siliconRevisionLessOne.val + 1

/-- The 48 bits programmed at the factory. Free constant (log 12). -/
opaque factoryAddress : EthAddr

/-- The station address: a unicast address, so the multicast bit of its first byte is 0 (R147). -/
def stationAddress : EthAddr := factoryAddress &&& 0xFEFFFFFFFFFF#48

/-- The bytes the Image Store holds for a saved content. The manual gives no layout; free function
(log 11). -/
opaque imageLayout : Machine.SavedContent → List Byte

end Sys2Proof.Config
end

