-- ==== Sys2Proof/Machine/State.lean ====
section
/-! DEFINITION. The state of the part, every piece the manual names, and its value right after reset. -/

namespace Sys2Proof.Machine

/-- The faults of the machine: it has none. No command stops the part; every wrong frame is discarded and
counted, every wrong request answered (R135, R136, R157). -/
inductive Fault where
  deriving DecidableEq, Repr

/-- The refusals of the model. -/
inductive Refusal where
  /-- A command without a meaning in this model. No arm of `exec` answers it. Safe: the machine stops
  where the hardware goes on. -/
  | notModelled (mnemonic : String)
  deriving DecidableEq, Repr

/-- The state of the part. `pending` is the model's queue of waiting commands (log 1). -/
structure State where
  pending : List Instr
  phase : Phase
  resetCause : ResetCause
  restoreResult : RestoreResult
  image : Option Image
  saveCount : Nat
  saving : Option ReplyTo
  clearing : Option ReplyTo
  softReset : Option Nat
  lineTime : LineTime
  tickPhase : Nat
  ovens : Vector OvenEntry 16
  watches : Vector (Option Watch) 16
  recipes : Vector RecipeEntry 512
  steps : Vector StepRec 768
  cooks : Vector CookCtx 16
  slots : Vector SlotState 16
  cleaning : Cleaning
  calls : CallTable
  severity : Vector Severity 199
  updates : Vector UpdateCtx 16
  down : Down
  classMap : Vector (Fin 4) 64
  up : Up
  gateway : EthAddr
  pause : Pause
  lineRx : LineRx
  counters : Discards
  cursor : Option Cursor
  config : Params
  daypart : Fin 4
  deriving DecidableEq, Repr

/-- Counters and phase 0 (R2, R13). -/
def OvenCounters.reset : OvenCounters := ⟨0, 0, 0, 0, 0, 0, 0, 0⟩

/-- An Oven Table entry after reset (R2). -/
def OvenEntry.reset : OvenEntry :=
  { presence := .vacant, record := none, announced := none, occupancy := .free,
    service := false, locked := false, counters := OvenCounters.reset }

/-- The blank record (R20). -/
def StepRec.blank : StepRec :=
  { params := { mode := .convection, cavity := 300, humidity := 0, fan := 1, endKind := .time,
                duration := 1, coreTarget := none, hold := 0, tolLow := 0, tolHigh := 0,
                budget := 0, overrun := .note },
    written := false, owner := none }

/-- A Recipe Map entry after reset (R25). -/
def RecipeEntry.reset : RecipeEntry :=
  { live := none, staged := none, draining := none, dayparts := 0xF#4, permit := 0xFFFF#16 }

/-- A cook context after reset (R40). -/
def CookCtx.reset : CookCtx :=
  { state := .idle, origin := .store, recipe := 0, version := 0, first := 0, count := 0, batch := 0,
    stepIndex := 0, stepsDone := 0, stepClock := 0, holdClock := 0, dev := 0, tripped := false,
    doorOpen := 0, gaps := 0, missingRun := 0, lastStamp := 0, baseline := true, total := 0,
    started := 0 }

/-- A step slot after reset: EMPTY, timer stopped (R40). -/
def SlotState.reset : SlotState := { slot := .empty, timer := none }

/-- A closed cleaning record. R77 gives "closed" as its reset value; the figures of a record never opened
are DESIGN CHOICE zero (log 26). Unsafe. -/
def CleanRecord.reset : CleanRecord :=
  { isOpen := false, programme := none, phase := 0, admitted := 0, deadline := 0, timer := .stopped,
    overtime := false, requestSent := false, cancelSent := false, seq := 0 }

/-- Cleaning Admission after reset (R77). -/
def Cleaning.reset : Cleaning :=
  { slotCount := 0, queue := [], records := Vector.replicate 16 CleanRecord.reset, passHeld := false }

/-- The Call Table after reset (R93). -/
def CallTable.reset : CallTable :=
  { slots := Vector.replicate 32 none, order := [], reports := [],
    overflow := Vector.replicate 16 false, next := 1, lost := 0, ignored := 0,
    window := { count := 0, raised := false, closeDue := false } }

/-- An update context after reset (R109). -/
def UpdateCtx.reset : UpdateCtx :=
  { state := .idle, imageId := 0, length := 0, expectedCrc := 0, version := ⟨0, 0⟩, passed := 0,
    crc := crc32Start, queued := 0, repeated := 0, deadline := 0, timer := .stopped, begun := false,
    cause := .noCause }

/-- The Downward Queue and Line Transmitter after reset: last slot served 16 (R139, R143). -/
def Down.reset : Down :=
  { classes := Vector.replicate 4 [], purged := 0, rollCall := false, lastSlot := 15, tx := none }

/-- The Upward Queue after reset (R145). -/
def Up.reset : Up := { frames := [], repliesLost := 0, reportsLost := 0, tx := none }

/-- Classifier counters after reset (R136, R166). -/
def Discards.reset : Discards := ⟨0, 0, 0, 0, 0, 0, 0, 0, 0, 0, 0⟩

/-- The defaults of the fourteen parameters (R161). -/
def Params.reset : Params :=
  { kitchenType := 0x9A4C, cleanMask := 0b1000#4, updateMask := 0b1000#4, slotLimit := 2,
    rinse := 20, light := 90, medium := 150, heavy := 210, bulkLimit := 24, bulkHoldOff := 10,
    stepAckTimeout := 20, gapLimit := 50, applyTimeout := 300, lineErrorThreshold := 20 }

/-- The machine right after reset (R164 and the reset value each chapter gives), as a factory-new part
after power-on: no image, save count 0, cause POWER_ON (DESIGN CHOICE, log 3). The restore result before
READY writes it is DESIGN CHOICE EMPTY (log 4); the receiver has seen no idle gap yet (DESIGN CHOICE,
log 13). Unsafe where a claim rests on one of these values. -/
def State.reset : State :=
  { pending := []
    phase := .restoring
    resetCause := .powerOn
    restoreResult := .empty
    image := none
    saveCount := 0
    saving := none
    clearing := none
    softReset := none
    lineTime := 0
    tickPhase := 0
    ovens := Vector.replicate 16 OvenEntry.reset
    watches := Vector.replicate 16 none
    recipes := Vector.replicate 512 RecipeEntry.reset
    steps := Vector.replicate 768 StepRec.blank
    cooks := Vector.replicate 16 CookCtx.reset
    slots := Vector.replicate 16 SlotState.reset
    cleaning := Cleaning.reset
    calls := CallTable.reset
    severity := Vector.replicate 199 .minor
    updates := Vector.replicate 16 UpdateCtx.reset
    down := Down.reset
    classMap := Vector.replicate 64 2
    up := Up.reset
    gateway := ethBroadcast
    pause := { remaining := 0, paused := 0 }
    lineRx := .hunt false
    counters := Discards.reset
    cursor := none
    config := Params.reset
    daypart := 0 }

end Sys2Proof.Machine
end

