-- ==== Sys2Proof/Machine/Encode.lean ====
section
/-! DEFINITION. The payloads the part builds: REPLY, REPORT, SERVICE and STEP-class frames, and the data of
the reading requests (R152 to R155). A number takes the smallest of 1, 2, 4 or 6 bytes that holds its
range, a named value one byte numbered from 1, an absent value 0, a flag one byte (R152). Readings of R152
that the manual leaves to inference are DEDUCED in log 10. -/

namespace Sys2Proof.Machine

/-! ### Named values, numbered from 1 by their position (R152) -/

def Presence.code : Presence → Nat
  | .vacant => 1 | .announced => 2 | .commissioned => 3 | .active => 4 | .silent => 5

def Occupancy.code : Occupancy → Nat
  | .free => 1 | .cooking => 2 | .cleaning => 3 | .applying => 4

def Activity.code : Activity → Nat
  | .idle => 1 | .cooking => 2 | .cleaning => 3 | .updating => 4

def PresenceCause.code : PresenceCause → Nat
  | .hello => 1 | .mismatch => 2 | .commission => 3 | .silence => 4 | .return => 5 | .retire => 6

/-- Mode bytes are the same in a STEP frame (R153), in STEP_WRITE (R156) and by R152's numbering. -/
def Mode.code : Mode → Nat
  | .convection => 1 | .steam => 2 | .combi => 3

def EndKind.code : EndKind → Nat
  | .time => 1 | .core => 2

def Overrun.code : Overrun → Nat
  | .note => 1 | .abort => 2

def Role.code : Role → Nat
  | .staged => 1 | .live => 2 | .draining => 3

def CookState.code : CookState → Nat
  | .idle => 1 | .starting => 2 | .running => 3 | .advancing => 4 | .ending => 5

def Origin.code : Origin → Nat
  | .store => 1 | .panel => 2

def CookResult.code : CookResult → Nat
  | .completed => 1 | .endedUnconfirmed => 2 | .stopped => 3 | .abortedNoAck => 4
  | .abortedDeviation => 5 | .abortedCoreTimeout => 6 | .abortedLockout => 7
  | .abortedSilent => 8 | .abortedRestart => 9

/-- Programmes are numbered as the CLEAN REQUEST carries them (05). -/
def Programme.code : Programme → Nat
  | .rinse => 1 | .light => 2 | .medium => 3 | .heavy => 4

def CleanResult.code : CleanResult → Nat
  | .complete => 1 | .aborted => 2 | .fault => 3

def EndedBy.code : EndedBy → Nat
  | .oven => 1 | .release => 2 | .reconcile => 3

def DropReason.code : DropReason → Nat
  | .cook => 1 | .adopted => 2 | .retired => 3 | .locked => 4 | .capability => 5

def Route.code : Route → Nat
  | .direct => 1 | .queue => 2

/-- Severities carry their own numbers (R155). -/
def Severity.code : Severity → Nat
  | .lockout => 0 | .major => 1 | .minor => 2 | .info => 3

def CallKind.code : CallKind → Nat
  | .condition => 1 | .event => 2

def CallState.code : CallState → Nat
  | .opened => 1 | .reported => 2 | .acknowledged => 3 | .resolved => 4

def UpdateState.code : UpdateState → Nat
  | .idle => 1 | .opened => 2 | .receiving => 3 | .sealed => 4 | .applying => 5 | .failed => 6

def FailCause.code : FailCause → Nat
  | .noCause => 1 | .mismatch => 2 | .locked => 3 | .version => 4 | .status => 5 | .timeout => 6
  | .serial => 7

def UpdateEnd.code : UpdateEnd → Nat
  | .applied => 1 | .failed => 2 | .locked => 3 | .retired => 4

def ResetCause.code : ResetCause → Nat
  | .powerOn => 1 | .pin => 2 | .control => 3

def RestoreResult.code : RestoreResult → Nat
  | .restored => 1 | .empty => 2 | .lost => 3

/-- A capability set in its bits: 0 STEAM, 1 PROBE, 2 AUTO_CLEAN (R154). -/
def Caps.code (c : Caps) : Nat :=
  (if c.steam then 1 else 0) + (if c.probe then 2 else 0) + (if c.autoClean then 4 else 0)

/-- The needs of a live version as MAP_READ sends them: one byte in the bits a capability set gives the same
names, 0 STEAM and 1 PROBE. R35 and R152 give a subset no bits (DEDUCED, log 10). -/
def Needs.code (n : Needs) : Nat := (if n.steam then 1 else 0) + (if n.probe then 2 else 0)

/-- An oven address, 0 for the part. -/
def ovenCode : Option OvenId → Nat
  | none => 0
  | some i => i.addr

/-- A mask over the line addresses in four bytes, bit n for address n (R156). -/
def addrMask (m : OvenId → Bool) : Nat :=
  allOvens.foldl (fun a i => if m i then a + 2 ^ i.addr else a) 0

/-! ### REPLY (R155, R157) -/

/-- The answer to a request: result, detail, CLAMPED flag, data. -/
structure Reply where
  result : Result
  detail : Nat := 0
  clamped : Bool := false
  data : List Byte := []
  deriving DecidableEq, Repr

/-- The REPLY frame: it echoes class, tag and sequence of the frame it answers (R152, R155). -/
def replyFrame (r : ReplyTo) (a : Reply) : KFrame :=
  { cls := clsReply, oven := r.oven, tag := 0, seq := r.seq,
    payload := [r.cls] ++ beWord 2 r.tag ++ be 1 a.result.code ++ beFlag a.clamped ++
      be 4 a.detail ++ a.data }

/-- What the REPLY to SOFT_RESET echoes and carries; its transmission end is the reset (R163). -/
def isSoftResetReply (k : KFrame) : Bool :=
  k.cls == clsReply && k.payload.take 4 == [clsControl, 0, 6, 2]

/-! ### REPORT and SERVICE (R152, R155) -/

/-- A REPORT: tag, sequence 0, and the part as sender (DEDUCED: the oven address of an upward frame is
the sender, and the part is 0; log 9). -/
def reportFrame (tag : BitVec 16) (p : List Byte) : KFrame :=
  { cls := clsReport, oven := 0, tag := tag, seq := 0, payload := p }

/-- REPORT STARTED (R167). -/
def reportStarted (cause : ResetCause) (r : RestoreResult) (saves : Nat) (t : LineTime) : KFrame :=
  reportFrame 1 (be 1 cause.code ++ be 1 r.code ++ be 2 saves ++ beWord 4 t)

/-- REPORT COOK_STARTED of a panel start (R48). -/
def reportCookStarted (i : OvenId) (recipe version : Nat) (result : Result) (answered : Bool)
    (t : LineTime) : KFrame :=
  reportFrame 2 (be 1 i.addr ++ be 2 recipe ++ be 1 version ++ be 1 Origin.panel.code ++
    be 1 result.code ++ beFlag answered ++ beWord 4 t)

/-- REPORT COOK_END (R58). -/
def reportCookEnd (i : OvenId) (c : CookCtx) (r : CookResult) (now : LineTime) : KFrame :=
  reportFrame 3 (be 1 i.addr ++ be 2 c.recipe ++ be 1 c.version ++ beWord 2 c.batch ++
    be 1 c.origin.code ++ be 1 r.code ++ be 1 c.stepsDone ++ be 4 c.total ++
    be 4 (c.doorOpen / 10) ++ be 2 c.gaps ++ beWord 4 (now - c.started))

/-- REPORT CLEAN_ADMITTED (R82). -/
def reportCleanAdmitted (i : OvenId) (p : Programme) (seq : Byte) (taken admitted : LineTime)
    (count : Nat) (route : Route) : KFrame :=
  reportFrame 4 (be 1 i.addr ++ be 1 p.code ++ [seq] ++ beWord 4 taken ++ beWord 4 admitted ++
    be 1 count ++ be 1 route.code)

/-- The programme byte, 0 where unknown (R152). -/
def programmeCode : Option Programme → Nat
  | none => 0
  | some p => p.code

/-- REPORT CLEAN_END (R88). -/
def reportCleanEnd (i : OvenId) (r : CleanRecord) (result : CleanResult) (by' : EndedBy)
    (now : LineTime) (count : Nat) : KFrame :=
  reportFrame 5 (be 1 i.addr ++ be 1 (programmeCode r.programme) ++ be 1 result.code ++
    be 1 by'.code ++ be 1 r.phase ++ beFlag r.overtime ++ beFlag r.cancelSent ++
    beWord 4 (now - r.admitted) ++ be 1 count)

/-- REPORT CLEAN_DROPPED (R84). -/
def reportCleanDropped (w : WaitEntry) (reason : DropReason) (now : LineTime) : KFrame :=
  reportFrame 6 (be 1 w.oven.addr ++ be 1 w.programme.code ++ [w.seq] ++ beWord 4 w.taken ++
    be 1 reason.code ++ beWord 4 now)

/-- REPORT UPDATE_END (R123). -/
def reportUpdateEnd (i : OvenId) (u : UpdateCtx) (r : UpdateEnd) (cause : FailCause)
    (announced : Version) (now : LineTime) : KFrame :=
  reportFrame 7 (be 1 i.addr ++ be 2 u.imageId ++ be 1 r.code ++ be 1 cause.code ++
    [u.version.major, u.version.minor, announced.major, announced.minor] ++
    be 4 u.length ++ be 4 u.passed ++ beFlag u.begun ++ beWord 4 now)

/-- REPORT OVEN_STATE (R19). -/
def reportOvenState (i : OvenId) (old new : Presence) (cause : PresenceCause) (serial : BitVec 48)
    (now : LineTime) : KFrame :=
  reportFrame 8 (be 1 i.addr ++ be 1 old.code ++ be 1 new.code ++ be 1 cause.code ++
    beWord 6 serial ++ beWord 4 now)

/-- The SERVICE layout of a call, with the state the entry takes (R102, R155). -/
def serviceBytes (c : Call) (st : CallState) : List Byte :=
  be 2 c.number ++ be 1 (ovenCode c.oven) ++ be 1 c.code ++ be 1 c.severity.code ++
    be 1 c.kind.code ++ be 1 st.code ++ beFlag c.cleared ++ be 1 c.occurrences ++
    beWord 4 c.firstSeen ++ beWord 4 c.lastSeen

/-- A SERVICE frame (R102). -/
def serviceFrame (c : Call) (st : CallState) : KFrame :=
  { cls := clsService, oven := 0, tag := 0, seq := 0, payload := serviceBytes c st }

/-! ### STEP class (R153) -/

/-- The kitchen frame of a step slot's frame for an oven (R41, R153). -/
def slotKFrame (i : OvenId) : SlotFrame → KFrame
  | .step index count h =>
    { cls := clsStep, oven := ovenByte i, tag := 1, seq := 0,
      payload := be 1 index ++ be 1 count ++ be 1 h.mode.code ++ beSigned h.cavity ++
        be 1 h.humidity ++ be 1 h.fan ++ be 1 h.endKind.code }
  | .endCook index =>
    { cls := clsStep, oven := ovenByte i, tag := 2, seq := 0, payload := be 1 index }
  | .stop => { cls := clsStep, oven := ovenByte i, tag := 3, seq := 0, payload := [] }
  | .refuse recipe reason =>
    { cls := clsStep, oven := ovenByte i, tag := 4, seq := 0,
      payload := be 2 recipe ++ be 1 reason.code }

/-- The roll call: an IDENTIFY to all ovens (R143, R153). -/
def identifyFrame : KFrame :=
  { cls := clsStep, oven := allOvensAddr, tag := 5, seq := 0, payload := [] }

/-! ### Data of the reading requests -/

/-- STEP_READ data: field contents, written flag, owner; FREE as zeros (R24; DEDUCED, log 10). -/
def stepData (r : StepRec) : List Byte :=
  be 1 r.params.mode.code ++ beSigned r.params.cavity ++ be 1 r.params.humidity ++
    be 1 r.params.fan ++ be 1 r.params.endKind.code ++ be 2 r.params.duration ++
    beSigned (r.params.coreTarget.getD 0) ++ be 2 r.params.hold ++ be 1 r.params.tolLow ++
    be 1 r.params.tolHigh ++ be 2 r.params.budget ++ be 1 r.params.overrun.code ++
    beFlag r.written ++
    match r.owner with
    | none => be 2 0 ++ be 1 0 ++ be 1 0
    | some o => be 2 o.recipe ++ be 1 o.version ++ be 1 o.role.code

/-- An entry is DEFINED while it holds a live or a staged version (02). -/
def RecipeEntry.isDefined (e : RecipeEntry) : Bool := e.live.isSome || e.staged.isSome

/-- MAP_READ data: state, live, staged and draining version, the two masks; an absent version as zeros
(R35; DEDUCED, log 10). -/
def recipeData (e : RecipeEntry) : List Byte :=
  be 1 (if e.isDefined then 2 else 1) ++
    (match e.live with
      | none => be 1 0 ++ be 2 0 ++ be 1 0 ++ be 1 0 ++ be 1 0
      | some v => be 1 v.run.version ++ be 2 v.run.first ++ be 1 v.run.count ++
          be 1 v.needs.code ++ be 1 v.users) ++
    (match e.staged with
      | none => be 1 0 ++ be 2 0 ++ be 1 0
      | some r => be 1 r.version ++ be 2 r.first ++ be 1 r.count) ++
    (match e.draining with
      | none => be 1 0 ++ be 2 0 ++ be 1 0 ++ be 1 0
      | some v => be 1 v.run.version ++ be 2 v.run.first ++ be 1 v.run.count ++ be 1 v.users) ++
    beWord 1 e.dayparts ++ be 4 (e.permit.toNat * 2)

/-- The commissioning record after its flag byte, zeros where absent (R18). -/
def recordData : Option CommRecord → List Byte
  | none => beFlag false ++ be 6 0 ++ be 1 0 ++ be 1 0 ++ be 1 0 ++ be 1 0 ++ be 1 0
  | some r => beFlag true ++ beWord 6 r.serial ++ be 1 r.modelClass ++ be 1 r.caps.code ++
      be 1 r.window ++ be 1 r.scale ++ be 1 r.decimation

/-- The announced fields after their flag byte, zeros where absent (R18). -/
def announcedData : Option Announced → List Byte
  | none => beFlag false ++ be 6 0 ++ be 1 0 ++ be 1 0 ++ be 1 0 ++ be 1 0 ++ be 1 0
  | some a => beFlag true ++ beWord 6 a.serial ++ be 1 a.modelClass ++ be 1 a.caps.code ++
      [a.version.major, a.version.minor] ++ be 1 a.activity.code

/-- The counters in the order of R13, ending with the decimation phase (R18). -/
def countersData (c : OvenCounters) : List Byte :=
  be 2 c.received ++ be 2 c.refused ++ be 2 c.clamped ++ be 2 c.gaps ++ be 2 c.dropped ++
    be 2 c.duplicates ++ be 2 c.staleAcks ++ be 1 c.phase

/-- The cook context in the order of R40 (R18). -/
def cookData (c : CookCtx) : List Byte :=
  be 1 c.state.code ++ be 1 c.origin.code ++ be 2 c.recipe ++ be 1 c.version ++ be 2 c.first ++
    be 1 c.count ++ beWord 2 c.batch ++ be 1 c.stepIndex ++ be 1 c.stepsDone ++
    be 4 c.stepClock ++ be 4 c.holdClock ++ be 4 c.dev ++ beFlag c.tripped ++ be 4 c.doorOpen ++
    be 2 c.gaps ++ be 2 c.missingRun ++ beWord 2 c.lastStamp ++ beFlag c.baseline ++
    be 4 c.total ++ beWord 4 c.started

/-- The update context in the order of R109 (R18). -/
def updateData (u : UpdateCtx) : List Byte :=
  be 1 u.state.code ++ be 2 u.imageId ++ be 4 u.length ++ beWord 4 u.expectedCrc ++
    [u.version.major, u.version.minor] ++ be 4 u.passed ++ beWord 4 u.crc ++ be 1 u.queued ++
    be 2 u.repeated ++ beWord 4 u.deadline ++ beFlag u.begun ++ be 1 u.cause.code

/-- OVEN_READ data (R18). -/
def ovenData (e : OvenEntry) (overflow : Bool) (c : CookCtx) (u : UpdateCtx) : List Byte :=
  be 1 e.presence.code ++ recordData e.record ++ announcedData e.announced ++
    be 1 e.occupancy.code ++ beFlag e.service ++ beFlag e.locked ++ beFlag overflow ++
    countersData e.counters ++ cookData c ++ updateData u

/-- Number and bytes of a configuration parameter's value (R161): value, byte width by its range. -/
def Params.read (p : Params) : Nat → Option (Nat × Nat)
  | 1 => some (p.kitchenType.toNat, 2)
  | 2 => some (p.cleanMask.toNat, 1)
  | 3 => some (p.updateMask.toNat, 1)
  | 4 => some (p.slotLimit, 1)
  | 5 => some (p.rinse, 2)
  | 6 => some (p.light, 2)
  | 7 => some (p.medium, 2)
  | 8 => some (p.heavy, 2)
  | 9 => some (p.bulkLimit, 1)
  | 10 => some (p.bulkHoldOff, 1)
  | 11 => some (p.stepAckTimeout, 1)
  | 12 => some (p.gapLimit, 1)
  | 13 => some (p.applyTimeout, 2)
  | 14 => some (p.lineErrorThreshold, 1)
  | _ => none

/-- One parameter as REPLY data. -/
def Params.readBytes (p : Params) (n : Nat) : List Byte :=
  match p.read n with
  | some (v, w) => be w v
  | none => []

/-- All fourteen values in parameter-number order (R161). -/
def Params.allBytes (p : Params) : List Byte :=
  (List.range 14).flatMap fun k => p.readBytes (k + 1)

end Sys2Proof.Machine
end

