-- ==== Sys2Proof/Machine/Ops.lean ====
section
/-! DEFINITION. The named operations over the part's tables and queues: access by index, counters, the
Upward Queue, the downward pool, presence, occupancy and the watch. -/

namespace Sys2Proof.Machine

/-! ### Access by index -/

/-- The Oven Table entry of an oven (R2). -/
def State.oven (s : State) (i : OvenId) : OvenEntry := s.ovens[i]

/-- The watch of an oven, where one is kept (R125). -/
def State.watch (s : State) (i : OvenId) : Option Watch := s.watches[i]

/-- The cook context of an oven (R40). -/
def State.cook (s : State) (i : OvenId) : CookCtx := s.cooks[i]

/-- The step slot of an oven (R41). -/
def State.slot (s : State) (i : OvenId) : SlotState := s.slots[i]

/-- The cleaning record of an oven (R77). -/
def State.cleanRecord (s : State) (i : OvenId) : CleanRecord := s.cleaning.records[i]

/-- The update context of an oven (R109). -/
def State.update (s : State) (i : OvenId) : UpdateCtx := s.updates[i]

/-- Change the Oven Table entry of an oven. -/
def State.modOven (s : State) (i : OvenId) (f : OvenEntry → OvenEntry) : State :=
  { s with ovens := s.ovens.set i (f s.ovens[i]) }

/-- Put or discard the watch of an oven. -/
def State.setWatch (s : State) (i : OvenId) (w : Option Watch) : State :=
  { s with watches := s.watches.set i w }

/-- Change the cook context of an oven. -/
def State.modCook (s : State) (i : OvenId) (f : CookCtx → CookCtx) : State :=
  { s with cooks := s.cooks.set i (f s.cooks[i]) }

/-- Put the step slot of an oven. -/
def State.setSlot (s : State) (i : OvenId) (x : SlotState) : State :=
  { s with slots := s.slots.set i x }

/-- Change the cleaning record of an oven. -/
def State.modCleanRecord (s : State) (i : OvenId) (f : CleanRecord → CleanRecord) : State :=
  { s with cleaning :=
      { s.cleaning with records := s.cleaning.records.set i (f s.cleaning.records[i]) } }

/-- Change the update context of an oven. -/
def State.modUpdate (s : State) (i : OvenId) (f : UpdateCtx → UpdateCtx) : State :=
  { s with updates := s.updates.set i (f s.updates[i]) }

/-- Change the counters of an oven (R13). -/
def State.modOvenCounters (s : State) (i : OvenId) (f : OvenCounters → OvenCounters) : State :=
  s.modOven i fun e => { e with counters := f e.counters }

/-- Change the Classifier counters (R136). -/
def State.modDiscards (s : State) (f : Discards → Discards) : State :=
  { s with counters := f s.counters }

/-- A step record by index; the blank record for a number that is no index (R20). -/
def State.stepRec (s : State) (k : Nat) : StepRec :=
  if h : k < 768 then s.steps[k] else StepRec.blank

/-- Change the step record of an index. -/
def modStep (steps : Vector StepRec 768) (k : Nat) (f : StepRec → StepRec) : Vector StepRec 768 :=
  if h : k < 768 then steps.set k (f steps[k]) else steps

/-- The record indices of a run. -/
def Run.indices (r : Run) : List Nat := List.range' r.first r.count

/-- Change every record of a run. -/
def modRun (steps : Vector StepRec 768) (r : Run) (f : StepRec → StepRec) : Vector StepRec 768 :=
  r.indices.foldl (fun st k => modStep st k f) steps

/-- A freed record: owner FREE, written flag cleared, contents kept (R21). -/
def StepRec.freed (r : StepRec) : StepRec := { r with owner := none, written := false }

/-- The Recipe Map index of a recipe number 1 to 512. -/
def recipeOf (n : Nat) : Option (Fin 512) :=
  if h : 1 ≤ n ∧ n ≤ 512 then some ⟨n - 1, by omega⟩ else none

/-- The Recipe Map entry of an index (R25). -/
def State.recipe (s : State) (r : Fin 512) : RecipeEntry := s.recipes[r]

/-- Change a Recipe Map entry. -/
def State.modRecipe (s : State) (r : Fin 512) (f : RecipeEntry → RecipeEntry) : State :=
  { s with recipes := s.recipes.set r (f s.recipes[r]) }

/-- Do something for each line address in order. -/
def forOvens (f : OvenId → State → State) (s : State) : State :=
  allOvens.foldl (fun t i => f i t) s

/-! ### The Upward Queue (R145) -/

/-- The queue has room for a part-generated frame (R145). -/
def State.upRoom (s : State) : Bool := s.up.frames.length < 32

/-- Put a frame at the tail of the Upward Queue. -/
def State.pushUp (s : State) (k : KFrame) : State :=
  { s with up := { s.up with frames := s.up.frames ++ [k] } }

/-- Offer a REPLY: admitted while fewer than 32 entries are held, else counted in replies-lost (R145). -/
def State.offerReply (s : State) (k : KFrame) : State :=
  if s.upRoom then s.pushUp k
  else { s with up := { s.up with repliesLost := sat16 s.up.repliesLost } }

/-- Offer a REPORT: admitted while fewer than 32 entries are held, else counted in reports-lost (R145). -/
def State.offerReport (s : State) (k : KFrame) : State :=
  if s.upRoom then s.pushUp k
  else { s with up := { s.up with reportsLost := sat16 s.up.reportsLost } }

/-- Offer a forwarded SAMPLE or NOTICE: admitted while fewer than 24 entries are held, else counted in the
sending oven's samples dropped for queue (R145). -/
def State.offerForward (s : State) (i : OvenId) (k : KFrame) : State :=
  if s.up.frames.length < 24 then s.pushUp k
  else s.modOvenCounters i fun c => { c with dropped := sat16 c.dropped }

/-! ### The downward pool (R139, R140) -/

/-- The frames the four class queues hold together, one buffer each (R139). -/
def Down.inUse (d : Down) : Nat :=
  d.classes[0].length + d.classes[1].length + d.classes[2].length + d.classes[3].length

/-- A buffer of the 48 is free (R140). -/
def State.bufferFree (s : State) : Bool := s.down.inUse < 48

/-- The fixed hold-off of a refusal for want of a buffer, in ticks (R140). -/
abbrev poolHoldOff : Nat := 2

/-- Join the tail of a class queue (R140). -/
def State.pushDown (s : State) (k : Fin 4) (f : DownFrame) : State :=
  { s with down := { s.down with classes := s.down.classes.set k (s.down.classes[k] ++ [f]) } }

/-- A forwarded frame carries tag, sequence and payload it arrived with, addressed to the oven
(R110, R152). -/
def downFrame (cls : Byte) (tag : BitVec 16) (i : OvenId) (seq : Byte) (p : List Byte) : DownFrame :=
  { frame := { cls := cls, oven := ovenByte i, tag := tag, seq := seq, payload := p }, live := true }

/-! ### Presence and commissioning (R2 to R19) -/

/-- The serial a REPORT OVEN_STATE carries (R19). -/
def OvenEntry.reportSerial (e : OvenEntry) : PresenceCause → BitVec 48
  | .hello | .mismatch => (e.announced.map (·.serial)).getD 0
  | _ => (e.record.map (·.serial)).getD 0

/-- Change an entry's presence and build REPORT OVEN_STATE (R19). -/
def State.setPresence (s : State) (i : OvenId) (p : Presence) (c : PresenceCause) : State :=
  (s.modOven i fun e => { e with presence := p }).offerReport
    (reportOvenState i (s.oven i).presence p c ((s.oven i).reportSerial c) s.lineTime)

/-- The entry holds a commissioning record: COMMISSIONED, ACTIVE or SILENT (01). -/
def OvenEntry.commissioned (e : OvenEntry) : Bool := e.record.isSome

/-- Capabilities present in both sets (R4). -/
def Caps.inter (a b : Caps) : Caps :=
  { steam := a.steam && b.steam, probe := a.probe && b.probe, autoClean := a.autoClean && b.autoClean }

/-- The oven's capabilities: those of record and announcement together, those of the record alone where
nothing was announced (R4); none without a record. -/
def OvenEntry.capabilities (e : OvenEntry) : Caps :=
  match e.record, e.announced with
  | some r, some a => r.caps.inter a.caps
  | some r, none => r.caps
  | none, _ => { steam := false, probe := false, autoClean := false }

/-- A request for COOKING, CLEANING or APPLYING is taken when occupancy is FREE (R11). -/
def State.occupancyFree (s : State) (i : OvenId) : Bool := (s.oven i).occupancy == .free

/-- Set an oven's occupancy (R11). -/
def State.setOccupancy (s : State) (i : OvenId) (o : Occupancy) : State :=
  s.modOven i fun e => { e with occupancy := o }

/-- A request for FREE is taken from the block whose job the occupancy names, and ignored from any other
(R11). -/
def State.releaseOccupancy (s : State) (i : OvenId) (job : Occupancy) : State :=
  if (s.oven i).occupancy = job then s.setOccupancy i .free else s

/-! ### The watch (R125 to R130) -/

/-- A watch is frozen while the service flag is set or occupancy is APPLYING (R130). -/
def OvenEntry.freezes (e : OvenEntry) : Bool := e.service || e.occupancy == .applying

/-- A watch loaded from a commissioning record (R127). -/
def Watch.loaded (r : CommRecord) (frozen : Bool) : Watch :=
  { counter := r.window, prescaler := r.scale, scale := r.scale, frozen := frozen }

/-- A reload: counter, prescaler and scale in use from the record, the frozen flag kept (R127). Without a
watch or a record nothing is loaded. -/
def State.reloadWatch (s : State) (i : OvenId) : State :=
  match s.watch i, (s.oven i).record with
  | some w, some r => s.setWatch i (some (Watch.loaded r w.frozen))
  | _, _ => s

/-- Start a watch when its entry becomes ACTIVE; it starts frozen where a condition of R130 holds
(R125, R130). -/
def State.startWatch (s : State) (i : OvenId) : State :=
  match (s.oven i).record with
  | some r => s.setWatch i (some (Watch.loaded r (s.oven i).freezes))
  | none => s

/-- Bring the frozen flag to what the service flag and the occupancy say (R130). -/
def State.refreeze (s : State) (i : OvenId) : State :=
  match s.watch i with
  | some w => s.setWatch i (some { w with frozen := (s.oven i).freezes })
  | none => s

end Sys2Proof.Machine
end

