-- ==== Sys2Proof/Machine/Admission.lean ====
section
/-! DEFINITION. Cleaning Admission: the wait queue, admission of an oven and the admission pass
(R78, R81 to R85). -/

namespace Sys2Proof.Machine

/-- The expected duration of a programme, in minutes (R77). -/
def Params.duration (p : Params) : Programme → Nat
  | .rinse => p.rinse
  | .light => p.light
  | .medium => p.medium
  | .heavy => p.heavy

/-- The overtime deadline of a cleaning that begins at `t` (R82): a line time, so it wraps with line time
(DEDUCED, log 21). -/
def overtimeDeadline (t : LineTime) (minutes : Nat) : LineTime := t + BitVec.ofNat 32 (minutes * 60)

/-- A slot may be given: the count is below the limit and the daypart is in the clean daypart mask
(R81, R85). -/
def State.slotOpen (s : State) : Bool :=
  decide (s.cleaning.slotCount < s.config.slotLimit) && s.config.cleanMask.getLsbD s.daypart.val

/-- The oven has an entry in the Cleaning Wait Queue (R80). -/
def State.waiting (s : State) (i : OvenId) : Bool := s.cleaning.queue.any (fun w => w.oven == i)

/-- Take an oven's entry out of the Cleaning Wait Queue; the others keep their order (R84). -/
def State.removeWait (s : State) (i : OvenId) : State :=
  { s with cleaning :=
      { s.cleaning with queue := s.cleaning.queue.filter (fun w => w.oven != i) } }

/-- Drop an oven's wait entry, where it has one, with REPORT CLEAN_DROPPED (R84). -/
def State.dropWait (s : State) (i : OvenId) (reason : DropReason) : State :=
  match s.cleaning.queue.find? (fun w => w.oven == i) with
  | some w => (s.removeWait i).offerReport (reportCleanDropped w reason s.lineTime)
  | none => s

/-- Oven Table takes CLEANING and the slot count increments (R78, R82). -/
def State.takeSlot (s : State) (i : OvenId) : State :=
  let t := s.setOccupancy i .cleaning
  { t with cleaning := { t.cleaning with slotCount := t.cleaning.slotCount + 1 } }

/-- The record an admission opens (R82). -/
def admittedRecord (p : Programme) (seq : Byte) (now : LineTime) (minutes : Nat) : CleanRecord :=
  { isOpen := true, programme := some p, phase := 0, admitted := now,
    deadline := overtimeDeadline now minutes, timer := .running, overtime := false,
    requestSent := false, cancelSent := false, seq := seq }

/-- Admit an oven to cleaning: occupancy and count, record, REQUEST to class 1, REPORT CLEAN_ADMITTED, in
this order (R82). -/
def State.admitOven (s : State) (i : OvenId) (p : Programme) (seq : Byte) (taken : LineTime)
    (route : Route) : State :=
  let s1 := s.takeSlot i
  let s2 := s1.modCleanRecord i fun _ => admittedRecord p seq s.lineTime (s.config.duration p)
  let s3 := s2.pushDown 1 (downFrame clsClean tagCleanRequest i seq (be 1 p.code))
  s3.offerReport (reportCleanAdmitted i p seq taken s.lineTime s3.cleaning.slotCount route)

/-- The walk of an admission pass over the entries still to be looked at (table of R85). An entry whose
oven is not FREE is kept: the Oven Table refuses the request (R11); the queue's law says there is none. -/
def passWalk : List WaitEntry → State → State
  | [], s => s
  | w :: rest, s =>
    if !s.slotOpen then s
    else if (s.oven w.oven).locked then passWalk rest (s.dropWait w.oven .locked)
    else if !(s.oven w.oven).capabilities.autoClean then
      passWalk rest (s.dropWait w.oven .capability)
    else if (s.oven w.oven).presence == .silent || (s.oven w.oven).service
        || !s.occupancyFree w.oven then passWalk rest s
    else if s.bufferFree then
      passWalk rest ((s.admitOven w.oven w.programme w.seq w.taken .queue).removeWait w.oven)
    else { s with cleaning := { s.cleaning with passHeld := true } }

/-- An admission pass: it clears the pass held for buffer flag and walks the queue from its head (R85). -/
def State.admissionPass (s : State) : State :=
  passWalk s.cleaning.queue { s with cleaning := { s.cleaning with passHeld := false } }

/-- A freed buffer starts a pass where one was held for it (R83, R144). -/
def State.bufferFreed (s : State) : State :=
  if s.cleaning.passHeld then s.admissionPass else s

end Sys2Proof.Machine
end

