-- ==== Sys2Proof/Machine/Calls.lean ====
section
/-! DEFINITION. The Call Table: finding, reporting, clearing, resolving, creating calls, and the lock
derivation (R93 to R105). -/

namespace Sys2Proof.Machine

/-- The 32 positions in order. -/
def allPositions : List (Fin 32) := List.finRange 32

/-- The entry at a position. -/
def State.call (s : State) (p : Fin 32) : Option Call := s.calls.slots[p]

/-- Put or free a position. -/
def State.setCall (s : State) (p : Fin 32) (c : Option Call) : State :=
  { s with calls := { s.calls with slots := s.calls.slots.set p c } }

/-- A call in OPEN, REPORTED or ACKNOWLEDGED is unresolved (06). -/
def Call.unresolved (c : Call) : Bool := c.state != .resolved

/-- The position of the unresolved call for an oven and a code (R97). -/
def State.findCall (s : State) (sub : Option OvenId) (code : Nat) : Option (Fin 32) :=
  allPositions.find? fun p =>
    match s.call p with
    | some c => c.unresolved && c.oven == sub && c.code == code
    | none => false

/-- Positions in use, in every state (R100). -/
def State.callsInUse (s : State) : Nat := allPositions.countP fun p => (s.call p).isSome

/-- The lowest-numbered free position (R93). -/
def State.lowestFree (s : State) : Option (Fin 32) := allPositions.find? fun p => (s.call p).isNone

/-- Free a position: it leaves the creation order and the report list (R101, R104). -/
def State.freeCall (s : State) (p : Fin 32) : State :=
  { s with calls :=
      { s.calls with
        slots := s.calls.slots.set p none
        order := s.calls.order.filter (fun q => q != p)
        reports := s.calls.reports.filter (fun q => q != p) } }

/-- Leave the report list (R102). -/
def State.leaveReports (s : State) (p : Fin 32) : State :=
  { s with calls := { s.calls with reports := s.calls.reports.filter (fun q => q != p) } }

/-- Join the tail of the report list (R102). -/
def State.joinReports (s : State) (p : Fin 32) : State :=
  { s with calls := { s.calls with reports := s.calls.reports ++ [p] } }

/-- The waiting entry whose SERVICE frame is built next: the most severe, and among those the one that has
waited longest (R102). -/
def State.nextReport (s : State) : Option (Fin 32) :=
  [Severity.lockout, .major, .minor, .info].findSome? fun sev =>
    s.calls.reports.find? fun p =>
      match s.call p with
      | some c => c.severity == sev
      | none => false

/-- Build one SERVICE frame: an OPEN entry becomes REPORTED, a RESOLVED entry is freed (R102, R104). -/
def State.reportCall (s : State) (p : Fin 32) : State :=
  match s.call p with
  | some c =>
    match c.state with
    | .opened =>
      ((s.setCall p (some { c with state := .reported })).leaveReports p).pushUp
        (serviceFrame c .reported)
    | .resolved => (s.freeCall p).pushUp (serviceFrame c .resolved)
    | _ => s.leaveReports p
  | none => s.leaveReports p

/-- At most `n` SERVICE frames, while the Upward Queue has room (R102). -/
def buildServiceN : Nat → State → State
  | 0, s => s
  | n + 1, s =>
    if s.upRoom then
      match s.nextReport with
      | some p => buildServiceN n (s.reportCall p)
      | none => s
    else s

/-- Build SERVICE frames for waiting entries for as long as the queue has room (R102). -/
def State.buildService (s : State) : State := buildServiceN s.calls.reports.length s

/-- Whether the Call Table holds the oven locked: an unresolved LOCKOUT call of it, or its overflow
lockout bit (R105). -/
def State.lockDerived (s : State) (i : OvenId) : Bool :=
  s.calls.overflow[i] || allPositions.any fun p =>
    match s.call p with
    | some c => c.unresolved && c.oven == some i && c.severity == .lockout
    | none => false

/-- Clear the locked flag where the derivation no longer holds; an admission pass then runs (R105). -/
def State.relock (s : State) (i : OvenId) : State :=
  if (s.oven i).locked && !s.lockDerived i then
    (s.modOven i fun e => { e with locked := false }).admissionPass
  else s

/-- Where a call of severity LOCKOUT has become RESOLVED, the lock of its oven is derived anew (R105). -/
def State.relockFor (s : State) (c : Call) : State :=
  match c.severity, c.oven with
  | .lockout, some i => s.relock i
  | _, _ => s

/-- An entry becomes RESOLVED: it joins the report list, its final frame is built where there is room, and
a lock it held is derived anew (R104, R105). -/
def State.resolveCall (s : State) (p : Fin 32) (c : Call) : State :=
  (((s.setCall p (some { c with cleared := true, state := .resolved })).joinReports p).buildService).relockFor c

/-- Set the cleared-at-source flag of an entry; an ACKNOWLEDGED entry becomes RESOLVED, an entry whose flag
is set is left as it is (R98, R99). -/
def State.clearCall (s : State) (p : Fin 32) : State :=
  match s.call p with
  | some c =>
    if c.cleared then s
    else if c.state = .acknowledged then s.resolveCall p c
    else s.setCall p (some { c with cleared := true })
  | none => s

/-- A clearing event for an oven and a code; without an unresolved entry it changes nothing
(R95, R99). -/
def State.clearAtSource (s : State) (sub : Option OvenId) (code : Nat) : State :=
  match s.findCall sub code with
  | some p => s.clearCall p
  | none => s

/-- The call number after `n` (R94). -/
def nextNumber (n : Nat) : Nat := if n = 65535 then 1 else n + 1

/-- An entry in the table carries the number (R94). -/
def State.numberCarried (s : State) (n : Nat) : Bool :=
  allPositions.any fun p =>
    match s.call p with
    | some c => c.number == n
    | none => false

/-- The first number from `n` on that no entry carries; 32 entries cannot carry 33 numbers (R94). -/
def State.freeNumber (s : State) : Nat → Nat → Nat
  | 0, n => n
  | fuel + 1, n => if s.numberCarried n then s.freeNumber fuel (nextNumber n) else n

/-- Merge an occurrence into an unresolved entry (R97). -/
def State.mergeCall (s : State) (p : Fin 32) : State :=
  match s.call p with
  | some c =>
    s.setCall p (some { c with
      occurrences := satAdd 255 c.occurrences 1
      lastSeen := s.lineTime
      cleared := if c.kind = .condition then false else c.cleared })
  | none => s

/-- The entry a creation makes (R97). -/
def newCall (s : State) (sub : Option OvenId) (code : Nat) (sev : Severity) (kind : CallKind) : Call :=
  { number := s.freeNumber 32 s.calls.next, oven := sub, code := code, severity := sev, kind := kind,
    state := .opened, cleared := decide (kind = .event), occurrences := 1,
    firstSeen := s.lineTime, lastSeen := s.lineTime }

/-- Create a call in a position: it joins the creation order and the report list, and a SERVICE frame is
built where there is room (R94, R97). -/
def State.createCall (s : State) (p : Fin 32) (sub : Option OvenId) (code : Nat) (sev : Severity)
    (kind : CallKind) : State :=
  let c := newCall s sub code sev kind
  let t := s.setCall p (some c)
  State.buildService
    { t with calls :=
        { t.calls with
          order := t.calls.order ++ [p]
          reports := t.calls.reports ++ [p]
          next := nextNumber c.number } }

/-- Count a lost call (R100, R101). -/
def State.loseCall (s : State) : State :=
  { s with calls := { s.calls with lost := sat16 s.calls.lost } }

/-- The newest entry that is not LOCKOUT: the one latest in the creation order (R101). -/
def State.newestLesser (s : State) : Option (Fin 32) :=
  s.calls.order.reverse.find? fun p =>
    match s.call p with
    | some c => c.severity != .lockout
    | none => false

/-- Set or clear an overflow lockout bit (R101). -/
def State.setOverflow (s : State) (i : OvenId) (b : Bool) : State :=
  { s with calls := { s.calls with overflow := s.calls.overflow.set i b } }

end Sys2Proof.Machine
end

