-- ==== Sys2Proof/Machine/CookEngine.lean ====
section
/-! DEFINITION. The Cook Engine: the step slot, step frames, users of recipe versions, advancing and going
IDLE (R33, R34, R42, R49, R53, R57). -/

namespace Sys2Proof.Machine

/-- The part's codes (R95). -/
abbrev codeSilent : Nat := 200
abbrev codeDeviation : Nat := 201
abbrev codeCoreTimeout : Nat := 202
abbrev codeStepNoAck : Nat := 203
abbrev codeOvenRestart : Nat := 204
abbrev codeCookLost : Nat := 205
abbrev codeCleanOvertime : Nat := 206
abbrev codeCleanFault : Nat := 207
abbrev codeUpdateFailed : Nat := 208
abbrev codeMismatch : Nat := 209
abbrev codeLineErrors : Nat := 210
abbrev codeStoreLost : Nat := 211
abbrev codeStoreWorn : Nat := 212
abbrev codeSensorMissing : Nat := 213

/-- A new STOP takes a slot: a PENDING STOP is left, anything else is replaced, and the timer of a SENT
frame stops (R42). -/
def SlotState.withStop (x : SlotState) : SlotState :=
  match x.slot with
  | .pending .stop _ => x
  | _ => { slot := .pending .stop false, timer := none }

/-- Put a STOP in an oven's slot (R42). -/
def State.putStop (s : State) (i : OvenId) : State := s.setSlot i (s.slot i).withStop

/-- A REFUSE may be built: the slot is EMPTY or holds a PENDING REFUSE (R42, R48). -/
def Slot.takesRefuse : Slot → Bool
  | .empty => true
  | .pending (.refuse _ _) _ => true
  | _ => false

/-- The slot holds a PENDING STOP (R45). -/
def Slot.pendingStop : Slot → Bool
  | .pending .stop _ => true
  | _ => false

/-- What a STEP frame carries of a record (R49). -/
def StepParams.head (p : StepParams) : StepHead :=
  { mode := p.mode, cavity := p.cavity, humidity := p.humidity, fan := p.fan, endKind := p.endKind }

/-- The STEP frame of a context's present step, built from record first plus step index (R49). -/
def State.stepFrame (s : State) (i : OvenId) : SlotFrame :=
  let c := s.cook i
  .step c.stepIndex c.count (s.stepRec (c.first + c.stepIndex)).params.head

/-- Put a frame PENDING in a slot; a STEP or END finds it EMPTY or holding a REFUSE (R42). -/
def State.putPending (s : State) (i : OvenId) (f : SlotFrame) : State :=
  s.setSlot i { slot := .pending f false, timer := none }

/-- One cook fewer on the draining version that carries the number; without users it is freed at once
(R33, R34). -/
def State.dropDraining (s : State) (r : Fin 512) (version : Nat) : State :=
  match (s.recipe r).draining with
  | some v =>
    if v.run.version = version then
      if v.users ≤ 1 then
        { (s.modRecipe r fun e => { e with draining := none }) with
          steps := modRun s.steps v.run StepRec.freed }
      else s.modRecipe r fun e => { e with draining := some { v with users := v.users - 1 } }
    else s
  | none => s

/-- One cook fewer on a version of a recipe: the live-user count or the draining-user count, whichever
version carries the number (R33). -/
def State.dropUser (s : State) (recipe version : Nat) : State :=
  match recipeOf recipe with
  | none => s
  | some r =>
    match (s.recipe r).live with
    | some v =>
      if v.run.version = version then
        s.modRecipe r fun e => { e with live := some { v with users := v.users - 1 } }
      else s.dropDraining r version
    | none => s.dropDraining r version

/-- The total deviation with the unfinished step's whole degree-seconds folded in (R57, R74). -/
def CookCtx.folded (c : CookCtx) : CookCtx := { c with total := satAdd max32 c.total (c.dev / 100) }

/-- The context as its end leaves it before it is reported: a RUNNING step is folded (R57). -/
def CookCtx.atEnd (c : CookCtx) : CookCtx := if c.state = .running then c.folded else c

/-- A cook context goes IDLE with a result: timer, fold, report, user count, occupancy, calls, state, in
the order of R57. -/
def State.cookGoIdle (s : State) (i : OvenId) (r : CookResult) : State :=
  let s1 := (s.setSlot i { s.slot i with timer := none }).modCook i CookCtx.atEnd
  let s2 := s1.offerReport (reportCookEnd i (s1.cook i) r s1.lineTime)
  let s3 := s2.dropUser (s1.cook i).recipe (s1.cook i).version
  let s4 := s3.releaseOccupancy i .cooking
  let s5 := ((s4.clearAtSource (some i) codeDeviation).clearAtSource (some i)
    codeCoreTimeout).clearAtSource (some i) codeSensorMissing
  s5.modCook i fun c => { c with state := .idle }

/-- A context that is not IDLE goes IDLE with a result and a STOP is put in its slot (R54 to R56); an IDLE
context finds no cook. -/
def State.stopCook (s : State) (i : OvenId) (r : CookResult) : State :=
  if (s.cook i).state = .idle then s else (s.cookGoIdle i r).putStop i

/-- A completed step: the next STEP, or the END after the last one (R53). -/
def State.advanceCook (s : State) (i : OvenId) : State :=
  let c := s.cook i
  if c.stepIndex + 1 < c.count then
    let t := s.modCook i fun c =>
      { c with stepsDone := c.stepsDone + 1, stepIndex := c.stepIndex + 1, state := .advancing }
    t.putPending i (t.stepFrame i)
  else
    (s.modCook i fun c =>
      { c with stepsDone := c.stepsDone + 1, stepIndex := c.count, state := .ending }).putPending i
        (.endCook c.count)

end Sys2Proof.Machine
end

