-- ==== Sys2Proof/Machine/Jobs.lean ====
section
/-! DEFINITION. Taking an occurrence with the lock it may bring (R97, R100, R101, R106), the end of a
cleaning (R87), the adoption of one (R9), the end of an apply (R119). -/

namespace Sys2Proof.Machine

/-- The lock's effect on an update context: OPEN, RECEIVING or SEALED becomes FAILED with cause LOCKED and
REPORT UPDATE_END is built (R106, R122). -/
def State.lockUpdate (s : State) (i : OvenId) : State :=
  if (s.update i).state = .opened ∨ (s.update i).state = .receiving ∨ (s.update i).state = .sealed then
    let t := s.modUpdate i fun u => { u with state := .failed, cause := .locked }
    t.offerReport (reportUpdateEnd i (t.update i) .locked .locked ⟨0, 0⟩ s.lineTime)
  else s

/-- An oven becomes locked: flag, cook, wait entry, transfer, in the order of R105 and R106. A locked
oven's effects do not run again. -/
def State.lockOven (s : State) (i : OvenId) : State :=
  if (s.oven i).locked then s
  else
    (((s.modOven i fun e => { e with locked := true }).stopCook i .abortedLockout).dropWait i
      .locked).lockUpdate i

/-- The lock that a LOCKOUT occurrence brings to its oven; the part has none (R105). -/
def State.lockSubject (s : State) : Option OvenId → State
  | some i => s.lockOven i
  | none => s

/-- The oven's overflow lockout bit is set; the part has none (R101, R105). -/
def State.overflowSubject (s : State) : Option OvenId → State
  | some i => s.setOverflow i true
  | none => s

/-- Take an occurrence: merge it, or create a call where there is room (R97, R100, R101). -/
def State.raise (s : State) (sub : Option OvenId) (code : Nat) (sev : Severity) (kind : CallKind) :
    State :=
  match s.findCall sub code with
  | some p => s.mergeCall p
  | none =>
    if sev = .lockout then
      match s.lowestFree, s.newestLesser with
      | some p, _ => (s.createCall p sub code sev kind).lockSubject sub
      | none, some p => (((s.freeCall p).loseCall).createCall p sub code sev kind).lockSubject sub
      | none, none => ((s.overflowSubject sub).loseCall).lockSubject sub
    else if s.callsInUse < 28 then
      match s.lowestFree with
      | some p => s.createCall p sub code sev kind
      | none => s.loseCall
    else s.loseCall

/-- The queued REQUEST of a cleaning that has ended sets no flag any more (R144). -/
def DownFrame.staleRequest (i : OvenId) (f : DownFrame) : DownFrame :=
  if f.frame.cls = clsClean ∧ f.frame.tag = tagCleanRequest ∧ f.frame.oven = ovenByte i then
    { f with live := false }
  else f

/-- Mark the REQUEST an ended cleaning still has in class queue 1 (R144). -/
def State.staleRequests (s : State) (i : OvenId) : State :=
  { s with down :=
      { s.down with classes :=
          s.down.classes.set 1 (s.down.classes[1].map (DownFrame.staleRequest i)) } }

/-- Oven Table takes FREE from Cleaning Admission and the slot count decrements (R78, R87). -/
def State.giveSlot (s : State) (i : OvenId) : State :=
  if (s.oven i).occupancy = .cleaning then
    let t := s.setOccupancy i .free
    { t with cleaning := { t.cleaning with slotCount := t.cleaning.slotCount - 1 } }
  else s

/-- A cleaning ends: occupancy and count, overtime timer and its call, REPORT CLEAN_END, CLEAN_FAULT, the
record, the admission pass, in the order of R87. -/
def State.endCleaning (s : State) (i : OvenId) (r : CleanResult) (by' : EndedBy) : State :=
  let s1 := (s.giveSlot i).staleRequests i
  let s2 := (s1.modCleanRecord i fun c => { c with timer := .stopped }).clearAtSource (some i)
    codeCleanOvertime
  let s3 := s2.offerReport (reportCleanEnd i (s2.cleanRecord i) r by' s2.lineTime s2.cleaning.slotCount)
  let s4 := if r = .fault then s3.raise (some i) codeCleanFault .major .event else s3
  (s4.modCleanRecord i fun c => { c with isOpen := false }).admissionPass

/-- The record an adoption opens: programme unknown, phase 0, the heavy programme's duration, the request
sent flag set (R9, R86, R91). -/
def adoptedRecord (now : LineTime) (minutes : Nat) : CleanRecord :=
  { isOpen := true, programme := none, phase := 0, admitted := now,
    deadline := overtimeDeadline now minutes, timer := .running, overtime := false,
    requestSent := true, cancelSent := false, seq := 0 }

/-- Cleaning Admission adopts a cleaning the oven reports (R9). -/
def State.adopt (s : State) (i : OvenId) : State :=
  ((s.takeSlot i).modCleanRecord i fun _ => adoptedRecord s.lineTime s.config.heavy).dropWait i .adopted

/-- An apply ends: timer, context, occupancy, UPDATE_FAILED, REPORT UPDATE_END, watch, admission pass, in
the order of R119. The cause `noCause` is the APPLIED ending. -/
def State.endApply (s : State) (i : OvenId) (cause : FailCause) (announced : Version) : State :=
  let failed := cause != .noCause
  let s1 := s.modUpdate i fun u =>
    { u with timer := .stopped, state := if failed then .failed else .idle, cause := cause }
  let s2 := s1.releaseOccupancy i .applying
  let s3 := if failed then s2.raise (some i) codeUpdateFailed .major .event else s2
  let s4 := s3.offerReport
    (reportUpdateEnd i (s3.update i) (if failed then .failed else .applied) cause announced s3.lineTime)
  ((s4.refreeze i).reloadWatch i).admissionPass

end Sys2Proof.Machine
end

