-- ==== Sys2Proof/Machine/CookWatch.lean ====
section
/-! DEFINITION. The cook watch: the arithmetic of one SAMPLE over a cook context (R60 to R74), and what its
outcome does to the part. -/

namespace Sys2Proof.Machine

/-- A SAMPLE's readings as it carries them, temperatures in tenths, −32768 for no reading (R154). -/
structure Sample where
  stamp : BitVec 16
  cavity : Int
  core : Int
  door : Bool
  probe : Bool
  deriving DecidableEq, Repr

/-- The SAMPLE payload (R154). -/
def Sample.ofPayload (p : List Byte) : Sample :=
  { stamp := BitVec.ofNat 16 (field p 0 2), cavity := signedField p 2, core := signedField p 4,
    door := (p.getD 6 0).getLsbD 0, probe := (p.getD 6 0).getLsbD 1 }

/-- A temperature after the clamp of R61: `none` for no reading. -/
def clampReading (v : Int) : Option Int :=
  if v = -32768 then none
  else if v < -500 then some (-500)
  else if 4000 < v then some 4000
  else some v

/-- How many values the clamp replaced: 1 or 0 (R61). -/
def clampCount (v : Int) : Nat := if v ≠ -32768 ∧ (v < -500 ∨ 4000 < v) then 1 else 0

/-- The interval of a sample, modulo 65,536 (R64). -/
def interval (t prev : BitVec 16) : Nat := (t - prev).toNat

/-- The distance of a cavity value from the step's band (R68). -/
def bandDistance (p : StepParams) (tc : Int) : Nat :=
  if tc < p.cavity - p.tolLow then (p.cavity - p.tolLow - tc).toNat
  else if p.cavity + p.tolHigh < tc then (tc - (p.cavity + p.tolHigh)).toNat
  else 0

/-- The severity of DEVIATION and CORE_TIMEOUT: MINOR for NOTE, MAJOR for ABORT (R70, R73, R95). -/
def Overrun.severity : Overrun → Severity
  | .note => .minor
  | .abort => .major

/-- What a fully processed sample asks of the rest of the part, beside the context's new fields. -/
inductive Verdict where
  | goOn
  | complete
  | abort (r : CookResult)
  deriving DecidableEq, Repr

/-- The outcome of a sample: the context, the counters it moves, the occurrences it raises and its
verdict. `missing` raises SENSOR_MISSING, `reading` clears it (R68, R69). -/
structure WatchOutcome where
  ctx : CookCtx
  duplicate : Bool := false
  gap : Bool := false
  reading : Bool := false
  missing : Bool := false
  deviation : Option Severity := none
  coreTimeout : Option Severity := none
  verdict : Verdict := .goOn
  deriving DecidableEq, Repr

/-- The deviation and missing-reading stage of a door-closed sample (R68, R69). -/
def CookCtx.addDeviation (c : CookCtx) (p : StepParams) (tc : Option Int) (e : Nat) : CookCtx :=
  match tc with
  | some v => { c with dev := satAdd max32 c.dev (bandDistance p v * e), missingRun := 0 }
  | none => { c with missingRun := sat16 c.missingRun }

/-- The budget trips (R70). -/
def CookCtx.budgetTrips (c : CookCtx) (p : StepParams) : Bool :=
  decide (0 < p.budget) && decide (p.budget * 100 ≤ c.dev) && !c.tripped

/-- A sample qualifies for the hold of a CORE step (R72). A CORE step without a target qualifies no
sample; RELEASE lets none become live (R30). -/
def qualifies (p : StepParams) (tk : Option Int) (probe : Bool) : Bool :=
  match tk, p.coreTarget with
  | some k, some target => probe && decide (target ≤ k)
  | _, _ => false

/-- The end test of the step's end kind, with the core timeout (R71 to R73), and the fold of a completed
step (R74). -/
def WatchOutcome.endTest (o : WatchOutcome) (p : StepParams) (tk : Option Int) (probe : Bool)
    (e : Nat) : WatchOutcome :=
  let c := o.ctx
  let timeUp := decide (p.duration * 10 ≤ c.stepClock)
  match p.endKind with
  | .time =>
    if timeUp then { o with ctx := c.folded, verdict := .complete } else o
  | .core =>
    let q := qualifies p tk probe
    let c1 := { c with holdClock := if q then satAdd max32 c.holdClock e else 0 }
    if q && decide (p.hold * 10 ≤ c1.holdClock) then { o with ctx := c1.folded, verdict := .complete }
    else if timeUp then
      match p.overrun with
      | .note =>
        { o with ctx := c1.folded, coreTimeout := some Severity.minor, verdict := .complete }
      | .abort =>
        { o with ctx := c1, coreTimeout := some Severity.major, verdict := .abort .abortedCoreTimeout }
    else { o with ctx := c1 }

/-- A door-closed sample from the step clock on: deviation, missing reading, budget, end test
(R67 to R74). -/
def WatchOutcome.doorClosed (o : WatchOutcome) (p : StepParams) (tc tk : Option Int) (probe : Bool)
    (e : Nat) : WatchOutcome :=
  let c1 := { o.ctx with stepClock := satAdd max32 o.ctx.stepClock e }
  let c2 := c1.addDeviation p tc e
  let o1 := { o with ctx := c2, reading := tc.isSome,
                     missing := tc.isNone && decide (o.ctx.missingRun < 30) && c2.missingRun == 30 }
  if c2.budgetTrips p then
    let o2 := { o1 with ctx := { c2 with tripped := true }, deviation := some p.overrun.severity }
    match p.overrun with
    | .note => o2.endTest p tk probe e
    | .abort => { o2 with verdict := .abort .abortedDeviation }
  else o1.endTest p tk probe e

/-- A sample of a RUNNING context past its baseline: interval, gap limit, door, and the rest
(R64 to R66). -/
def CookCtx.fullSample (c : CookCtx) (p : StepParams) (gapLimit : Nat) (x : Sample) : WatchOutcome :=
  let e := interval x.stamp c.lastStamp
  if e = 0 ∨ 32768 ≤ e then { ctx := c, duplicate := true }
  else
    let gap := decide (gapLimit < e)
    let e' := if gap then gapLimit else e
    let c1 := { c with lastStamp := x.stamp, gaps := if gap then sat16 c.gaps else c.gaps }
    if x.door then { ctx := { c1 with doorOpen := satAdd max32 c1.doorOpen e' }, gap := gap }
    else
      WatchOutcome.doorClosed { ctx := c1, gap := gap } p (clampReading x.cavity) (clampReading x.core)
        x.probe e'

/-- What the watch does with a sample by the context's state (table of R60, R62, R63). -/
def CookCtx.takeSample (c : CookCtx) (p : StepParams) (gapLimit : Nat) (x : Sample) : WatchOutcome :=
  match c.state with
  | .idle => { ctx := c }
  | .running =>
    if c.baseline then { ctx := { c with lastStamp := x.stamp, baseline := false } }
    else c.fullSample p gapLimit x
  | _ => { ctx := { c with lastStamp := x.stamp } }

/-- Raise an occurrence where a severity is given. -/
def State.raiseIf (s : State) (i : OvenId) (code : Nat) : Option Severity → State
  | some sev => s.raise (some i) code sev .condition
  | none => s

/-- The verdict of a sample: advance, abort, or neither (R53, R56). -/
def State.applyVerdict (s : State) (i : OvenId) : Verdict → State
  | .goOn => s
  | .complete => s.advanceCook i
  | .abort r => s.stopCook i r

/-- Counters of the oven that a sample moves: clamped values, gaps, duplicates (R61, R64, R65). -/
def OvenCounters.afterSample (k : OvenCounters) (clamped : Nat) (o : WatchOutcome) : OvenCounters :=
  { k with clamped := satAdd max16 k.clamped clamped
           gaps := if o.gap then sat16 k.gaps else k.gaps
           duplicates := if o.duplicate then sat16 k.duplicates else k.duplicates }

/-- The cook watch takes a sample: counters and context, then the calls in the order of the stages, then the
verdict (R60, R75). -/
def State.watchSample (s : State) (i : OvenId) (x : Sample) : State :=
  let c := s.cook i
  let p := (s.stepRec (c.first + c.stepIndex)).params
  let o := c.takeSample p s.config.gapLimit x
  let clamped := if c.state = .idle then 0 else clampCount x.cavity + clampCount x.core
  let s1 := (s.modOvenCounters i fun k => k.afterSample clamped o).modCook i fun _ => o.ctx
  let s2 := if o.reading then s1.clearAtSource (some i) codeSensorMissing else s1
  let s3 := if o.missing then s2.raise (some i) codeSensorMissing .major .condition else s2
  let s4 := (s3.raiseIf i codeDeviation o.deviation).raiseIf i codeCoreTimeout o.coreTimeout
  s4.applyVerdict i o.verdict

end Sys2Proof.Machine
end

