-- ==== Sys2Proof/Machine/OvenTable.lean ====
section
/-! DEFINITION. The Oven Table: the way of an upward frame to its owner (R3, R10, R137, R138), reconciliation
(R8, R9), the HELLO (R4 to R7), retirement (R17). -/

namespace Sys2Proof.Machine

/-! ### Arrival of an upward frame -/

/-- A discard counter moves by one, saturating (R136). -/
def State.countDiscard (s : State) (f : Discards → Nat → Discards) (g : Discards → Nat) : State :=
  s.modDiscards fun c => f c (sat16 (g c))

/-- A frame discarded while the restore runs (R166). -/
def State.countStartUp (s : State) : State :=
  s.countDiscard (fun c n => { c with startUp := n }) (·.startUp)

def State.countLineLength (s : State) : State :=
  s.countDiscard (fun c n => { c with lineLength := n }) (·.lineLength)

def State.countLineSource (s : State) : State :=
  s.countDiscard (fun c n => { c with lineSource := n }) (·.lineSource)

def State.countLineClass (s : State) : State :=
  s.countDiscard (fun c n => { c with lineClass := n }) (·.lineClass)

def State.countUnknownSource (s : State) : State :=
  s.countDiscard (fun c n => { c with unknownSource := n }) (·.unknownSource)

/-- A bad CRC-16 in the line error window: the count, and LINE_ERRORS once per window from the threshold on
(R107). -/
def State.lineError (s : State) : State :=
  let n := sat16 s.calls.window.count
  let s1 := { s with calls := { s.calls with window := { s.calls.window with count := n } } }
  if s.config.lineErrorThreshold ≤ n ∧ s.calls.window.raised = false then
    let s2 := s1.raise none codeLineErrors .minor .condition
    { s2 with calls := { s2.calls with window := { s2.calls.window with raised := true } } }
  else s1

/-- A frame counted as LINE_CRC and reported to the line error window (R135, R151). -/
def State.countLineCrc (s : State) : State :=
  (s.countDiscard (fun c n => { c with lineCrc := n }) (·.lineCrc)).lineError

/-- A frame in the receiver's hands is marked (R151). -/
def LineRx.partialFrame : LineRx → Option Bool
  | .hunt _ => none
  | .header _ m => some m
  | .payload _ m => some m
  | .check _ _ m => some m

/-- An idle gap on the Oven Line: a frame cut short is counted, as LINE_CRC where it is marked, and the
receiver hunts (R151). -/
def State.lineGap (s : State) : State :=
  let t := { s with lineRx := .hunt true }
  match s.lineRx.partialFrame with
  | none => t
  | some false => t.countLineLength
  | some true => t.countLineCrc

/-- A whole frame follows an idle gap and leaves the receiver hunting (R151; log 14). -/
def State.wholeFrame (s : State) : State := { s.lineGap with lineRx := .hunt false }

/-- An upward frame on its way to its owner: the restore (R166), the checks of R135 a delivered frame can
still fail, and the payload length of R154. -/
def State.arriveUp (s : State) (cls : Byte) (tag : BitVec 16) (f : UpFrame)
    (act : OvenId → State → State) : State :=
  let t := s.wholeFrame
  if t.phase = .restoring then t.countStartUp
  else if maxPayload < f.payload.length then t.countLineLength
  else
    match ovenOf f.oven.toNat with
    | none => t.countLineSource
    | some i =>
      match upwardLengths cls tag with
      | none => t.countLineClass
      | some (lo, hi) =>
        if lo ≤ f.payload.length ∧ f.payload.length ≤ hi then act i t else t.countLineLength

/-- The forwarded copy: header and payload unchanged, with the oven as the sender (R137). -/
def upCopy (f : UpFrame) (cls : Byte) (tag : BitVec 16) : KFrame :=
  { cls := cls, oven := f.oven, tag := tag, seq := f.seq, payload := f.payload }

/-- A frame counts in the entry's frames received (R13). -/
def State.countReceived (s : State) (i : OvenId) : State :=
  s.modOvenCounters i fun c => { c with received := sat16 c.received }

/-- A frame counts in the entry's frames refused (R13). -/
def State.countRefused (s : State) (i : OvenId) : State :=
  s.modOvenCounters i fun c => { c with refused := sat16 c.refused }

/-- The return of a SILENT oven: ACTIVE with its report, SILENT cleared at source, watch reloaded, admission
pass (R10, R129). -/
def State.returnFromSilent (s : State) (i : OvenId) (c : PresenceCause) : State :=
  (((s.setPresence i .active c).clearAtSource (some i) codeSilent).reloadWatch i).admissionPass

/-- Dispatch of a frame other than a HELLO by the presence of its source: discarded and counted, or
reloaded, counted, offered upward and handed to its owner (R3, R10, R127, R137). -/
def State.dispatchUp (s : State) (i : OvenId) (forward owner : State → State) : State :=
  match (s.oven i).presence with
  | .vacant => s.countUnknownSource
  | .announced => s.countRefused i
  | .commissioned => s.countRefused i
  | .active => owner (forward ((s.reloadWatch i).countReceived i))
  | .silent => owner (forward (((s.returnFromSilent i .return).reloadWatch i).countReceived i))

/-- A notice other than HELLO: its copy is offered upward, but for a STEP_ACK (R137). -/
def State.takeNotice (s : State) (tag : BitVec 16) (f : UpFrame) (owner : OvenId → State → State) :
    State :=
  s.arriveUp clsNotice tag f fun i t =>
    t.dispatchUp i
      (fun u => if tag = tagStepAck then u else u.offerForward i (upCopy f clsNotice tag)) (owner i)

/-- Decimation: the phase after an eligible SAMPLE, and whether it is selected (R138). -/
def decimate (n phase : Nat) : Nat × Bool :=
  if n = 0 then (0, false)
  else if phase = n - 1 then (0, true)
  else (phase + 1, false)

/-- A SAMPLE is offered upward when decimation selects it (R138). -/
def State.forwardSample (s : State) (i : OvenId) (k : KFrame) : State :=
  let n := ((s.oven i).record.map (·.decimation)).getD 0
  let d := decimate n (s.oven i).counters.phase
  let t := s.modOvenCounters i fun c => { c with phase := d.1 }
  if d.2 then t.offerForward i k else t

/-! ### Reconciliation (R8, R9) -/

/-- The first step: a HELLO ends an apply, as APPLIED where the announced version is the expected one
(R8, R119). -/
def State.reconcileApply (s : State) (i : OvenId) (a : Announced) : State :=
  if (s.update i).state = .applying then
    s.endApply i (if a.version = (s.update i).version then .noCause else .version) a.version
  else s

/-- The second step: a cook aborts with ABORTED_RESTART; an unknown cook is stopped (R8). -/
def State.reconcileCook (s : State) (i : OvenId) (a : Announced) : State :=
  if (s.cook i).state ≠ .idle then
    (s.stopCook i .abortedRestart).raise (some i) codeOvenRestart .major .event
  else if a.activity = .cooking then
    (s.putStop i).raise (some i) codeCookLost .major .event
  else s

/-- The third step: the table of R9. -/
def State.reconcileClean (s : State) (i : OvenId) (a : Announced) : State :=
  match (s.oven i).occupancy, a.activity with
  | .free, .cleaning => s.adopt i
  | .cleaning, .cleaning => s
  | .cleaning, _ => s.endCleaning i .aborted .reconcile
  | _, _ => s

/-- The reported activity is reconciled with the part's records (R8, R9). -/
def State.reconcile (s : State) (i : OvenId) (a : Announced) : State :=
  ((s.reconcileApply i a).reconcileCook i a).reconcileClean i a

/-! ### The HELLO (R3 to R8) -/

/-- The activity byte of a HELLO (R154). -/
def Activity.ofByte (b : Byte) : Option Activity :=
  match b.toNat with
  | 0 => some .idle
  | 1 => some .cooking
  | 2 => some .cleaning
  | 3 => some .updating
  | _ => none

/-- A capability set byte; bits not named are ignored (R154). -/
def Caps.ofByte (b : Byte) : Caps :=
  { steam := b.getLsbD 0, probe := b.getLsbD 1, autoClean := b.getLsbD 2 }

/-- The five values of a HELLO; `none` where it is malformed: model class 0, or an unknown activity
(R3, R154). -/
def Announced.ofPayload (p : List Byte) : Option Announced :=
  match Activity.ofByte (p.getD 10 0) with
  | some act =>
    if (p.getD 6 0).toNat = 0 then none
    else some
      { serial := BitVec.ofNat 48 (field p 0 6), modelClass := (p.getD 6 0).toNat,
        caps := Caps.ofByte (p.getD 7 0), version := ⟨p.getD 8 0, p.getD 9 0⟩, activity := act }
  | none => none

/-- The announced serial is the expected one. -/
def OvenEntry.serialMatches (e : OvenEntry) (a : Announced) : Bool :=
  match e.record with
  | some r => r.serial == a.serial
  | none => false

/-- What a matching HELLO clears at source: COMMISSION_MISMATCH (R95; R6 names it, and R95 for every
matching HELLO) and STEP_NO_ACK (R6, R8). -/
def State.clearOnMatch (s : State) (i : OvenId) : State :=
  (s.clearAtSource (some i) codeMismatch).clearAtSource (some i) codeStepNoAck

/-- A HELLO with a different serial at an ACTIVE or SILENT entry (R7). -/
def State.helloMismatch (s : State) (i : OvenId) (a : Announced) : State :=
  let wasSilent := (s.oven i).presence == .silent
  let s1 := (s.setPresence i .commissioned .mismatch).setWatch i none
  let s2 := if wasSilent then s1.clearAtSource (some i) codeSilent else s1
  let s3 := if (s2.update i).state = .applying then s2.endApply i .serial a.version else s2
  s3.raise (some i) codeMismatch .lockout .condition

/-- The Oven Table takes a well-formed HELLO whose values stand in the entry already, after the forwarded
copy (R5 to R8). -/
def State.helloOwner (s : State) (i : OvenId) (a : Announced) : State :=
  match (s.oven i).presence with
  | .vacant => s.setPresence i .announced .hello
  | .announced => s
  | .commissioned =>
    if (s.oven i).serialMatches a then
      (((s.setPresence i .active .hello).startWatch i).clearOnMatch i).reconcile i a
    else s.raise (some i) codeMismatch .lockout .condition
  | .active =>
    if (s.oven i).serialMatches a then ((s.reloadWatch i).clearOnMatch i).reconcile i a
    else s.helloMismatch i a
  | .silent => s.helloMismatch i a

/-- A well-formed HELLO: announced fields, the return of a SILENT oven whose serial matches, the forwarded
copy, the owner, frames received (R4, R10, R129, R137; order DEDUCED, log 20). -/
def State.takeHello (s : State) (i : OvenId) (a : Announced) (k : KFrame) : State :=
  let s1 := s.modOven i fun e => { e with announced := some a }
  let s2 := if (s1.oven i).presence = .silent ∧ (s1.oven i).serialMatches a = true then
      s1.returnFromSilent i .hello else s1
  ((s2.offerForward i k).helloOwner i a).countReceived i

/-- A HELLO delivered for an oven: malformed ones are counted by the entry's presence (R3). -/
def State.helloArrives (s : State) (i : OvenId) (f : UpFrame) : State :=
  match Announced.ofPayload f.payload with
  | some a => s.takeHello i a (upCopy f clsNotice tagHello)
  | none => if (s.oven i).presence = .vacant then s.countUnknownSource else s.countRefused i

/-! ### Retirement (R17, R142) -/

/-- An oven's frames leave one class queue. The frame on the line stays at the head, but no longer belongs
to a context (R142). -/
def purgeClass (i : OvenId) (onLine : Bool) (q : List DownFrame) : List DownFrame :=
  match onLine, q with
  | true, h :: t =>
    (if h.frame.oven = ovenByte i then { h with live := false } else h) ::
      t.filter (fun f => f.frame.oven != ovenByte i)
  | _, q => q.filter (fun f => f.frame.oven != ovenByte i)

/-- The Line Transmitter is sending the head of a class queue. -/
def Down.sending (d : Down) (k : Fin 4) : Bool :=
  match d.tx with
  | some x => x.source == .cls k
  | none => false

/-- The class queues without an oven's frames (R142). -/
def Down.purgedQueues (d : Down) (i : OvenId) : Down :=
  { d with classes := Vector.ofFn fun k => purgeClass i (d.sending k) d.classes[k] }

/-- The purge: frames removed are counted, and their freed buffers start a pass held for one (R142). -/
def State.purge (s : State) (i : OvenId) : State :=
  let d := s.down.purgedQueues i
  let removed := s.down.inUse - d.inUse
  let t := { s with down := { d with purged := satAdd max16 d.purged removed } }
  if 0 < removed then t.bufferFreed else t

/-- One position of a retired oven: an unresolved call is cleared, acknowledged, thereby RESOLVED, and joins
the tail of the report list (R17, R104). -/
def State.retireCall (s : State) (i : OvenId) (p : Fin 32) : State :=
  match s.call p with
  | some c =>
    if c.oven = some i ∧ c.unresolved = true then
      ((s.setCall p (some { c with cleared := true, state := .resolved })).leaveReports p).joinReports p
    else s
  | none => s

/-- Every unresolved call of the oven, in creation order (DESIGN CHOICE, log 17), then their SERVICE frames
while there is room (R17, R102). -/
def State.retireCalls (s : State) (i : OvenId) : State :=
  State.buildService (s.calls.order.foldl (fun t p => t.retireCall i p) s)

/-- The update context of a retired oven (R17, R122): IDLE, with its report where it was not IDLE. -/
def State.retireUpdate (s : State) (i : OvenId) : State :=
  if (s.update i).state = .idle then s
  else
    let t := s.modUpdate i fun u => { u with state := .idle }
    t.offerReport (reportUpdateEnd i (t.update i) .retired .noCause ⟨0, 0⟩ s.lineTime)

/-- The six steps of R17. -/
def State.retire (s : State) (i : OvenId) : State :=
  let s1 := s.dropWait i .retired
  let s2 := s1.retireUpdate i
  let s3 := ((s2.modUpdate i fun u => { u with queued := 0 }).setSlot i SlotState.reset).purge i
  let s4 := s3.retireCalls i
  let s5 := (s4.setOverflow i false).relock i
  let s6 := s5.setPresence i .vacant .retire
  (s6.modOven i fun e =>
    { e with record := none, announced := none, service := false,
             counters := OvenCounters.reset }).setWatch i none

end Sys2Proof.Machine
end

