-- ==== Sys2Proof/Machine/Operands.lean ====
section
/-! DEFINITION. The operand forms of the store gateway's requests: what each payload of R156 carries, and the
clamping of R14, R23 and R161. -/

namespace Sys2Proof.Machine

/-- One payload byte as a number. -/
def byteAt (p : List Byte) (off : Nat) : Nat := (p.getD off 0).toNat

/-! ### Named values a payload carries (R153 to R156) -/

def Mode.ofCode : Nat → Option Mode
  | 1 => some .convection | 2 => some .steam | 3 => some .combi | _ => none

def EndKind.ofCode : Nat → Option EndKind
  | 1 => some .time | 2 => some .core | _ => none

def Overrun.ofCode : Nat → Option Overrun
  | 1 => some .note | 2 => some .abort | _ => none

def Programme.ofCode : Nat → Option Programme
  | 1 => some .rinse | 2 => some .light | 3 => some .medium | 4 => some .heavy | _ => none

def Severity.ofCode : Nat → Option Severity
  | 0 => some .lockout | 1 => some .major | 2 => some .minor | 3 => some .info | _ => none

def CleanResult.ofCode : Nat → Option CleanResult
  | 1 => some .complete | 2 => some .aborted | 3 => some .fault | _ => none

/-- An index below `n`. -/
def below (n k : Nat) : Option (Fin n) := if h : k < n then some ⟨k, h⟩ else none

/-! ### Step record fields (R22, R23) -/

/-- The nearer end of `lo` to `hi` for a signed value. -/
def clampInt (lo hi v : Int) : Int := max lo (min hi v)

/-- The stored contents of a record and whether a value was clamped (R23). A TIME step stores no core target
and no hold time, which is not clamping. -/
def clampStep (mode : Mode) (cavity : Int) (humidity fan : Nat) (endKind : EndKind) (duration : Nat)
    (core : Int) (hold tolLow tolHigh budget : Nat) (overrun : Overrun) : StepParams × Bool :=
  let isCore := endKind = .core
  let given := isCore ∧ core ≠ -32768
  let p : StepParams :=
    { mode := mode, cavity := clampInt 300 3000 cavity, humidity := min 100 humidity,
      fan := clampNat 1 5 fan, endKind := endKind, duration := clampNat 1 43200 duration,
      coreTarget := if given then some (clampInt 200 990 core) else none,
      hold := if isCore then min 3600 hold else 0,
      tolLow := min 255 tolLow, tolHigh := min 255 tolHigh, budget := budget, overrun := overrun }
  (p, decide (p.cavity ≠ cavity ∨ p.humidity ≠ humidity ∨ p.fan ≠ fan ∨ p.duration ≠ duration ∨
    (given ∧ clampInt 200 990 core ≠ core) ∨ (isCore ∧ p.hold ≠ hold) ∨ p.tolLow ≠ tolLow ∨
    p.tolHigh ≠ tolHigh))

/-- The nineteen record field bytes of STEP_WRITE and STEP_WRITE_NEXT at an offset (R156); `none` where
mode, end kind or overrun action holds an unknown value (R22). -/
def stepFields (p : List Byte) (off : Nat) : Option (StepParams × Bool) :=
  match Mode.ofCode (byteAt p off), EndKind.ofCode (byteAt p (off + 5)),
      Overrun.ofCode (byteAt p (off + 18)) with
  | some m, some e, some o =>
    some (clampStep m (signedField p (off + 1)) (byteAt p (off + 3)) (byteAt p (off + 4)) e
      (field p (off + 6) 2) (signedField p (off + 8)) (field p (off + 10) 2) (field p (off + 12) 2)
      (field p (off + 14) 2) (field p (off + 16) 2) o)
  | _, _, _ => none

/-! ### Watch and decimation settings (R14, R16) -/

/-- Silence window, silence scale and sample decimation. -/
structure Settings where
  window : Nat
  scale : Nat
  decimation : Nat
  deriving DecidableEq, Repr

/-- The defaults of settings not given (R14). -/
def Settings.default : Settings := { window := 30, scale := 1, decimation := 10 }

/-- A silence scale: 0 becomes 1, any other value the largest of 1, 2, 4, 8 not above it (R14). -/
def clampScale (n : Nat) : Nat := if n < 2 then 1 else if n < 4 then 2 else if n < 8 then 4 else 8

/-- The three settings bytes at an offset after clamping, and whether a value was clamped (R14). -/
def settings (p : List Byte) (off : Nat) : Settings × Bool :=
  let w := byteAt p off
  let c := byteAt p (off + 1)
  let d := byteAt p (off + 2)
  let r : Settings := { window := max 1 w, scale := clampScale c, decimation := min 60 d }
  (r, decide (r.window ≠ w ∨ r.scale ≠ c ∨ r.decimation ≠ d))

/-! ### Configuration parameters (R161) -/

/-- A written parameter: the new configuration, the stored value, whether it was clamped. -/
structure Written where
  params : Params
  stored : Nat
  clamped : Bool
  deriving DecidableEq, Repr

/-- A numeric parameter takes the nearer end of its range (R161). -/
def writeNat (lo hi v : Nat) (put : Nat → Params) : Option Written :=
  let x := clampNat lo hi v
  some { params := put x, stored := x, clamped := decide (x ≠ v) }

/-- A mask keeps its low four bits (R161). -/
def writeMask (v : Nat) (put : BitVec 4 → Params) : Option Written :=
  let x := BitVec.ofNat 4 v
  some { params := put x, stored := x.toNat, clamped := decide (x.toNat ≠ v) }

/-- Write one parameter (R161); `none` is BAD_FIELD: an unknown number, or the MAC control type as kitchen
type value. -/
def Params.write (p : Params) (number v : Nat) : Option Written :=
  match number with
  | 1 =>
    if v = macControlType.toNat then none
    else writeNat 0x0600 0xFFFF v fun x => { p with kitchenType := BitVec.ofNat 16 x }
  | 2 => writeMask v fun x => { p with cleanMask := x }
  | 3 => writeMask v fun x => { p with updateMask := x }
  | 4 => writeNat 1 8 v fun x => { p with slotLimit := x }
  | 5 => writeNat 10 480 v fun x => { p with rinse := x }
  | 6 => writeNat 10 480 v fun x => { p with light := x }
  | 7 => writeNat 10 480 v fun x => { p with medium := x }
  | 8 => writeNat 10 480 v fun x => { p with heavy := x }
  | 9 => writeNat 4 40 v fun x => { p with bulkLimit := x }
  | 10 => writeNat 1 255 v fun x => { p with bulkHoldOff := x }
  | 11 => writeNat 5 100 v fun x => { p with stepAckTimeout := x }
  | 12 => writeNat 10 255 v fun x => { p with gapLimit := x }
  | 13 => writeNat 30 900 v fun x => { p with applyTimeout := x }
  | 14 => writeNat 1 255 v fun x => { p with lineErrorThreshold := x }
  | _ => none

end Sys2Proof.Machine
end

