-- ==== Sys2Proof/Machine/Receiver.lean ====
section
/-! DEFINITION. The two receivers: the Oven Line framer of R151 with the checks of R135, and the MAC's
sorting of R148 with the Classifier's checks of R136. -/

namespace Sys2Proof.Machine

/-! ### The Oven Line receiver (R150, R151) -/

/-- What the receiver reports at an event: a frame cut short or too long, marked or not, or a whole frame
with its CRC check. -/
inductive RxOut where
  | nothing
  | broken (marked : Bool)
  | whole (got : List Byte) (good : Bool)
  deriving DecidableEq, Repr

/-- A header or payload byte has been taken: the state that follows (R151). -/
def rxTaken (got : List Byte) (marked : Bool) : LineRx × RxOut :=
  if got.length < 7 then (.header got marked, .nothing)
  else if maxPayload < headerLen got then (.hunt false, .broken marked)
  else if got.length < 7 + headerLen got then (.payload got marked, .nothing)
  else (.check got none marked, .nothing)

/-- The CRC-16 two check bytes spell, high byte first (R150). -/
def crcWord (hi lo : Byte) : BitVec 16 := hi ++ lo

/-- One event at the receiver (table of R151). In HUNT the stop bit is not looked at, and a byte that follows a
frame's second CRC byte with no idle gap between is ignored and not counted (DESIGN CHOICE, log 13). -/
def LineRx.step : LineRx → LineEvent → LineRx × RxOut
  | .hunt _, .idleGap => (.hunt true, .nothing)
  | .hunt true, .byte v _ =>
    if v = 0x7E then (.header [] false, .nothing) else (.hunt false, .broken false)
  | .hunt false, .byte _ _ => (.hunt false, .nothing)
  | .header _ m, .idleGap => (.hunt true, .broken m)
  | .payload _ m, .idleGap => (.hunt true, .broken m)
  | .check _ _ m, .idleGap => (.hunt true, .broken m)
  | .header got m, .byte v stop => rxTaken (got ++ [v]) (m || !stop)
  | .payload got m, .byte v stop => rxTaken (got ++ [v]) (m || !stop)
  | .check got none m, .byte v stop => (.check got (some v) (m || !stop), .nothing)
  | .check got (some c) m, .byte v stop =>
    (.hunt false, .whole got (!(m || !stop) && crc16 got == crcWord c v))

/-- A whole frame at the checks of R135 and the payload length of R154; a frame that passes them all is not
this operation's concern. During the restore a frame taken to its second CRC byte is a start-up discard, a
marked one too: R166 is read over R151 there (DEDUCED, log 15). -/
def State.wholeArrives (s : State) (got : List Byte) (good : Bool) : State :=
  if s.phase = .restoring then s.countStartUp
  else if !good then s.countLineCrc
  else if (ovenOf (byteOf got 1)).isNone then s.countLineSource
  else
    match upwardLengths (got.getD 0 0) (BitVec.ofNat 16 (field got 2 2)) with
    | none => s.countLineClass
    | some (lo, hi) =>
      if lo ≤ headerLen got ∧ headerLen got ≤ hi then s else s.countLineLength
where
  byteOf (got : List Byte) (k : Nat) : Nat := (got.getD k 0).toNat

/-- What the receiver reports is counted (R135, R151, R166). A marked frame cut short during the restore counts
as LINE_CRC and is told to the line error window as at any time, so that LINE_ERRORS can be raised and its
SERVICE frame can stand ahead of REPORT STARTED (DEDUCED, log 15). -/
def State.takeRx (s : State) : RxOut → State
  | .nothing => s
  | .broken false => s.countLineLength
  | .broken true => s.countLineCrc
  | .whole got good => s.wholeArrives got good

/-- One event on the Oven Line. -/
def State.lineEvent (s : State) (e : LineEvent) : State :=
  let r := s.lineRx.step e
  State.takeRx { s with lineRx := r.1 } r.2

/-! ### The Store Link (R136, R148) -/

/-- How the MAC sorts a received Ethernet frame (R148, R136). -/
inductive MacVerdict where
  | badFrame | pause | foreign | kitchen
  deriving DecidableEq, Repr

/-- A reception error (R148): a receive error, a length outside 64 to 1518 bytes, a wrong FCS. -/
def EthFrame.badReception (e : EthFrame) : Bool :=
  e.rxErr || decide (EthFrame.size e < 64) || decide (1518 < EthFrame.size e) ||
    e.fcs != crc32 (EthFrame.covered e)

/-- The destination of a pause frame (R148). -/
def pauseDest (d : EthAddr) : Bool := d == Config.stationAddress || d == pauseMulticast

/-- The MAC's sorting, then the destination and type checks of R136 (R148). -/
def EthFrame.sort (kitchenType : BitVec 16) (e : EthFrame) : MacVerdict :=
  if EthFrame.badReception e then .badFrame
  else if e.etype = macControlType then
    if EthFrame.macOpcode e = 1 ∧ pauseDest e.dest = true then .pause else .foreign
  else if e.dest ≠ Config.stationAddress ∧ e.dest ≠ ethBroadcast then .foreign
  else if e.etype ≠ kitchenType then .foreign
  else .kitchen

def State.countStoreFcs (s : State) : State :=
  s.countDiscard (fun c n => { c with storeFcs := n }) (·.storeFcs)

def State.countStoreForeign (s : State) : State :=
  s.countDiscard (fun c n => { c with storeForeign := n }) (·.storeForeign)

def State.countStoreLength (s : State) : State :=
  s.countDiscard (fun c n => { c with storeLength := n }) (·.storeLength)

def State.countStoreClass (s : State) : State :=
  s.countDiscard (fun c n => { c with storeClass := n }) (·.storeClass)

def State.countStoreAddress (s : State) : State :=
  s.countDiscard (fun c n => { c with storeAddress := n }) (·.storeAddress)

/-- The oven address is 0 to 16, or 31 on a CONTROL frame (R136). -/
def storeAddressOk (cls oven : Byte) : Bool :=
  decide (oven.toNat ≤ 16) || (oven == allOvensAddr && cls == clsControl)

/-- The Ethernet payload holds exactly 7 bytes plus the length field's number, or is 46 bytes with padding
(R136). -/
def storeLengthOk (p : List Byte) : Bool :=
  decide (headerLen p ≤ maxPayload) &&
    (decide (p.length = 7 + headerLen p) || (decide (p.length = 46) && decide (7 + headerLen p ≤ 46)))

/-- The Classifier's checks of a kitchen frame in order, a failing one counted (R136); a frame that passes
them all changes nothing here. -/
def State.classify (s : State) (p : List Byte) : State :=
  if !storeLengthOk p then s.countStoreLength
  else if !(decide (1 ≤ (p.getD 0 0).toNat) && decide ((p.getD 0 0).toNat ≤ 5)) then s.countStoreClass
  else if !storeAddressOk (p.getD 0 0) (p.getD 1 0) then s.countStoreAddress
  else s

end Sys2Proof.Machine
end

