-- ==== Sys2Proof/Machine/Control.lean ====
section
/-! DEFINITION. The common way of a Store Link frame: the restore, the Classifier (R136, R166), the owner's
answer, and the common checks of a CONTROL request (R157, R158). -/

namespace Sys2Proof.Machine

/-! ### Answers -/

/-- What a request does and what it answers; no answer for one that is answered later or not at all. -/
structure Answered where
  after : State
  reply : Option Reply

/-- A refusal or an answer that changes nothing else. -/
def State.says (s : State) (r : Result) (detail : Nat := 0) : Answered :=
  { after := s, reply := some { result := r, detail := detail } }

/-- An answer with data that changes nothing else. -/
def State.reads (s : State) (data : List Byte) : Answered :=
  { after := s, reply := some { result := .done, data := data } }

/-- An effect without a REPLY at this moment. -/
def State.silently (s : State) : Answered := { after := s, reply := none }

/-- What the REPLY to a frame echoes; a CONTROL reply carries oven address 0 (R155, R157). -/
def replyTo (cls : Byte) (f : StoreFrame) : ReplyTo :=
  { cls := cls, oven := if cls = clsControl then 0 else f.oven, tag := f.tag, seq := f.seq }

/-- Offer a REPLY (R145, R157). -/
def State.answer (s : State) (r : ReplyTo) (a : Reply) : State := s.offerReply (replyFrame r a)

/-- The REPLY is offered after every other effect of its request (DEDUCED, log 7). -/
def Answered.finish (a : Answered) (r : ReplyTo) : State :=
  match a.reply with
  | some x => a.after.answer r x
  | none => a.after

/-! ### Arrival -/

/-- A kitchen frame after the MAC, on its way to its owner: discarded while the restore runs (R166), then
checked by the Classifier (R136). -/
def State.arriveStore (s : State) (cls : Byte) (f : StoreFrame) (act : State → State) : State :=
  if s.phase = .restoring then s.countStartUp
  else if maxPayload < f.len.toNat ∨ f.len.toNat ≠ f.payload.length then s.countStoreLength
  else if !storeAddressOk cls f.oven then s.countStoreAddress
  else act s

/-- A COOK, CLEAN, UPDATE or DIRECT frame taken by its owner, with at most one REPLY. -/
def State.owned (s : State) (cls : Byte) (f : StoreFrame) (act : State → Answered) : State :=
  s.arriveStore cls f fun t => (act t).finish (replyTo cls f)

/-! ### CONTROL (R157, R158) -/

/-- What a TABLE_CLEAR in progress does to a request (R37). -/
inductive ClearRule where
  | taken | clearing | busy
  deriving DecidableEq, Repr

/-- The common terms of a request: its code, whether it changes saved content, what a clear does to it, and
the payload lengths it allows (R156, R158). -/
structure Gate where
  code : BitVec 16
  saved : Bool
  clear : ClearRule
  lengths : List Nat

/-- The hold-off of a refusal during a SAVE, in ticks (R158). -/
abbrev saveHoldOff : Nat := 6

/-- The refusal while a TABLE_CLEAR is in progress (R37); BUSY names no hold-off, so its detail is 0
(DEDUCED, log 19). -/
def ClearRule.refusal : ClearRule → Option Reply
  | .taken => none
  | .clearing => some { result := .clearing }
  | .busy => some { result := .busy }

/-- The first common check a request fails, in the order of R158, after the wait for a soft reset
(R163). -/
def State.gateRefusal (s : State) (g : Gate) (f : StoreFrame) : Option Reply :=
  if s.softReset.isSome then some { result := .busy }
  else if f.tag ≠ g.code ∨ f.oven ≠ 0 then some { result := .badField }
  else if s.saving.isSome ∧ g.saved = true then some { result := .busy, detail := saveHoldOff }
  else if s.clearing.isSome ∧ g.clear ≠ .taken then g.clear.refusal
  else if f.payload.length ∉ g.lengths then some { result := .badField }
  else none

/-- A CONTROL frame: it sets the gateway address, passes the common checks and is carried out
(R146, R157, R158). -/
def State.control (s : State) (g : Gate) (f : StoreFrame) (act : State → Answered) : State :=
  s.arriveStore clsControl f fun t0 =>
    let t := { t0 with gateway := f.src }
    match t.gateRefusal g f with
    | some a => t.answer (replyTo clsControl f) a
    | none => (act t).finish (replyTo clsControl f)

/-- A request that names a line address in its first payload byte; outside 1 to 16 it is refused with
BAD_FIELD. -/
def State.forAddress (s : State) (f : StoreFrame) (act : OvenId → Answered) : Answered :=
  match ovenOf (byteAt f.payload 0) with
  | some i => act i
  | none => s.says .badField

/-- A request that names a recipe in its first two payload bytes; outside 1 to 512 it is refused with
BAD_FIELD. -/
def State.forRecipe (s : State) (f : StoreFrame) (act : Fin 512 → Answered) : Answered :=
  match recipeOf (field f.payload 0 2) with
  | some r => act r
  | none => s.says .badField

/-- Set the table cursor (R159). -/
def State.moveCursor (s : State) (t : TableId) (index : Nat) : State :=
  { s with cursor := some { table := t, index := index } }

/-- The index the cursor holds for a table; `none` where it holds nothing, another table, or the end value
(R159). -/
def State.cursorAt (s : State) (t : TableId) (last : Nat) : Option Nat :=
  match s.cursor with
  | some c => if c.table = t ∧ c.index ≤ last then some c.index else none
  | none => none

end Sys2Proof.Machine
end

