-- ==== Sys2Proof/Machine/CallCmds.lean ====
section
/-! DEFINITION. The requests of the Call Table: CALL_READ (R108), CALL_ACK (R103), CALL_CLEAR_OVERFLOW
(R101). -/

namespace Sys2Proof.Machine

/-! ### CALL_READ (R108) -/

def gateCallRead : Gate := { code := 44, saved := false, clear := .taken, lengths := [1] }

/-- The positions in use from a first position upward (R108). -/
def State.usedFrom (s : State) (first : Nat) : List (Fin 32) :=
  allPositions.filter fun p => decide (first ≤ p.val) && (s.call p).isSome

/-- An entry in the SERVICE layout followed by its position (R155). -/
def State.callEntry (s : State) (p : Fin 32) : List Byte :=
  match s.call p with
  | some c => serviceBytes c c.state ++ be 1 p.val
  | none => []

/-- The entries, the next position to start at, mask, counters, positions in use (R108). Where more entries lie
beyond, the next start is the next position in use (DESIGN CHOICE, log 34). -/
def callReadData (s : State) (first : Nat) : List Byte :=
  let used := s.usedFrom first
  (used.take 16).flatMap s.callEntry ++
    be 1 (match used.drop 16 with | p :: _ => p.val | [] => 32) ++
    be 4 (addrMask fun i => s.calls.overflow[i]) ++ be 2 s.calls.lost ++ be 2 s.calls.ignored ++
    be 1 s.callsInUse

/-- CALL_READ (R108). -/
def doCallRead (f : StoreFrame) (s : State) : State :=
  s.control gateCallRead f fun t =>
    if 31 < byteAt f.payload 0 then t.says .badField
    else t.reads (callReadData t (byteAt f.payload 0))

def execCallRead (f : StoreFrame) (s : State) : Host.Outcome State Fault Refusal :=
  .next (doCallRead f s)

/-! ### CALL_ACK (R103) -/

def gateCallAck : Gate := { code := 45, saved := false, clear := .taken, lengths := [2] }

/-- The position of the entry that carries a call number. -/
def State.callNumbered (s : State) (n : Nat) : Option (Fin 32) :=
  allPositions.find? fun p =>
    match s.call p with
    | some c => c.number == n
    | none => false

/-- An OPEN or REPORTED entry is acknowledged; one cleared at source becomes RESOLVED (R103, R104). -/
def State.acknowledge (s : State) (p : Fin 32) (c : Call) : Answered :=
  let t := s.leaveReports p
  if c.cleared then (t.resolveCall p c).says .done CallState.resolved.code
  else (t.setCall p (some { c with state := .acknowledged })).says .done CallState.acknowledged.code

/-- CALL_ACK by the state of the entry that carries the number (table of R103); the detail numbers the state as
a SERVICE frame does (DEDUCED, log 10). -/
def doCallAck (f : StoreFrame) (s : State) : State :=
  s.control gateCallAck f fun t =>
    if field f.payload 0 2 = 0 then t.says .badField
    else
      match t.callNumbered (field f.payload 0 2) with
      | none => t.says .state
      | some p =>
        match t.call p with
        | none => t.says .state
        | some c =>
          match c.state with
          | .opened | .reported => t.acknowledge p c
          | .acknowledged | .resolved => t.says .done c.state.code

def execCallAck (f : StoreFrame) (s : State) : Host.Outcome State Fault Refusal :=
  .next (doCallAck f s)

/-! ### CALL_CLEAR_OVERFLOW (R101) -/

def gateCallClearOverflow : Gate := { code := 46, saved := false, clear := .taken, lengths := [1] }

/-- CALL_CLEAR_OVERFLOW: the bit, and the lock derived anew (R101, R105). -/
def doCallClearOverflow (f : StoreFrame) (s : State) : State :=
  s.control gateCallClearOverflow f fun t =>
    t.forAddress f fun i =>
      if t.calls.overflow[i] then ((t.setOverflow i false).relock i).says .done else t.says .state

def execCallClearOverflow (f : StoreFrame) (s : State) : Host.Outcome State Fault Refusal :=
  .next (doCallClearOverflow f s)

end Sys2Proof.Machine
end

