-- ==== Sys2Proof/Machine/MapCmds.lean ====
section
/-! DEFINITION. The Direct Class Map and the Fault Severity Map: CLASS_MAP_WRITE and CLASS_MAP_READ (R141),
SEVERITY_MAP_WRITE and SEVERITY_MAP_READ (R96). -/

namespace Sys2Proof.Machine

def gateClassMapWrite : Gate := { code := 40, saved := true, clear := .taken, lengths := [2] }

/-- CLASS_MAP_WRITE (R141). -/
def doClassMapWrite (f : StoreFrame) (s : State) : State :=
  s.control gateClassMapWrite f fun t =>
    match below 64 (byteAt f.payload 0), below 4 (byteAt f.payload 1) with
    | some k, some c =>
      (State.moveCursor { t with classMap := t.classMap.set k c } .classMap (k.val + 1)).says .done
    | _, _ => t.says .badField

def execClassMapWrite (f : StoreFrame) (s : State) : Host.Outcome State Fault Refusal :=
  .next (doClassMapWrite f s)

def gateClassMapRead : Gate := { code := 41, saved := false, clear := .taken, lengths := [1] }

/-- CLASS_MAP_READ: the class is the data. It is a number 0 to 3, one byte (R141, R152). -/
def doClassMapRead (f : StoreFrame) (s : State) : State :=
  s.control gateClassMapRead f fun t =>
    match below 64 (byteAt f.payload 0) with
    | some k => (t.moveCursor .classMap (k.val + 1)).reads (be 1 t.classMap[k].val)
    | none => t.says .badField

def execClassMapRead (f : StoreFrame) (s : State) : Host.Outcome State Fault Refusal :=
  .next (doClassMapRead f s)

/-- The Fault Severity Map's index of an oven fault code 1 to 199 (R96). -/
def faultCode (n : Nat) : Option (Fin 199) :=
  if h : 1 ≤ n ∧ n ≤ 199 then some ⟨n - 1, by omega⟩ else none

def gateSeverityMapWrite : Gate := { code := 42, saved := true, clear := .taken, lengths := [2] }

/-- SEVERITY_MAP_WRITE (R96). -/
def doSeverityMapWrite (f : StoreFrame) (s : State) : State :=
  s.control gateSeverityMapWrite f fun t =>
    match faultCode (byteAt f.payload 0), Severity.ofCode (byteAt f.payload 1) with
    | some k, some v =>
      (State.moveCursor { t with severity := t.severity.set k v } .severityMap (k.val + 2)).says .done
    | _, _ => t.says .badField

def execSeverityMapWrite (f : StoreFrame) (s : State) : Host.Outcome State Fault Refusal :=
  .next (doSeverityMapWrite f s)

def gateSeverityMapRead : Gate := { code := 43, saved := false, clear := .taken, lengths := [1] }

/-- SEVERITY_MAP_READ: the severity's own number is the data (R96, R155). -/
def doSeverityMapRead (f : StoreFrame) (s : State) : State :=
  s.control gateSeverityMapRead f fun t =>
    match faultCode (byteAt f.payload 0) with
    | some k => (t.moveCursor .severityMap (k.val + 2)).reads (be 1 t.severity[k].code)
    | none => t.says .badField

def execSeverityMapRead (f : StoreFrame) (s : State) : Host.Outcome State Fault Refusal :=
  .next (doSeverityMapRead f s)

end Sys2Proof.Machine
end

