-- ==== Sys2Proof/Machine/CleanCmds.lean ====
section
/-! DEFINITION. The CLEAN frames of the store (R79 to R82, R86) and CLEAN_RELEASE (R89). -/

namespace Sys2Proof.Machine

/-- The form checks COOK, CLEAN and UPDATE frames share: tag, payload length, and an oven 1 to 16 in the
header (R44, R79, R110). A row takes its own tag alone (DEDUCED, log 8). -/
def State.forOven (s : State) (f : StoreFrame) (tag : BitVec 16) (lengthOk : Bool)
    (act : OvenId → Answered) : Answered :=
  if f.tag ≠ tag ∨ lengthOk = false then s.says .badField
  else
    match ovenOf f.oven.toNat with
    | some i => act i
    | none => s.says .badField

/-- A refusal for want of a downward buffer (R140). -/
def poolBusy : Reply := { result := .busy, detail := poolHoldOff }

/-! ### CLEAN REQUEST (R80, R81) -/

/-- The first check of R80 that a request fails. -/
def State.cleanRefusal (s : State) (i : OvenId) : Option Result :=
  if !(s.oven i).commissioned then some .unknownOven
  else if (s.oven i).presence ≠ .active then some .notActive
  else if (s.oven i).locked then some .locked
  else if (s.oven i).service then some .service
  else if !(s.oven i).capabilities.autoClean then some .capability
  else if !s.occupancyFree i then some .occupied
  else if s.waiting i then some .duplicate
  else none

/-- A new wait entry at the tail (R81). -/
def State.joinWait (s : State) (i : OvenId) (p : Programme) (seq : Byte) : State :=
  { s with cleaning :=
      { s.cleaning with
        queue := s.cleaning.queue ++ [{ oven := i, programme := p, taken := s.lineTime, seq := seq }] } }

/-- A CLEAN REQUEST that has passed its form checks (R80, R81). -/
def State.requestCleaning (s : State) (i : OvenId) (p : Programme) (seq : Byte) : Answered :=
  match s.cleanRefusal i with
  | some r => s.says r
  | none =>
    if s.slotOpen then
      if s.bufferFree then (s.admitOven i p seq s.lineTime .direct).says .accepted
      else { after := s, reply := some poolBusy }
    else (s.joinWait i p seq).says .queued (s.cleaning.queue.length + 1)

/-- CLEAN_REQUEST (R79 to R81). -/
def doCleanRequest (f : StoreFrame) (s : State) : State :=
  s.owned clsClean f fun t =>
    t.forOven f tagCleanRequest (f.payload.length == 1) fun i =>
      match Programme.ofCode (byteAt f.payload 0) with
      | some p => t.requestCleaning i p f.seq
      | none => t.says .badField

def execCleanRequest (f : StoreFrame) (s : State) : Host.Outcome State Fault Refusal :=
  .next (doCleanRequest f s)

/-! ### CLEAN CANCEL (R86) -/

/-- A CANCEL that has passed its form checks, by the oven's cleaning state (R86). -/
def State.cancelCleaning (s : State) (i : OvenId) (f : StoreFrame) : Answered :=
  if s.waiting i then (s.removeWait i).says .done
  else if (s.oven i).occupancy ≠ .cleaning then s.says .state
  else if !(s.cleanRecord i).requestSent then s.says .busy 1
  else if s.bufferFree then
    ((s.pushDown 0 (downFrame clsClean tagCleanCancel i f.seq f.payload)).modCleanRecord i
      fun r => { r with cancelSent := true }).says .done
  else { after := s, reply := some poolBusy }

/-- CLEAN_CANCEL (R86). -/
def doCleanCancel (f : StoreFrame) (s : State) : State :=
  s.owned clsClean f fun t =>
    t.forOven f tagCleanCancel (f.payload.length == 0) fun i => t.cancelCleaning i f

def execCleanCancel (f : StoreFrame) (s : State) : Host.Outcome State Fault Refusal :=
  .next (doCleanCancel f s)

/-! ### CLEAN_RELEASE (R89) -/

def gateCleanRelease : Gate := { code := 47, saved := false, clear := .taken, lengths := [1] }

/-- A cleaning may be released: the oven is cleaning and SILENT or COMMISSIONED (R89). -/
def OvenEntry.releasable (e : OvenEntry) : Bool :=
  e.occupancy == .cleaning && (e.presence == .silent || e.presence == .commissioned)

/-- CLEAN_RELEASE (R89). -/
def doCleanRelease (f : StoreFrame) (s : State) : State :=
  s.control gateCleanRelease f fun t =>
    t.forAddress f fun i =>
      if (t.oven i).releasable then (t.endCleaning i .aborted .release).says .done
      else t.says .state

def execCleanRelease (f : StoreFrame) (s : State) : Host.Outcome State Fault Refusal :=
  .next (doCleanRelease f s)

end Sys2Proof.Machine
end

