-- ==== Sys2Proof/Machine/CookCmds.lean ====
section
/-! DEFINITION. Starting and stopping a cook: the start checks (R45), acceptance (R47), the panel's answer
(R48), COOK START and COOK STOP (R44, R54). -/

namespace Sys2Proof.Machine

/-- Every need of the version is among the oven's capabilities (R31, R45 check 10). -/
def Needs.metBy (n : Needs) (c : Caps) : Bool := (!n.steam || c.steam) && (!n.probe || c.probe)

/-- The first of the ten start checks that fails (R45). -/
def State.startRefusal (s : State) (i : OvenId) (r : Fin 512) : Option Reply :=
  if !(s.oven i).commissioned then some { result := .unknownOven }
  else if (s.oven i).presence ≠ .active then some { result := .notActive }
  else if (s.oven i).locked then some { result := .locked }
  else if (s.oven i).service then some { result := .service }
  else if (s.cook i).state = .starting then
    some { result := .busy, detail := s.config.stepAckTimeout }
  else if (s.cook i).state = .idle ∧ (s.slot i).slot.pendingStop = true then
    some { result := .busy, detail := 1 }
  else if !s.occupancyFree i then some { result := .occupied }
  else if s.clearing.isSome then some { result := .clearing }
  else
    match (s.recipe r).live with
    | none => some { result := .noRecipe }
    | some v =>
      if !(s.recipe r).dayparts.getLsbD s.daypart.val then some { result := .daypart }
      else if !(s.recipe r).permit.getLsbD i.val then some { result := .notPermitted }
      else if !v.needs.metBy (s.oven i).capabilities then some { result := .capability }
      else none

/-- The context of an accepted start (R47, steps 3 to 5). -/
def CookCtx.begin (c : CookCtx) (origin : Origin) (recipe : Nat) (run : Run) (batch : BitVec 16)
    (now : LineTime) : CookCtx :=
  { c with
    state := .starting, origin := origin, recipe := recipe, version := run.version,
    first := run.first, count := run.count, batch := batch, stepIndex := 0, stepsDone := 0,
    stepClock := 0, holdClock := 0, dev := 0, tripped := false, doorOpen := 0, gaps := 0,
    missingRun := 0, baseline := true, total := 0, started := now }

/-- An accepted start: wait entry, occupancy, user count, context, STEP 0, in the order of R47. -/
def State.acceptCook (s : State) (i : OvenId) (r : Fin 512) (v : LiveVersion) (origin : Origin)
    (batch : BitVec 16) : State :=
  let s1 := (s.dropWait i .cook).setOccupancy i .cooking
  let s2 := s1.modRecipe r fun e => { e with live := some { v with users := v.users + 1 } }
  let s3 := s2.modCook i fun c => c.begin origin (r.val + 1) v.run batch s.lineTime
  s3.putPending i (s3.stepFrame i)

/-- The checks of R45 on a start and its acceptance. -/
def State.startCook (s : State) (i : OvenId) (r : Fin 512) (origin : Origin) (batch : BitVec 16) :
    Answered :=
  match s.startRefusal i r with
  | some a => { after := s, reply := some a }
  | none =>
    match (s.recipe r).live with
    | some v => (s.acceptCook i r v origin batch).says .accepted v.run.version
    | none => s.says .noRecipe

/-! ### The store's frames (R44, R48, R54) -/

/-- COOK_START (R44 to R48). -/
def doCookStart (f : StoreFrame) (s : State) : State :=
  s.owned clsCook f fun t =>
    t.forOven f tagStart (f.payload.length == 4) fun i =>
      t.forRecipe f fun r => t.startCook i r .store (BitVec.ofNat 16 (field f.payload 2 2))

def execCookStart (f : StoreFrame) (s : State) : Host.Outcome State Fault Refusal :=
  .next (doCookStart f s)

/-- COOK_STOP (R54). -/
def doCookStop (f : StoreFrame) (s : State) : State :=
  s.owned clsCook f fun t =>
    t.forOven f tagStop (f.payload.length == 0) fun i =>
      if (t.cook i).state = .idle then t.says .state else (t.stopCook i .stopped).says .done

def execCookStop (f : StoreFrame) (s : State) : Host.Outcome State Fault Refusal :=
  .next (doCookStop f s)

/-! ### The panel's start (R44, R48) -/

/-- A refused panel start: REFUSE where the slot takes one, and its report (R48). -/
def State.panelRefused (s : State) (i : OvenId) (recipe : Nat) (reason : Result) : State :=
  let answered := (s.cook i).state == .idle && (s.slot i).slot.takesRefuse
  let t := if answered then s.putPending i (.refuse recipe reason) else s
  t.offerReport (reportCookStarted i recipe 0 reason answered s.lineTime)

/-- A panel start for a recipe number, accepted or refused with its report (R44, R45, R48). -/
def State.panelStart (s : State) (i : OvenId) (recipe : Nat) : State :=
  match recipeOf recipe with
  | none => s.panelRefused i recipe .badField
  | some r =>
    match s.startRefusal i r, (s.recipe r).live with
    | some a, _ => s.panelRefused i recipe a.result
    | none, some v =>
      (s.acceptCook i r v .panel 0).offerReport
        (reportCookStarted i recipe v.run.version .accepted false s.lineTime)
    | none, none => s.panelRefused i recipe .noRecipe

end Sys2Proof.Machine
end

