-- ==== Sys2Proof/Machine/Startup.lean ====
section
/-! DEFINITION. Start-up: the resets, the restore and READY, the saved image and SAVE, the soft reset
(R163 to R170), and a frame discarded during the restore (R166). -/

namespace Sys2Proof.Machine

/-! ### The three resets (R164, R170) -/

/-- A reset with its cause: every volatile value takes its reset value; the saved image, the save count and
the waiting commands are kept. A SAVE in progress has left the image incomplete (R164, R170). -/
def State.restart (s : State) (c : ResetCause) : State :=
  { State.reset with
      pending := s.pending, resetCause := c, image := s.image, saveCount := s.saveCount }

/-- POWER_ON (R164). -/
def doPowerOn (s : State) : State := s.restart .powerOn

/-- RESET_PIN (R164). -/
def doResetPin (s : State) : State := s.restart .pin

def execPowerOn (s : State) : Host.Outcome State Fault Refusal := .next (doPowerOn s)
def execResetPin (s : State) : Host.Outcome State Fault Refusal := .next (doResetPin s)

/-! ### The saved content (R39, R168) -/

/-- What a SAVE writes of a Recipe Map entry (R39). -/
def RecipeEntry.saved (e : RecipeEntry) : SavedRecipe :=
  { live := e.live.map fun v => (v.run, v.needs), staged := e.staged, dayparts := e.dayparts,
    permit := e.permit }

/-- A record owned by a live or a staged version is written (R39). -/
def StepRec.saved (r : StepRec) : Option StepRec :=
  match r.owner with
  | some o => if o.role = .draining then none else some r
  | none => none

/-- The record of an entry that is COMMISSIONED, ACTIVE or SILENT is written (R168). -/
def OvenEntry.saved (e : OvenEntry) : Option CommRecord :=
  match e.presence with
  | .commissioned | .active | .silent => e.record
  | .vacant | .announced => none

/-- The saved content (R39, R168). -/
def State.savedContent (s : State) : SavedContent :=
  { records := s.ovens.map OvenEntry.saved
    recipes := s.recipes.map RecipeEntry.saved
    steps := s.steps.map StepRec.saved
    severity := s.severity
    classMap := s.classMap
    config := s.config
    daypart := s.daypart }

/-- The CRC-32 over an image's contents (R165). -/
def SavedContent.crc (c : SavedContent) : BitVec 32 := crc32 (Config.imageLayout c)

/-- The image is marked complete and its CRC-32 agrees (R165). -/
def Image.valid (m : Image) : Bool := m.complete && m.crc == m.content.crc

/-! ### The restore (R165) -/

/-- A Recipe Map entry given back: user counts 0, no draining version (R25). -/
def SavedRecipe.entry (e : SavedRecipe) : RecipeEntry :=
  { live := e.live.map fun v => { run := v.1, needs := v.2, users := 0 }, staged := e.staged,
    draining := none, dayparts := e.dayparts, permit := e.permit }

/-- An Oven Table entry after the restore (R2, R165). -/
def restoredOven (r : Option CommRecord) : OvenEntry :=
  match r with
  | some x => { OvenEntry.reset with presence := .commissioned, record := some x }
  | none => OvenEntry.reset

/-- A valid image gives back the set-up (R165). -/
def State.restoreFrom (s : State) (c : SavedContent) : State :=
  { s with
    ovens := c.records.map restoredOven
    recipes := c.recipes.map SavedRecipe.entry
    steps := c.steps.map fun r => r.getD StepRec.blank
    severity := c.severity
    classMap := c.classMap
    config := c.config
    daypart := c.daypart }

/-- The valid saved image's contents, where there are any (R165). -/
def State.validContent (s : State) : Option SavedContent :=
  match s.image with
  | some m => if m.valid then some m.content else none
  | none => none

/-- The restore with its result (table of R165). -/
def State.restore (s : State) : State :=
  match s.validContent with
  | some c => { s.restoreFrom c with restoreResult := .restored }
  | none => { s with restoreResult := if s.saveCount = 0 then .empty else .lost }

/-- READY: the restore's outcome, REPORT STARTED, STORE_LOST, the roll call, and the Classifier begins to
take frames (R165, R167). Without a restore in progress nothing happens (log 5). -/
def doReady (s : State) : State :=
  if s.phase = .restoring then
    let s1 := s.restore
    let s2 := s1.offerReport (reportStarted s1.resetCause s1.restoreResult s1.saveCount s1.lineTime)
    let s3 := if s1.restoreResult = .lost then s2.raise none codeStoreLost .major .event else s2
    { s3 with down := { s3.down with rollCall := true }, phase := .ready }
  else s

def execReady (s : State) : Host.Outcome State Fault Refusal := .next (doReady s)

/-- START_UP_DISCARD: a whole frame during the restore (R166). A frame of the Oven Line follows an idle gap
and is taken off the receiver (log 14). -/
def doStartUpDiscard (l : Link) (s : State) : State :=
  if s.phase = .restoring then
    match l with
    | .store => s.countStartUp
    | .ovenLine => s.wholeFrame.countStartUp
  else s

def execStartUpDiscard (l : Link) (s : State) : Host.Outcome State Fault Refusal :=
  .next (doStartUpDiscard l s)

/-! ### SAVE (R168, R169) -/

/-- The number of saves after which the Image Store is worn (R169). -/
abbrev saveLimit : Nat := 20000

def gateSave : Gate := { code := 7, saved := true, clear := .busy, lengths := [0] }

/-- The image while a save runs: marked incomplete, its contents those at the save's start, the CRC-32 the one
stored before (R168), 0 where no save has stored one (DESIGN CHOICE, log 11). -/
def State.beginImage (s : State) : Image :=
  { content := s.savedContent, complete := false, crc := (s.image.map (·.crc)).getD 0 }

/-- SAVE begins, or is refused with WORN (R168, R169). -/
def doSave (f : StoreFrame) (s : State) : State :=
  s.control gateSave f fun t =>
    if saveLimit ≤ t.saveCount then (t.raise none codeStoreWorn .minor .event).says .worn
    else
      State.silently { t with image := some t.beginImage, saving := some (replyTo clsControl f) }

def execSave (f : StoreFrame) (s : State) : Host.Outcome State Fault Refusal := .next (doSave f s)

/-- SAVE ends: CRC-32, complete mark, save count, REPLY (R168). Without a save in progress nothing happens
(log 5). -/
def doSaveEnd (s : State) : State :=
  match s.saving with
  | some r =>
    State.answer
      { s with
        image := s.image.map fun m => { m with complete := true, crc := m.content.crc }
        saveCount := s.saveCount + 1
        saving := none }
      r { result := .done, detail := s.saveCount + 1 }
  | none => s

def execSaveEnd (s : State) : Host.Outcome State Fault Refusal := .next (doSaveEnd s)

/-! ### SOFT_RESET (R163) -/

def gateSoftReset : Gate := { code := 6, saved := false, clear := .taken, lengths := [0] }

/-- The Watch Ticks a SOFT_RESET waits for its REPLY (R163). -/
abbrev softResetTicks : Nat := 10

/-- SOFT_RESET: the REPLY is offered and the part waits, or resets at once where the queue is full
(R163). -/
def doSoftReset (f : StoreFrame) (s : State) : State :=
  s.control gateSoftReset f fun t =>
    if t.upRoom then
      State.silently
        { t.answer (replyTo clsControl f) { result := .done } with softReset := some softResetTicks }
    else (t.restart .control).silently

def execSoftReset (f : StoreFrame) (s : State) : Host.Outcome State Fault Refusal :=
  .next (doSoftReset f s)

/-- The tenth Watch Tick after an accepted SOFT_RESET (R163); before it nothing happens (log 5). -/
def doSoftResetTenthTick (s : State) : State :=
  if s.softReset = some 0 then s.restart .control else s

def execSoftResetTenthTick (s : State) : Host.Outcome State Fault Refusal :=
  .next (doSoftResetTenthTick s)

end Sys2Proof.Machine
end

