-- ==== Sys2Proof/Machine/ControlCmds.lean ====
section
/-! DEFINITION. The requests of the part as a whole: STATUS_READ (R160), CONFIG_WRITE and CONFIG_READ (R161),
DAYPART_SET and ROLL_CALL (R162). -/

namespace Sys2Proof.Machine

/-! ### STATUS_READ (R160) -/

/-- The family id and the part number (R160). -/
abbrev familyId : Nat := 1
abbrev partNumber : Nat := 7416

/-- The ten Classifier counters in the order of R136, then the start-up discards counter (R160). -/
def discardsData (c : Discards) : List Byte :=
  be 2 c.storeFcs ++ be 2 c.storeForeign ++ be 2 c.storeLength ++ be 2 c.storeClass ++
    be 2 c.storeAddress ++ be 2 c.lineLength ++ be 2 c.lineCrc ++ be 2 c.lineSource ++
    be 2 c.lineClass ++ be 2 c.unknownSource ++ be 2 c.startUp

/-- The overflow lockout mask, bit n for line address n (DEDUCED, log 10). -/
def overflowData (t : CallTable) : List Byte := be 4 (addrMask fun i => t.overflow[i])

/-- Section 1, the part (R160). Whether a TABLE_CLEAR or a SAVE is in progress takes two flag bytes, TABLE_CLEAR
first (DEDUCED, log 10). -/
def statusPart (s : State) : List Byte :=
  be 1 familyId ++ be 2 partNumber ++ be 1 Config.siliconRevision ++
    beWord 6 Config.stationAddress ++
    be 1 s.resetCause.code ++ beWord 4 s.lineTime ++ be 1 s.restoreResult.code ++ be 2 s.saveCount ++
    be 1 s.daypart.val ++ beFlag s.clearing.isSome ++ beFlag s.saving.isSome ++
    discardsData s.counters ++
    be 1 s.down.classes[0].length ++ be 1 s.down.classes[1].length ++
    be 1 s.down.classes[2].length ++ be 1 s.down.classes[3].length ++
    be 1 (48 - s.down.inUse) ++ be 2 s.down.purged ++
    be 1 s.up.frames.length ++ be 2 s.up.repliesLost ++ be 2 s.up.reportsLost ++
    be 4 s.pause.paused ++
    be 1 s.callsInUse ++ be 2 s.calls.lost ++ be 2 s.calls.ignored ++ overflowData s.calls

/-- A wait entry in the order of the list of R77. -/
def waitData (w : WaitEntry) : List Byte :=
  be 1 w.oven.addr ++ be 1 w.programme.code ++ beWord 4 w.taken ++ [w.seq]

/-- An open cleaning record in the order of the list of R77, then its line address (R160; DEDUCED,
log 10). -/
def cleanRecordData (i : OvenId) (r : CleanRecord) : List Byte :=
  be 1 (programmeCode r.programme) ++ be 1 r.phase ++ beWord 4 r.admitted ++ beWord 4 r.deadline ++
    beFlag r.overtime ++ beFlag r.requestSent ++ beFlag r.cancelSent ++ [r.seq] ++ be 1 i.addr

/-- The open records with their line addresses, in address order (R160). -/
def openRecords (s : State) : List OvenId := allOvens.filter fun i => (s.cleanRecord i).isOpen

/-- Section 2, cleaning (R160). -/
def statusCleaning (s : State) : List Byte :=
  be 1 s.config.slotLimit ++ be 1 s.cleaning.slotCount ++
    be 1 s.cleaning.queue.length ++ s.cleaning.queue.flatMap waitData ++
    be 1 (openRecords s).length ++ (openRecords s).flatMap fun i => cleanRecordData i (s.cleanRecord i)

def gateStatusRead : Gate := { code := 1, saved := false, clear := .taken, lengths := [1] }

/-- STATUS_READ (R160). -/
def doStatusRead (f : StoreFrame) (s : State) : State :=
  s.control gateStatusRead f fun t =>
    match byteAt f.payload 0 with
    | 1 => t.reads (statusPart t)
    | 2 => t.reads (statusCleaning t)
    | _ => t.says .badField

def execStatusRead (f : StoreFrame) (s : State) : Host.Outcome State Fault Refusal :=
  .next (doStatusRead f s)

/-! ### Configuration (R161) -/

def gateConfigWrite : Gate := { code := 2, saved := true, clear := .taken, lengths := [3] }

/-- The parameters whose write starts an admission pass: clean daypart mask and slot limit (R83, R161). -/
def startsPass (number : Nat) : Bool := number == 2 || number == 4

/-- CONFIG_WRITE (R161). -/
def doConfigWrite (f : StoreFrame) (s : State) : State :=
  s.control gateConfigWrite f fun t =>
    match t.config.write (byteAt f.payload 0) (field f.payload 1 2) with
    | none => t.says .badField
    | some w =>
      let t1 := { t with config := w.params }
      { after := if startsPass (byteAt f.payload 0) then t1.admissionPass else t1,
        reply := some { result := .done, detail := w.stored, clamped := w.clamped } }

def execConfigWrite (f : StoreFrame) (s : State) : Host.Outcome State Fault Refusal :=
  .next (doConfigWrite f s)

def gateConfigRead : Gate := { code := 3, saved := false, clear := .taken, lengths := [0, 1] }

/-- CONFIG_READ: all values, or the one named (R161). -/
def doConfigRead (f : StoreFrame) (s : State) : State :=
  s.control gateConfigRead f fun t =>
    if f.payload.length = 0 then t.reads t.config.allBytes
    else if (t.config.read (byteAt f.payload 0)).isSome then
      t.reads (t.config.readBytes (byteAt f.payload 0))
    else t.says .badField

def execConfigRead (f : StoreFrame) (s : State) : Host.Outcome State Fault Refusal :=
  .next (doConfigRead f s)

/-! ### Daypart and roll call (R162) -/

def gateDaypartSet : Gate := { code := 4, saved := true, clear := .taken, lengths := [1] }

/-- DAYPART_SET: the daypart, an admission pass, the previous daypart as detail (R162). -/
def doDaypartSet (f : StoreFrame) (s : State) : State :=
  s.control gateDaypartSet f fun t =>
    match below 4 (byteAt f.payload 0) with
    | none => t.says .badField
    | some d => State.says { t with daypart := d }.admissionPass .done t.daypart.val

def execDaypartSet (f : StoreFrame) (s : State) : Host.Outcome State Fault Refusal :=
  .next (doDaypartSet f s)

def gateRollCall : Gate := { code := 5, saved := false, clear := .taken, lengths := [0] }

/-- ROLL_CALL: the pending flag, with detail 1 where it was set already (R162). -/
def doRollCall (f : StoreFrame) (s : State) : State :=
  s.control gateRollCall f fun t =>
    State.says { t with down := { t.down with rollCall := true } } .done
      (if t.down.rollCall then 1 else 0)

def execRollCall (f : StoreFrame) (s : State) : Host.Outcome State Fault Refusal :=
  .next (doRollCall f s)

end Sys2Proof.Machine
end

