-- ==== Sys2Proof/Machine/OvenCmds.lean ====
section
/-! DEFINITION. The requests of the Oven Table, of service mode and of the Silence Watch: OVEN_COMMISSION
(R14, R15), OVEN_RETIRE (R17), OVEN_READ (R18), OVEN_SET (R16), SERVICE_ENTER and SERVICE_LEAVE
(R131 to R134), WATCH_RELOAD (R127). -/

namespace Sys2Proof.Machine

/-! ### OVEN_COMMISSION (R14, R15) -/

/-- Another entry that is COMMISSIONED, ACTIVE or SILENT expects the serial (R14). -/
def State.serialTaken (s : State) (i : OvenId) (serial : BitVec 48) : Bool :=
  allOvens.any fun j =>
    j != i && match (s.oven j).record with
      | some r => r.serial == serial
      | none => false

/-- The record a request writes, with its settings (R14, R156). -/
def commissionRecord (p : List Byte) (x : Settings) : CommRecord :=
  { serial := BitVec.ofNat 48 (field p 1 6), modelClass := byteAt p 7, caps := Caps.ofByte (p.getD 8 0),
    window := x.window, scale := x.scale, decimation := x.decimation }

/-- The settings of an OVEN_COMMISSION: given and clamped, or the defaults (R14). -/
def commissionSettings (p : List Byte) : Settings × Bool :=
  if p.length = 12 then settings p 9 else (Settings.default, false)

/-- The entry is ANNOUNCED with the serial a record expects (R15). -/
def OvenEntry.announcedAs (e : OvenEntry) (serial : BitVec 48) : Bool :=
  match e.presence, e.announced with
  | .announced, some a => a.serial == serial
  | _, _ => false

/-- The entry takes its record and goes to ACTIVE or COMMISSIONED (R15). -/
def State.commission (s : State) (i : OvenId) (r : CommRecord) : State :=
  let t := s.modOven i fun e => { e with record := some r }
  match (s.oven i).announced with
  | some a =>
    if (s.oven i).announcedAs r.serial then
      ((t.setPresence i .active .commission).startWatch i).reconcile i a
    else t.setPresence i .commissioned .commission
  | none => t.setPresence i .commissioned .commission

def gateOvenCommission : Gate := { code := 10, saved := true, clear := .taken, lengths := [9, 12] }

/-- The entry holds a commissioning record by its presence: COMMISSIONED, ACTIVE or SILENT (R14). -/
def Presence.recorded : Presence → Bool
  | .vacant | .announced => false
  | .commissioned | .active | .silent => true

/-- OVEN_COMMISSION: checks 2 to 4 of R14, then R15. The detail numbers the presence state as R152 numbers it in
payloads: COMMISSIONED 3, ACTIVE 4 (DEDUCED, log 10). -/
def doOvenCommission (f : StoreFrame) (s : State) : State :=
  s.control gateOvenCommission f fun t =>
    t.forAddress f fun i =>
      let x := commissionSettings f.payload
      let r := commissionRecord f.payload x.1
      if r.modelClass < 1 ∨ 15 < r.modelClass then t.says .badField
      else if (t.oven i).presence.recorded then t.says .state
      else if t.serialTaken i r.serial then t.says .duplicate
      else
        let u := t.commission i r
        { after := u,
          reply := some { result := .done, detail := (u.oven i).presence.code, clamped := x.2 } }

def execOvenCommission (f : StoreFrame) (s : State) : Host.Outcome State Fault Refusal :=
  .next (doOvenCommission f s)

/-! ### OVEN_RETIRE (R17) -/

def gateOvenRetire : Gate := { code := 11, saved := true, clear := .taken, lengths := [1] }

/-- OVEN_RETIRE (R17). -/
def doOvenRetire (f : StoreFrame) (s : State) : State :=
  s.control gateOvenRetire f fun t =>
    t.forAddress f fun i =>
      if (t.oven i).presence = .vacant then t.says .state
      else if (t.oven i).occupancy ≠ .free then t.says .occupied
      else (t.retire i).says .done

def execOvenRetire (f : StoreFrame) (s : State) : Host.Outcome State Fault Refusal :=
  .next (doOvenRetire f s)

/-! ### OVEN_READ (R18) -/

def gateOvenRead : Gate := { code := 12, saved := false, clear := .taken, lengths := [1] }

/-- OVEN_READ (R18). -/
def doOvenRead (f : StoreFrame) (s : State) : State :=
  s.control gateOvenRead f fun t =>
    t.forAddress f fun i =>
      t.reads (ovenData (t.oven i) t.calls.overflow[i] (t.cook i) (t.update i))

def execOvenRead (f : StoreFrame) (s : State) : Host.Outcome State Fault Refusal :=
  .next (doOvenRead f s)

/-! ### OVEN_SET (R16) -/

def gateOvenSet : Gate := { code := 13, saved := true, clear := .taken, lengths := [4] }

/-- The record with new settings; the decimation phase starts anew (R16). -/
def OvenEntry.withSettings (e : OvenEntry) (r : CommRecord) (x : Settings) : OvenEntry :=
  { e with
    record := some { r with window := x.window, scale := x.scale, decimation := x.decimation }
    counters := { e.counters with phase := 0 } }

/-- OVEN_SET (R16). -/
def doOvenSet (f : StoreFrame) (s : State) : State :=
  s.control gateOvenSet f fun t =>
    t.forAddress f fun i =>
      match (t.oven i).record with
      | none => t.says .state
      | some r =>
        let x := settings f.payload 1
        { after := t.modOven i fun e => e.withSettings r x.1,
          reply := some { result := .done, clamped := x.2 } }

def execOvenSet (f : StoreFrame) (s : State) : Host.Outcome State Fault Refusal :=
  .next (doOvenSet f s)

/-! ### Service mode (R131 to R134) -/

/-- Service mode begins: the flag, and the watch freezes (R132). -/
def State.enterService (s : State) (i : OvenId) : State :=
  (s.modOven i fun e => { e with service := true }).refreeze i

/-- Service mode ends: flag, watch, admission pass, in the order of R134. -/
def State.leaveService (s : State) (i : OvenId) : State :=
  (((s.modOven i fun e => { e with service := false }).reloadWatch i).refreeze i).admissionPass

def gateServiceEnter : Gate := { code := 14, saved := false, clear := .taken, lengths := [1] }

/-- SERVICE_ENTER: the checks of R131. -/
def doServiceEnter (f : StoreFrame) (s : State) : State :=
  s.control gateServiceEnter f fun t =>
    t.forAddress f fun i =>
      if !(t.oven i).commissioned then t.says .unknownOven
      else if (t.oven i).occupancy ≠ .free then t.says .occupied
      else if (t.oven i).service then t.says .state
      else (t.enterService i).says .done

def execServiceEnter (f : StoreFrame) (s : State) : Host.Outcome State Fault Refusal :=
  .next (doServiceEnter f s)

def gateServiceLeave : Gate := { code := 15, saved := false, clear := .taken, lengths := [1] }

/-- SERVICE_LEAVE (R133). -/
def doServiceLeave (f : StoreFrame) (s : State) : State :=
  s.control gateServiceLeave f fun t =>
    t.forAddress f fun i =>
      if (t.oven i).service then (t.leaveService i).says .done else t.says .state

def execServiceLeave (f : StoreFrame) (s : State) : Host.Outcome State Fault Refusal :=
  .next (doServiceLeave f s)

/-! ### WATCH_RELOAD (R127) -/

def gateWatchReload : Gate := { code := 16, saved := false, clear := .taken, lengths := [1] }

/-- WATCH_RELOAD: the loaded counter is the detail (R127). -/
def doWatchReload (f : StoreFrame) (s : State) : State :=
  s.control gateWatchReload f fun t =>
    t.forAddress f fun i =>
      if (t.oven i).presence = .active ∨ (t.oven i).presence = .silent then
        let u := t.reloadWatch i
        u.says .done ((u.watch i).map (·.counter) |>.getD 0)
      else t.says .state

def execWatchReload (f : StoreFrame) (s : State) : Host.Outcome State Fault Refusal :=
  .next (doWatchReload f s)

end Sys2Proof.Machine
end

