-- ==== Sys2Proof/Machine/Notices.lean ====
section
/-! DEFINITION. The upward frames: LINE_FRAME_DISCARD (R135), SAMPLE (R60, R137, R138) and the eleven notices
with what their owning blocks do. -/

namespace Sys2Proof.Machine

/-- LINE_FRAME_DISCARD: what arrives on the Oven Line passes the receiver, and each discarded frame is
counted by cause (R135, R151, R154). -/
def doLineFrameDiscard (events : List LineEvent) (s : State) : State :=
  events.foldl State.lineEvent s

def execLineFrameDiscard (events : List LineEvent) (s : State) : Host.Outcome State Fault Refusal :=
  .next (doLineFrameDiscard events s)

/-- SAMPLE: reload, count, decimated copy, cook watch (R60, R137, R138). -/
def doSample (tag : BitVec 16) (f : UpFrame) (s : State) : State :=
  s.arriveUp clsSample tag f fun i t =>
    t.dispatchUp i (fun u => u.forwardSample i (upCopy f clsSample tag))
      (fun u => u.watchSample i (Sample.ofPayload f.payload))

def execSample (tag : BitVec 16) (f : UpFrame) (s : State) : Host.Outcome State Fault Refusal :=
  .next (doSample tag f s)

/-- HELLO (R3 to R10). -/
def doHello (f : UpFrame) (s : State) : State :=
  s.arriveUp clsNotice tagHello f fun i t => t.helloArrives i f

def execHello (f : UpFrame) (s : State) : Host.Outcome State Fault Refusal := .next (doHello f s)

/-! ### STEP_ACK (R50, R51) -/

/-- The slot is SENT with a frame that carries the echoed index (R50). -/
def SlotState.acked (x : SlotState) (index : Nat) : Bool :=
  match x.slot with
  | .sent (.step k _ _) => k == index
  | .sent (.endCook k) => k == index
  | _ => false

/-- The watch of a newly acknowledged step starts from nothing (R50). -/
def CookCtx.acknowledged (c : CookCtx) : CookCtx :=
  { c with state := .running, stepClock := 0, holdClock := 0, dev := 0, tripped := false,
           baseline := true }

/-- A stale acknowledgement (R51). -/
def State.countStaleAck (s : State) (i : OvenId) : State :=
  s.modOvenCounters i fun c => { c with staleAcks := sat16 c.staleAcks }

/-- The acknowledgement of a step index: valid by the context's state (R50), or stale (R51). -/
def State.stepAck (s : State) (i : OvenId) (index : Nat) : State :=
  if (s.slot i).acked index then
    match (s.cook i).state with
    | .starting | .advancing =>
      ((s.setSlot i SlotState.reset).modCook i CookCtx.acknowledged).clearAtSource (some i)
        codeStepNoAck
    | .ending =>
      ((s.setSlot i SlotState.reset).cookGoIdle i .completed).clearAtSource (some i) codeStepNoAck
    | .idle | .running => s.countStaleAck i
  else s.countStaleAck i

/-- STEP_ACK (R50, R51). -/
def doStepAck (f : UpFrame) (s : State) : State :=
  s.takeNotice tagStepAck f fun i t => t.stepAck i (byteAt f.payload 0)

def execStepAck (f : UpFrame) (s : State) : Host.Outcome State Fault Refusal := .next (doStepAck f s)

/-! ### The panel (R44, R48, R55) -/

/-- PANEL_START. -/
def doPanelStart (f : UpFrame) (s : State) : State :=
  s.takeNotice tagPanelStart f fun i t => t.panelStart i (field f.payload 0 2)

def execPanelStart (f : UpFrame) (s : State) : Host.Outcome State Fault Refusal :=
  .next (doPanelStart f s)

/-- PANEL_STOP (R55). -/
def doPanelStop (f : UpFrame) (s : State) : State :=
  s.takeNotice tagPanelStop f fun i t => t.stopCook i .stopped

def execPanelStop (f : UpFrame) (s : State) : Host.Outcome State Fault Refusal :=
  .next (doPanelStop f s)

/-! ### FAULT, FAULT_CLEAR (R98) -/

/-- A fault notice is ignored and counted (R98). -/
def State.ignoreFault (s : State) : State :=
  { s with calls := { s.calls with ignored := sat16 s.calls.ignored } }

/-- The severity the map gives an oven fault code 1 to 199 (R96). -/
def State.faultSeverity (s : State) (code : Nat) : Option Severity :=
  if h : 1 ≤ code ∧ code ≤ 199 then some (s.severity[code - 1]'(by omega)) else none

/-- A fault code from an oven (R98). -/
def State.takeFault (s : State) (i : OvenId) (code : Nat) : State :=
  match s.faultSeverity code with
  | some sev => s.raise (some i) code sev .condition
  | none => s.ignoreFault

/-- FAULT (R98). -/
def doFault (f : UpFrame) (s : State) : State :=
  s.takeNotice tagFault f fun i t => t.takeFault i (byteAt f.payload 0)

def execFault (f : UpFrame) (s : State) : Host.Outcome State Fault Refusal := .next (doFault f s)

/-- The clearing of a fault code by its oven (R98). -/
def State.takeFaultClear (s : State) (i : OvenId) (code : Nat) : State :=
  if 1 ≤ code ∧ code ≤ 199 then
    match s.findCall (some i) code with
    | some p => s.clearCall p
    | none => s.ignoreFault
  else s.ignoreFault

/-- FAULT_CLEAR (R98). -/
def doFaultClear (f : UpFrame) (s : State) : State :=
  s.takeNotice tagFaultClear f fun i t => t.takeFaultClear i (byteAt f.payload 0)

def execFaultClear (f : UpFrame) (s : State) : Host.Outcome State Fault Refusal :=
  .next (doFaultClear f s)

/-! ### Cleaning (R87, R90) -/

/-- CLEAN_PHASE: a phase 1 to 6 of a cleaning oven (R90). -/
def doCleanPhase (f : UpFrame) (s : State) : State :=
  s.takeNotice tagCleanPhase f fun i t =>
    let k := byteAt f.payload 0
    if (t.oven i).occupancy = .cleaning ∧ 1 ≤ k ∧ k ≤ 6 then
      t.modCleanRecord i fun r => { r with phase := k }
    else t

def execCleanPhase (f : UpFrame) (s : State) : Host.Outcome State Fault Refusal :=
  .next (doCleanPhase f s)

/-- CLEAN_DONE: a result of a cleaning oven (R87). -/
def doCleanDone (f : UpFrame) (s : State) : State :=
  s.takeNotice tagCleanDone f fun i t =>
    match CleanResult.ofCode (byteAt f.payload 0) with
    | some r => if (t.oven i).occupancy = .cleaning then t.endCleaning i r .oven else t
    | none => t

def execCleanDone (f : UpFrame) (s : State) : Host.Outcome State Fault Refusal :=
  .next (doCleanDone f s)

/-! ### UPDATE_STATUS (R118) -/

/-- UPDATE_STATUS: 1 APPLY_BEGUN, 2 APPLY_FAILED (R118, R154). -/
def doUpdateStatus (f : UpFrame) (s : State) : State :=
  s.takeNotice tagUpdateStatus f fun i t =>
    if (t.update i).state = .applying then
      match byteAt f.payload 0 with
      | 1 => t.modUpdate i fun u => { u with begun := true }
      | 2 => t.endApply i .status ⟨0, 0⟩
      | _ => t
    else t

def execUpdateStatus (f : UpFrame) (s : State) : Host.Outcome State Fault Refusal :=
  .next (doUpdateStatus f s)

/-! ### SERVICE_KEY (R131, R133), OVEN_NOTE (R152) -/

/-- The panel's service key: 1 enter, 2 leave; a set flag makes an enter change nothing whatever the
occupancy (R131, R133; DEDUCED, log 16). -/
def State.serviceKey (s : State) (i : OvenId) (key : Nat) : State :=
  match key with
  | 1 =>
    if (s.oven i).service then s
    else if (s.oven i).occupancy ≠ .free then s.countRefused i
    else s.enterService i
  | 2 => if (s.oven i).service then s.leaveService i else s
  | _ => s.countRefused i

/-- SERVICE_KEY (R131, R133). -/
def doServiceKey (f : UpFrame) (s : State) : State :=
  s.takeNotice tagServiceKey f fun i t => t.serviceKey i (byteAt f.payload 0)

def execServiceKey (f : UpFrame) (s : State) : Host.Outcome State Fault Refusal :=
  .next (doServiceKey f s)

/-- OVEN_NOTE has no owning block: it is forwarded, reloads the watch and counts (R152). -/
def doOvenNote (f : UpFrame) (s : State) : State :=
  s.takeNotice tagOvenNote f fun _ t => t

def execOvenNote (f : UpFrame) (s : State) : Host.Outcome State Fault Refusal := .next (doOvenNote f s)

end Sys2Proof.Machine
end

