-- ==== Sys2Proof/Machine/RecipeCmds.lean ====
section
/-! DEFINITION. The requests of the Recipe Map and the Step Store: staging, masks, release, withdrawal (R26 to
R32), reading (R24, R35), writing step records (R22, R23), TABLE_CLEAR (R36). -/

namespace Sys2Proof.Machine

/-! ### MAP_STAGE (R26, R27) -/

def gateMapStage : Gate := { code := 20, saved := true, clear := .clearing, lengths := [6] }

/-- The version number is the entry's live or draining version (R26, check 3). -/
def RecipeEntry.versionInUse (e : RecipeEntry) (v : Nat) : Bool :=
  (match e.live with | some x => x.run.version == v | none => false) ||
    (match e.draining with | some x => x.run.version == v | none => false)

/-- A record may be claimed for a recipe: FREE, or owned by its staged version (R26, check 4). -/
def StepRec.claimable (r : StepRec) (recipe : Nat) : Bool :=
  match r.owner with
  | none => true
  | some o => o.recipe == recipe && o.role == .staged

/-- The lowest record of a run that may not be claimed (R26, check 4). -/
def State.stageBlocked (s : State) (recipe : Nat) (run : Run) : Option Nat :=
  run.indices.find? fun k => !(s.stepRec k).claimable recipe

/-- A record claimed for a staged version keeps its contents and written flag (R27). -/
def StepRec.claimed (recipe version : Nat) (r : StepRec) : StepRec :=
  { r with owner := some { recipe := recipe, version := version, role := .staged } }

/-- The records of an old staged run outside the new run become FREE (R27, step 1). -/
def freeOutside (steps : Vector StepRec 768) (old new : Run) : Vector StepRec 768 :=
  (old.indices.filter fun k => k ∉ new.indices).foldl (fun st k => modStep st k StepRec.freed) steps

/-- The changes of an accepted MAP_STAGE, in the order of R27. -/
def State.stage (s : State) (r : Fin 512) (run : Run) : State :=
  let kept := match (s.recipe r).staged with
    | some old => freeOutside s.steps old run
    | none => s.steps
  { (s.modRecipe r fun e => { e with staged := some run }) with
    steps := modRun kept run (StepRec.claimed (r.val + 1) run.version) }

/-- The run a MAP_STAGE names (R156). -/
def stageRun (p : List Byte) : Run :=
  { version := byteAt p 2, first := field p 3 2, count := byteAt p 5 }

/-- Version, count and run lie in range (R26, check 2). -/
def Run.inRange (r : Run) : Bool :=
  decide (1 ≤ r.version) && decide (1 ≤ r.count) && decide (r.count ≤ 24) &&
    decide (r.first + r.count ≤ 768)

/-- MAP_STAGE (R26, R27). -/
def doMapStage (f : StoreFrame) (s : State) : State :=
  s.control gateMapStage f fun t =>
    t.forRecipe f fun r =>
      let run := stageRun f.payload
      if !run.inRange then t.says .badField
      else if (t.recipe r).versionInUse run.version then t.says .badField
      else
        match t.stageBlocked (r.val + 1) run with
        | some k => t.says .inUse k
        | none => (t.stage r run).says .done

def execMapStage (f : StoreFrame) (s : State) : Host.Outcome State Fault Refusal :=
  .next (doMapStage f s)

/-! ### MAP_SET (R29) -/

def gateMapSet : Gate := { code := 21, saved := true, clear := .clearing, lengths := [7] }

/-- A daypart mask byte; `none` where it names a daypart above 3 (R29, R156). -/
def daypartMask (b : Nat) : Option (BitVec 4) := if b < 16 then some (BitVec.ofNat 4 b) else none

/-- An oven permit mask, bit n for line address n; `none` where it names another address (R29, R156). -/
def permitMask (m : Nat) : Option (BitVec 16) :=
  if m % 2 = 0 ∧ m < 2 ^ 17 then some (BitVec.ofNat 16 (m / 2)) else none

/-- MAP_SET (R29). -/
def doMapSet (f : StoreFrame) (s : State) : State :=
  s.control gateMapSet f fun t =>
    t.forRecipe f fun r =>
      match daypartMask (byteAt f.payload 2), permitMask (field f.payload 3 4) with
      | some d, some m => (t.modRecipe r fun e => { e with dayparts := d, permit := m }).says .done
      | _, _ => t.says .badField

def execMapSet (f : StoreFrame) (s : State) : Host.Outcome State Fault Refusal :=
  .next (doMapSet f s)

/-! ### MAP_READ, MAP_READ_NEXT (R35) -/

def gateMapRead : Gate := { code := 22, saved := false, clear := .clearing, lengths := [2] }

/-- The entry as data, and the cursor to the recipe after it (R35, R159). -/
def State.readRecipe (s : State) (r : Fin 512) : Answered :=
  (s.moveCursor .recipeMap (r.val + 2)).reads (recipeData (s.recipe r))

/-- MAP_READ (R35). -/
def doMapRead (f : StoreFrame) (s : State) : State :=
  s.control gateMapRead f fun t => t.forRecipe f t.readRecipe

def execMapRead (f : StoreFrame) (s : State) : Host.Outcome State Fault Refusal :=
  .next (doMapRead f s)

def gateMapReadNext : Gate := { code := 23, saved := false, clear := .clearing, lengths := [0] }

/-- MAP_READ_NEXT: the entry the cursor holds (R35, R159). -/
def doMapReadNext (f : StoreFrame) (s : State) : State :=
  s.control gateMapReadNext f fun t =>
    match (t.cursorAt .recipeMap 512).bind recipeOf with
    | some r => t.readRecipe r
    | none => t.says .state

def execMapReadNext (f : StoreFrame) (s : State) : Host.Outcome State Fault Refusal :=
  .next (doMapReadNext f s)

/-! ### RELEASE (R30, R31) -/

def gateRelease : Gate := { code := 24, saved := true, clear := .clearing, lengths := [2] }

/-- A record unwritten, or a CORE step without a target or with a hold not shorter than its duration
(R30). -/
def StepRec.incomplete (r : StepRec) : Bool :=
  !r.written ||
    (r.params.endKind == .core &&
      (r.params.coreTarget.isNone || decide (r.params.duration ≤ r.params.hold)))

/-- The lowest incomplete record of a run (R30, check 5). -/
def State.firstIncomplete (s : State) (run : Run) : Option Nat :=
  run.indices.find? fun k => (s.stepRec k).incomplete

/-- The needs of a run's records (R31, step 1). -/
def State.needsOf (s : State) (run : Run) : Needs :=
  { steam := run.indices.any fun k =>
      (s.stepRec k).params.mode == .steam || (s.stepRec k).params.mode == .combi
    probe := run.indices.any fun k => (s.stepRec k).params.endKind == .core }

/-- A record changes role, its version keeping it (R31). -/
def StepRec.asRole (role : Role) (r : StepRec) : StepRec :=
  { r with owner := r.owner.map fun o => { o with role := role } }

/-- The old live version leaves: draining with its users, or its records become FREE (R31 step 2,
R32). -/
def State.retireLive (s : State) (r : Fin 512) : State :=
  match (s.recipe r).live with
  | none => s
  | some v =>
    if 0 < v.users then
      { (s.modRecipe r fun e =>
          { e with live := none, draining := some { run := v.run, users := v.users } }) with
        steps := modRun s.steps v.run (StepRec.asRole .draining) }
    else
      { (s.modRecipe r fun e => { e with live := none }) with
        steps := modRun s.steps v.run StepRec.freed }

/-- The live version has users while a draining version exists (R30 check 4, R32). -/
def RecipeEntry.drainBlocked (e : RecipeEntry) : Bool :=
  e.draining.isSome && match e.live with | some v => decide (0 < v.users) | none => false

/-- The staged version becomes live (R31, step 3). -/
def State.makeLive (s : State) (r : Fin 512) (run : Run) (needs : Needs) : State :=
  { (s.modRecipe r fun e =>
      { e with live := some { run := run, needs := needs, users := 0 }, staged := none }) with
    steps := modRun s.steps run (StepRec.asRole .live) }

/-- RELEASE (R30, R31). -/
def doRelease (f : StoreFrame) (s : State) : State :=
  s.control gateRelease f fun t =>
    t.forRecipe f fun r =>
      match (t.recipe r).staged with
      | none => t.says .state
      | some run =>
        if (t.recipe r).drainBlocked then t.says .draining
        else
          match t.firstIncomplete run with
          | some k => t.says .incomplete k
          | none => ((t.retireLive r).makeLive r run (t.needsOf run)).says .done run.version

def execRelease (f : StoreFrame) (s : State) : Host.Outcome State Fault Refusal :=
  .next (doRelease f s)

/-! ### WITHDRAW, DISCARD_STAGED (R32, R28) -/

def gateWithdraw : Gate := { code := 25, saved := true, clear := .clearing, lengths := [2] }

/-- WITHDRAW: detail 1 where the version becomes draining, 0 where it is freed (R32). -/
def doWithdraw (f : StoreFrame) (s : State) : State :=
  s.control gateWithdraw f fun t =>
    t.forRecipe f fun r =>
      match (t.recipe r).live with
      | none => t.says .state
      | some v =>
        if (t.recipe r).drainBlocked then t.says .draining
        else (t.retireLive r).says .done (if 0 < v.users then 1 else 0)

def execWithdraw (f : StoreFrame) (s : State) : Host.Outcome State Fault Refusal :=
  .next (doWithdraw f s)

def gateDiscardStaged : Gate := { code := 26, saved := true, clear := .clearing, lengths := [2] }

/-- The staged version is removed and its records become FREE (R28). -/
def State.unstage (s : State) (r : Fin 512) (run : Run) : State :=
  { (s.modRecipe r fun e => { e with staged := none }) with
    steps := modRun s.steps run StepRec.freed }

/-- DISCARD_STAGED (R28). -/
def doDiscardStaged (f : StoreFrame) (s : State) : State :=
  s.control gateDiscardStaged f fun t =>
    t.forRecipe f fun r =>
      match (t.recipe r).staged with
      | none => t.says .state
      | some run => (t.unstage r run).says .done

def execDiscardStaged (f : StoreFrame) (s : State) : Host.Outcome State Fault Refusal :=
  .next (doDiscardStaged f s)

/-! ### Step records (R22 to R24) -/

/-- A record may not be written: its owner is LIVE or DRAINING (R22, check 3). -/
def StepRec.inUse (r : StepRec) : Bool :=
  match r.owner with
  | none => false
  | some o => o.role != .staged

/-- Checks 2 and 3 of R22 on a record and the accepted write; the cursor moves to the index after it
(R159). -/
def State.writeStep (s : State) (k : Nat) (fields : Option (StepParams × Bool)) : Answered :=
  match fields with
  | none => s.says .badField
  | some (p, clamped) =>
    if 768 ≤ k then s.says .badField
    else if (s.stepRec k).inUse then s.says .inUse
    else
      { after := State.moveCursor
          { s with steps := modStep s.steps k fun r => { r with params := p, written := true } }
          .stepStore (k + 1)
        reply := some { result := .done, clamped := clamped } }

def gateStepWrite : Gate := { code := 27, saved := true, clear := .clearing, lengths := [21] }

/-- STEP_WRITE (R22, R23). -/
def doStepWrite (f : StoreFrame) (s : State) : State :=
  s.control gateStepWrite f fun t => t.writeStep (field f.payload 0 2) (stepFields f.payload 2)

def execStepWrite (f : StoreFrame) (s : State) : Host.Outcome State Fault Refusal :=
  .next (doStepWrite f s)

def gateStepWriteNext : Gate := { code := 28, saved := true, clear := .clearing, lengths := [19] }

/-- STEP_WRITE_NEXT: the index the cursor holds (R24, R159). -/
def doStepWriteNext (f : StoreFrame) (s : State) : State :=
  s.control gateStepWriteNext f fun t =>
    match t.cursorAt .stepStore 767 with
    | some k => t.writeStep k (stepFields f.payload 0)
    | none => t.says .state

def execStepWriteNext (f : StoreFrame) (s : State) : Host.Outcome State Fault Refusal :=
  .next (doStepWriteNext f s)

/-- A record as data, and the cursor to the index after it (R24, R159). -/
def State.readStep (s : State) (k : Nat) : Answered :=
  if 768 ≤ k then s.says .badField
  else (s.moveCursor .stepStore (k + 1)).reads (stepData (s.stepRec k))

def gateStepRead : Gate := { code := 29, saved := false, clear := .clearing, lengths := [2] }

/-- STEP_READ (R24). -/
def doStepRead (f : StoreFrame) (s : State) : State :=
  s.control gateStepRead f fun t => t.readStep (field f.payload 0 2)

def execStepRead (f : StoreFrame) (s : State) : Host.Outcome State Fault Refusal :=
  .next (doStepRead f s)

def gateStepReadNext : Gate := { code := 30, saved := false, clear := .clearing, lengths := [0] }

/-- STEP_READ_NEXT: the index the cursor holds (R24, R159). -/
def doStepReadNext (f : StoreFrame) (s : State) : State :=
  s.control gateStepReadNext f fun t =>
    match t.cursorAt .stepStore 767 with
    | some k => t.readStep k
    | none => t.says .state

def execStepReadNext (f : StoreFrame) (s : State) : Host.Outcome State Fault Refusal :=
  .next (doStepReadNext f s)

/-! ### TABLE_CLEAR (R36) -/

def gateTableClear : Gate := { code := 31, saved := true, clear := .busy, lengths := [0] }

/-- A cook context is not IDLE (R36). -/
def State.anyCook (s : State) : Bool := allOvens.any fun i => (s.cook i).state != .idle

/-- TABLE_CLEAR begins; its REPLY waits for the completion (R36). Its BUSY names no hold-off, so the detail
is 0 (DEDUCED, log 19). -/
def doTableClear (f : StoreFrame) (s : State) : State :=
  s.control gateTableClear f fun t =>
    if t.anyCook then t.says .busy
    else State.silently { t with clearing := some (replyTo clsControl f) }

def execTableClear (f : StoreFrame) (s : State) : Host.Outcome State Fault Refusal :=
  .next (doTableClear f s)

end Sys2Proof.Machine
end

