-- ==== Sys2Proof/Machine/Timers.lean ====
section
/-! DEFINITION. The clock and the timers: the Watch Tick and line time (R124, R126), the expiry of the silence
watch (R128), of the acknowledgement timer (R52), of the overtime timer (R91) and of the apply timer (R120),
the close of a line error window (R107), the end of a pause (R149), the end of a TABLE_CLEAR (R38). A due
timer's expiry is a command of its own; one that is not due changes nothing (log 5, log 6). -/

namespace Sys2Proof.Machine

/-! ### The Watch Tick (R124, R126) -/

/-- A watch at a Watch Tick: prescaler, then counter at a prescaled tick. A frozen watch stands still, and a
counter that has reached 0 waits for its expiry (R126, R130; log 6). -/
def Watch.tick (w : Watch) : Watch :=
  if w.frozen || w.counter == 0 then w
  else if w.prescaler ≤ 1 then { w with prescaler := w.scale, counter := w.counter - 1 }
  else { w with prescaler := w.prescaler - 1 }

/-- A running acknowledgement timer counts down one (R43). -/
def SlotState.tick (x : SlotState) : SlotState := { x with timer := x.timer.map (· - 1) }

/-- A timer on line time becomes due when line time reaches its deadline (R91, R120). -/
def LineTimer.at (t : LineTimer) (deadline now : LineTime) : LineTimer :=
  if t = .running ∧ deadline = now then .due else t

/-- An open cleaning record's overtime timer at a second of line time (R91). -/
def CleanRecord.second (now : LineTime) (r : CleanRecord) : CleanRecord :=
  { r with timer := r.timer.at r.deadline now }

/-- An update context's apply timer at a second of line time (R120). -/
def UpdateCtx.second (now : LineTime) (u : UpdateCtx) : UpdateCtx :=
  { u with timer := u.timer.at u.deadline now }

/-- A line error window closes when line time reaches a multiple of 60 (R107). -/
def LineWindow.second (now : LineTime) (w : LineWindow) : LineWindow :=
  if now.toNat % 60 = 0 then { w with closeDue := true } else w

/-- Line time increments, wrapping, and the timers on line time are looked at (R124). -/
def State.second (s : State) : State :=
  let now := s.lineTime + 1
  { s with
    lineTime := now
    tickPhase := 0
    cleaning := { s.cleaning with records := s.cleaning.records.map (CleanRecord.second now) }
    updates := s.updates.map (UpdateCtx.second now)
    calls := { s.calls with window := s.calls.window.second now } }

/-- The part of a Watch Tick that counts ticks. -/
def State.countTick (s : State) : State :=
  { s with
    watches := s.watches.map fun w => w.map Watch.tick
    slots := s.slots.map SlotState.tick
    softReset := s.softReset.map (· - 1) }

/-- WATCH_TICK (R124). -/
def doWatchTick (s : State) : State :=
  let t := s.countTick
  if s.tickPhase < 9 then { t with tickPhase := s.tickPhase + 1 } else t.second

def execWatchTick (s : State) : Host.Outcome State Fault Refusal := .next (doWatchTick s)

/-! ### The silence watch (R10, R128) -/

/-- The watch's counter has run out (R126). -/
def State.watchDue (s : State) (i : OvenId) : Bool :=
  match s.watch i with
  | some w => !w.frozen && w.counter == 0
  | none => false

/-- The four changes of an expiry, in the order of R128. -/
def State.watchExpires (s : State) (i : OvenId) : State :=
  let s1 := s.reloadWatch i
  let s2 := if (s1.oven i).presence = .active then s1.setPresence i .silent .silence else s1
  (s2.raise (some i) codeSilent .major .condition).stopCook i .abortedSilent

/-- SILENCE_WATCH_EXPIRY. -/
def doSilenceWatchExpiry (i : OvenId) (s : State) : State :=
  if s.watchDue i then s.watchExpires i else s

def execSilenceWatchExpiry (i : OvenId) (s : State) : Host.Outcome State Fault Refusal :=
  .next (doSilenceWatchExpiry i s)

/-! ### The acknowledgement timer (R43, R52) -/

/-- The slot is SENT and its timer's count has run out (R43). -/
def SlotState.ackDue (x : SlotState) : Bool :=
  match x.slot with
  | .sent _ => x.timer == some 0
  | _ => false

/-- The end of a context whose frame was not acknowledged (table of R52). An IDLE or RUNNING context, which has no SENT
slot in any run, is left as it is (DEDUCED, log 35). -/
def State.ackLost (s : State) (i : OvenId) : State :=
  match (s.cook i).state with
  | .starting | .advancing => s.stopCook i .abortedNoAck
  | .ending => s.cookGoIdle i .endedUnconfirmed
  | .idle | .running => s

/-- ACK_TIMER_EXPIRY: slot EMPTY, STEP_NO_ACK, the context's end (R52). -/
def doAckTimerExpiry (i : OvenId) (s : State) : State :=
  if (s.slot i).ackDue then
    ((s.setSlot i SlotState.reset).raise (some i) codeStepNoAck .major .condition).ackLost i
  else s

def execAckTimerExpiry (i : OvenId) (s : State) : Host.Outcome State Fault Refusal :=
  .next (doAckTimerExpiry i s)

/-! ### Timers on line time (R91, R120, R107) -/

/-- OVERTIME_EXPIRY: the overtime flag and CLEAN_OVERTIME, once for each cleaning (R91). -/
def doOvertimeExpiry (i : OvenId) (s : State) : State :=
  if (s.cleanRecord i).timer = .due then
    (s.modCleanRecord i fun r => { r with overtime := true, timer := .stopped }).raise (some i)
      codeCleanOvertime .major .condition
  else s

def execOvertimeExpiry (i : OvenId) (s : State) : Host.Outcome State Fault Refusal :=
  .next (doOvertimeExpiry i s)

/-- APPLY_TIMER_EXPIRY: the apply ends with cause TIMEOUT; no HELLO has announced a version
(R119, R120, R123). -/
def doApplyTimerExpiry (i : OvenId) (s : State) : State :=
  if (s.update i).timer = .due ∧ (s.update i).state = .applying then s.endApply i .timeout ⟨0, 0⟩
  else s

def execApplyTimerExpiry (i : OvenId) (s : State) : Host.Outcome State Fault Refusal :=
  .next (doApplyTimerExpiry i s)

/-- LINE_ERROR_WINDOW_CLOSE: a quiet window clears LINE_ERRORS at source; count and flag start anew
(R107). -/
def doLineErrorWindowClose (s : State) : State :=
  if s.calls.window.closeDue then
    let t := if s.calls.window.count < s.config.lineErrorThreshold then
        s.clearAtSource none codeLineErrors else s
    { t with calls := { t.calls with window := { count := 0, raised := false, closeDue := false } } }
  else s

def execLineErrorWindowClose (s : State) : Host.Outcome State Fault Refusal :=
  .next (doLineErrorWindowClose s)

/-! ### Pause (R149) and table clear (R38) -/

/-- PAUSE_EXPIRY: the rest of the pause has run; the counter has counted each 512-bit time of it
(R149). -/
def doPauseExpiry (s : State) : State :=
  { s with pause := { remaining := 0, paused := satAdd max32 s.pause.paused s.pause.remaining } }

def execPauseExpiry (s : State) : Host.Outcome State Fault Refusal := .next (doPauseExpiry s)

/-- TABLE_CLEAR_COMPLETION: both tables at their reset values, then the REPLY (R38). -/
def doTableClearCompletion (s : State) : State :=
  match s.clearing with
  | some r =>
    State.answer
      { s with
        recipes := Vector.replicate 512 RecipeEntry.reset
        steps := Vector.replicate 768 StepRec.blank
        clearing := none }
      r { result := .done }
  | none => s

def execTableClearCompletion (s : State) : Host.Outcome State Fault Refusal :=
  .next (doTableClearCompletion s)

end Sys2Proof.Machine
end

