-- ==== Sys2Proof/Machine/Transmit.lean ====
section
/-! DEFINITION. What the links do of themselves: the arbiter of the Line Transmitter (R143) and the end of a
transmission (R144), the Store Link's sending (R146), pause frames (R149), and the Ethernet frames dropped by
the MAC or the Classifier (R136, R148). -/

namespace Sys2Proof.Machine

/-! ### The Oven Line (R143, R144) -/

/-- The slot holds a PENDING frame. -/
def Slot.pendingFrame : Slot → Option SlotFrame
  | .pending f _ => some f
  | _ => none

/-- The oven addresses from the one after the last slot served round to it again (R143). -/
def slotOrder (last : OvenId) : List OvenId := allOvens.map fun k => last + 1 + k

/-- The first PENDING slot of the search (R143). -/
def State.nextSlot (s : State) : Option OvenId :=
  (slotOrder s.down.lastSlot).find? fun i => (s.slot i).slot.pendingFrame.isSome

/-- The arbiter's choice (R143): the first source in the order that holds a frame. -/
def State.nextLine (s : State) : Option (LineSource × KFrame) :=
  match s.down.classes[0] with
  | h :: _ => some (.cls 0, h.frame)
  | [] =>
    if s.down.rollCall then some (.rollCall, identifyFrame)
    else
      match s.nextSlot.bind fun i => (s.slot i).slot.pendingFrame.map fun f => (i, f) with
      | some (i, f) => some (.slot i, slotKFrame i f)
      | none =>
        match s.down.classes[1], s.down.classes[2], s.down.classes[3] with
        | h :: _, _, _ => some (.cls 1, h.frame)
        | [], h :: _, _ => some (.cls 2, h.frame)
        | [], [], h :: _ => some (.cls 3, h.frame)
        | [], [], [] => none

/-- A slot frame has been taken: it stays PENDING while it is on the line (R41, R143). -/
def Slot.takenOnLine : Slot → Slot
  | .pending f _ => .pending f true
  | x => x

/-- What taking a frame changes at its source (R143). -/
def State.markTaken (s : State) : LineSource → State
  | .cls _ => s
  | .rollCall => { s with down := { s.down with rollCall := false } }
  | .slot i =>
    { s.setSlot i { s.slot i with slot := (s.slot i).slot.takenOnLine } with
      down := { s.down with lastSlot := i } }

/-- LINE_TRANSMITTER_TAKE: a free transmitter takes the arbiter's choice and puts its bits on the line
(R143, R150). -/
def doLineTransmitterTake (s : State) : State :=
  match s.down.tx, s.nextLine with
  | none, some (source, frame) =>
    let t := s.markTaken source
    { t with down :=
        { t.down with tx := some { source := source, frame := frame, line := lineSignal frame } } }
  | _, _ => s

def execLineTransmitterTake (s : State) : Host.Outcome State Fault Refusal :=
  .next (doLineTransmitterTake s)

/-- The slot after the transmission of its frame; a frame replaced while on the line changes nothing
(R41, R42). -/
def SlotState.sentEnd (x : SlotState) (timeout : Nat) : SlotState :=
  match x.slot with
  | .pending (.step k n h) true => { slot := .sent (.step k n h), timer := some timeout }
  | .pending (.endCook k) true => { slot := .sent (.endCook k), timer := some timeout }
  | .pending .stop true => { x with slot := .empty }
  | .pending (.refuse _ _) true => { x with slot := .empty }
  | _ => x

/-- The context a class frame's end changes while it still counts there: an UPDATE CHUNK decrements chunks
queued, a CLEAN REQUEST sets the request sent flag of an open record (R144). -/
def State.frameLeft (s : State) (f : DownFrame) : State :=
  if !f.live then s
  else
    match ovenOf f.frame.oven.toNat with
    | none => s
    | some i =>
      if f.frame.cls = clsUpdate ∧ f.frame.tag = tagChunk then
        s.modUpdate i fun u => { u with queued := u.queued - 1 }
      else if f.frame.cls = clsClean ∧ f.frame.tag = tagCleanRequest then
        if (s.cleanRecord i).isOpen then s.modCleanRecord i fun r => { r with requestSent := true }
        else s
      else s

/-- The head of a class queue leaves it and its buffer is freed (R144). -/
def State.leaveClass (s : State) (k : Fin 4) : State :=
  match s.down.classes[k] with
  | [] => s
  | h :: rest =>
    let t := { s with down := { s.down with classes := s.down.classes.set k rest } }
    (t.frameLeft h).bufferFreed

/-- TRANSMISSION_END by the frame's source (table of R144). -/
def doTransmissionEnd (s : State) : State :=
  match s.down.tx with
  | none => s
  | some x =>
    let t := { s with down := { s.down with tx := none } }
    match x.source with
    | .cls k => t.leaveClass k
    | .rollCall => t
    | .slot i => t.setSlot i ((t.slot i).sentEnd t.config.stepAckTimeout)

def execTransmissionEnd (s : State) : Host.Outcome State Fault Refusal := .next (doTransmissionEnd s)

/-! ### The Store Link (R146, R147) -/

/-- STORE_LINK_SEND: an idle transmitter, an entry waiting and no pause (R146, R149). -/
def doStoreLinkSend (s : State) : State :=
  match s.up.tx, s.up.frames with
  | none, k :: _ =>
    if s.pause.remaining = 0 then
      let e := ethFrame s.gateway Config.stationAddress s.config.kitchenType k
      { s with up := { s.up with tx := some e } }
    else s
  | _, _ => s

def execStoreLinkSend (s : State) : Host.Outcome State Fault Refusal := .next (doStoreLinkSend s)

/-- STORE_LINK_TRANSMISSION_END: the entry leaves the queue; the end of the SOFT_RESET reply is the reset
(R163); otherwise SERVICE frames are built while room lasts (R102, R146). -/
def doStoreLinkTransmissionEnd (s : State) : State :=
  match s.up.tx, s.up.frames with
  | some _, k :: rest =>
    if s.softReset.isSome ∧ isSoftResetReply k = true then
      s.restart .control
    else State.buildService { s with up := { s.up with frames := rest, tx := none } }
  | _, _ => s

def execStoreLinkTransmissionEnd (s : State) : Host.Outcome State Fault Refusal :=
  .next (doStoreLinkTransmissionEnd s)

/-- PAUSE_FRAME: the pause remaining becomes the quantum count (R149). A frame with another destination is no
pause frame and is counted as STORE_FOREIGN, during the restore as a start-up discard (R148, R166). -/
def doPauseFrame (dest : EthAddr) (quanta : BitVec 16) (s : State) : State :=
  if pauseDest dest then { s with pause := { s.pause with remaining := quanta.toNat } }
  else if s.phase = .restoring then s.countStartUp
  else s.countStoreForeign

def execPauseFrame (dest : EthAddr) (quanta : BitVec 16) (s : State) :
    Host.Outcome State Fault Refusal := .next (doPauseFrame dest quanta s)

/-- STORE_FRAME_DROPPED: the MAC's drop with its cause (R136, R148); a frame the MAC does not drop changes
nothing here (log 5). -/
def doStoreFrameDropped (e : EthFrame) (s : State) : State :=
  match EthFrame.sort s.config.kitchenType e with
  | .badFrame => s.countStoreFcs
  | .foreign => if s.phase = .restoring then s.countStartUp else s.countStoreForeign
  | .pause | .kitchen => s

def execStoreFrameDropped (e : EthFrame) (s : State) : Host.Outcome State Fault Refusal :=
  .next (doStoreFrameDropped e s)

/-- STORE_CLASSIFIER_DISCARD: the Classifier's discard with its cause (R136); a frame that does not reach the
Classifier, or that passes it, changes nothing here (log 5). -/
def doStoreClassifierDiscard (e : EthFrame) (s : State) : State :=
  match EthFrame.sort s.config.kitchenType e with
  | .kitchen => if s.phase = .restoring then s.countStartUp else s.classify e.payload
  | _ => s

def execStoreClassifierDiscard (e : EthFrame) (s : State) : Host.Outcome State Fault Refusal :=
  .next (doStoreClassifierDiscard e s)

end Sys2Proof.Machine
end

