-- ==== Sys2Proof/Machine/UpdateCmds.lean ====
section
/-! DEFINITION. The UPDATE frames of the store: OPEN (R111, R112), CHUNK (R113 to R115), SEAL (R116), APPLY
(R117), ABORT (R121); and DIRECT frames (R141). -/

namespace Sys2Proof.Machine

/-- The refusal BUSY with the bulk hold-off (R111, R113, R116). -/
def State.bulkBusy (s : State) : Reply := { result := .busy, detail := s.config.bulkHoldOff }

/-- A refusal that changes nothing. -/
def State.refuses (s : State) (a : Reply) : Answered := { after := s, reply := some a }

/-- A forwarded UPDATE frame joins a class queue with tag, sequence and payload unchanged (R110). -/
def State.forwardUpdate (s : State) (k : Fin 4) (tag : BitVec 16) (i : OvenId) (f : StoreFrame) : State :=
  s.pushDown k (downFrame clsUpdate tag i f.seq f.payload)

/-- The context is OPEN or RECEIVING. -/
def UpdateCtx.transferring (u : UpdateCtx) : Bool := u.state == .opened || u.state == .receiving

/-! ### OPEN (R110 to R112) -/

/-- What an OPEN carries (R156). -/
structure OpenFields where
  imageId : Nat
  length : Nat
  crc : BitVec 32
  version : Version
  deriving DecidableEq, Repr

/-- The OPEN payload; `none` where image id or image length is out of range (R110). -/
def openFields (p : List Byte) : Option OpenFields :=
  if field p 0 2 = 0 ∨ field p 2 4 = 0 ∨ 8388608 < field p 2 4 then none
  else some { imageId := field p 0 2, length := field p 2 4, crc := BitVec.ofNat 32 (field p 6 4),
              version := ⟨p.getD 10 0, p.getD 11 0⟩ }

/-- The first check of R111 that an OPEN fails. R117 says STATE for every OPEN of an APPLYING context; where the oven
is SILENT or locked too, an earlier check of R111 answers NOT_ACTIVE or LOCKED (DEDUCED, log 36). -/
def State.openRefusal (s : State) (i : OvenId) : Option Reply :=
  if !(s.oven i).commissioned then some { result := .unknownOven }
  else if (s.oven i).presence ≠ .active then some { result := .notActive }
  else if (s.oven i).locked then some { result := .locked }
  else if (s.update i).state ≠ .idle ∧ (s.update i).state ≠ .failed then some { result := .state }
  else if 0 < (s.update i).queued then some s.bulkBusy
  else if !s.bufferFree then some poolBusy
  else none

/-- The context of an accepted OPEN (R112). -/
def UpdateCtx.openWith (u : UpdateCtx) (o : OpenFields) : UpdateCtx :=
  { u with
    state := .opened, imageId := o.imageId, length := o.length, expectedCrc := o.crc,
    version := o.version, passed := 0, crc := crc32Start, repeated := 0, begun := false,
    cause := .noCause }

/-- UPDATE_OPEN (R110 to R112). -/
def doUpdateOpen (f : StoreFrame) (s : State) : State :=
  s.owned clsUpdate f fun t =>
    t.forOven f tagOpen (f.payload.length == 12) fun i =>
      match openFields f.payload with
      | none => t.says .badField
      | some o =>
        match t.openRefusal i with
        | some a => t.refuses a
        | none => ((t.modUpdate i fun u => u.openWith o).forwardUpdate 1 tagOpen i f).says .accepted

def execUpdateOpen (f : StoreFrame) (s : State) : Host.Outcome State Fault Refusal :=
  .next (doUpdateOpen f s)

/-! ### CHUNK (R113 to R115) -/

/-- The context after an accepted chunk (R114, steps 2 to 5). -/
def UpdateCtx.absorb (u : UpdateCtx) (data : List Byte) : UpdateCtx :=
  { u with
    crc := crc32Absorb u.crc data, passed := u.passed + data.length, queued := u.queued + 1,
    state := if u.state = .opened then .receiving else u.state }

/-- A CHUNK with its offset and data: the checks of R113 in order, then R114. -/
def State.takeChunk (s : State) (i : OvenId) (f : StoreFrame) (offset : Nat) (data : List Byte) :
    Answered :=
  let u := s.update i
  if !u.transferring then s.says .state
  else if offset < u.passed then
    (s.modUpdate i fun x => { x with repeated := sat16 x.repeated }).silently
  else if u.passed < offset then s.says .gap u.passed
  else if u.length < offset + data.length then s.says .badField
  else if s.config.bulkLimit ≤ s.down.classes[3].length then s.refuses s.bulkBusy
  else if !s.bufferFree then s.refuses poolBusy
  else ((s.forwardUpdate 3 tagChunk i f).modUpdate i fun x => x.absorb data).silently

/-- UPDATE_CHUNK (R110, R113, R114). -/
def doUpdateChunk (f : StoreFrame) (s : State) : State :=
  s.owned clsUpdate f fun t =>
    t.forOven f tagChunk (decide (5 ≤ f.payload.length) && decide (f.payload.length ≤ 452)) fun i =>
      t.takeChunk i f (field f.payload 0 4) (f.payload.drop 4)

def execUpdateChunk (f : StoreFrame) (s : State) : Host.Outcome State Fault Refusal :=
  .next (doUpdateChunk f s)

/-! ### SEAL (R116) -/

/-- The whole image has passed and its check agrees (R109, R115, R116). -/
def UpdateCtx.checks (u : UpdateCtx) : Bool := u.passed == u.length && ~~~u.crc == u.expectedCrc

/-- A SEAL that has passed its form checks: the first case that applies (R116). -/
def State.sealUpdate (s : State) (i : OvenId) (f : StoreFrame) : Answered :=
  let u := s.update i
  if !u.transferring then s.says .state
  else if !u.checks then
    (s.modUpdate i fun x => { x with state := .failed, cause := .mismatch }).says .mismatch u.passed
  else if 0 < u.queued then s.refuses s.bulkBusy
  else if !s.bufferFree then s.refuses poolBusy
  else
    ((s.modUpdate i fun x => { x with state := .sealed }).forwardUpdate 1 tagSeal i f).says .done

/-- UPDATE_SEAL (R116). -/
def doUpdateSeal (f : StoreFrame) (s : State) : State :=
  s.owned clsUpdate f fun t =>
    t.forOven f tagSeal (f.payload.length == 0) fun i => t.sealUpdate i f

def execUpdateSeal (f : StoreFrame) (s : State) : Host.Outcome State Fault Refusal :=
  .next (doUpdateSeal f s)

/-! ### APPLY (R117) -/

/-- The first check of R117 that an APPLY fails. -/
def State.applyRefusal (s : State) (i : OvenId) : Option Reply :=
  if (s.update i).state ≠ .sealed then some { result := .state }
  else if !s.occupancyFree i then some { result := .occupied }
  else if s.waiting i then some { result := .cleanPending }
  else if !s.config.updateMask.getLsbD s.daypart.val && !(s.oven i).service then
    some { result := .daypart }
  else if !s.bufferFree then some poolBusy
  else none

/-- The apply deadline: a line time, so it wraps with line time (R117; DEDUCED, log 21). -/
def applyDeadline (now : LineTime) (seconds : Nat) : LineTime := now + BitVec.ofNat 32 seconds

/-- An accepted APPLY: occupancy, context, deadline and timer, watch, frame, in the order of R117. -/
def State.beginApply (s : State) (i : OvenId) (f : StoreFrame) : State :=
  let s1 := (s.setOccupancy i .applying).modUpdate i fun u =>
    { u with state := .applying, begun := false, timer := .running,
             deadline := applyDeadline s.lineTime s.config.applyTimeout }
  (s1.refreeze i).forwardUpdate 1 tagApply i f

/-- UPDATE_APPLY (R117). -/
def doUpdateApply (f : StoreFrame) (s : State) : State :=
  s.owned clsUpdate f fun t =>
    t.forOven f tagApply (f.payload.length == 0) fun i =>
      match t.applyRefusal i with
      | some a => t.refuses a
      | none => (t.beginApply i f).says .accepted

def execUpdateApply (f : StoreFrame) (s : State) : Host.Outcome State Fault Refusal :=
  .next (doUpdateApply f s)

/-! ### ABORT (R121) -/

/-- An ABORT that has passed its form checks, by the state of the context (R121). -/
def State.abortUpdate (s : State) (i : OvenId) (f : StoreFrame) : Answered :=
  if (s.update i).state = .idle ∨ (s.update i).state = .applying then s.says .state
  else if !s.bufferFree then s.refuses poolBusy
  else ((s.modUpdate i fun x => { x with state := .idle }).forwardUpdate 0 tagAbort i f).says .done

/-- UPDATE_ABORT (R121). -/
def doUpdateAbort (f : StoreFrame) (s : State) : State :=
  s.owned clsUpdate f fun t =>
    t.forOven f tagAbort (f.payload.length == 0) fun i => t.abortUpdate i f

def execUpdateAbort (f : StoreFrame) (s : State) : Host.Outcome State Fault Refusal :=
  .next (doUpdateAbort f s)

/-! ### DIRECT (R141) -/

/-- A DIRECT frame for an oven and a direct kind: the checks of R141 after the form, then its class
queue. -/
def State.forwardDirect (s : State) (i : OvenId) (kind : Fin 64) (f : StoreFrame) : Answered :=
  if !(s.oven i).commissioned then s.says .unknownOven
  else if (s.oven i).presence ≠ .active then s.says .notActive
  else if !s.bufferFree then s.refuses poolBusy
  else (s.pushDown s.classMap[kind] (downFrame clsDirect f.tag i f.seq f.payload)).silently

/-- DIRECT (R141). -/
def doDirect (f : StoreFrame) (s : State) : State :=
  s.owned clsDirect f fun t =>
    match ovenOf f.oven.toNat, below 64 f.tag.toNat with
    | some i, some kind => t.forwardDirect i kind f
    | _, _ => t.says .badField

def execDirect (f : StoreFrame) (s : State) : Host.Outcome State Fault Refusal := .next (doDirect f s)

end Sys2Proof.Machine
end

