-- ==== Sys2Proof/Machine/Dispatch.lean ====
section
/-! DEFINITION. One arm for each command of the table, each a call of its meaning. -/

namespace Sys2Proof.Machine

def exec (i : Instr) (s : State) : Host.Outcome State Fault Refusal :=
  match i with
  | .powerOn => Sys2Proof.Machine.execPowerOn s
  | .resetPin => Sys2Proof.Machine.execResetPin s
  | .ready => Sys2Proof.Machine.execReady s
  | .startUpDiscard link => Sys2Proof.Machine.execStartUpDiscard link s
  | .watchTick => Sys2Proof.Machine.execWatchTick s
  | .silenceWatchExpiry n => Sys2Proof.Machine.execSilenceWatchExpiry n s
  | .ackTimerExpiry n => Sys2Proof.Machine.execAckTimerExpiry n s
  | .overtimeExpiry n => Sys2Proof.Machine.execOvertimeExpiry n s
  | .applyTimerExpiry n => Sys2Proof.Machine.execApplyTimerExpiry n s
  | .lineErrorWindowClose => Sys2Proof.Machine.execLineErrorWindowClose s
  | .pauseExpiry => Sys2Proof.Machine.execPauseExpiry s
  | .softResetTenthTick => Sys2Proof.Machine.execSoftResetTenthTick s
  | .tableClearCompletion => Sys2Proof.Machine.execTableClearCompletion s
  | .saveEnd => Sys2Proof.Machine.execSaveEnd s
  | .storeFrameDropped e => Sys2Proof.Machine.execStoreFrameDropped e s
  | .storeClassifierDiscard e => Sys2Proof.Machine.execStoreClassifierDiscard e s
  | .pauseFrame dest quanta => Sys2Proof.Machine.execPauseFrame dest quanta s
  | .statusRead f => Sys2Proof.Machine.execStatusRead f s
  | .configWrite f => Sys2Proof.Machine.execConfigWrite f s
  | .configRead f => Sys2Proof.Machine.execConfigRead f s
  | .daypartSet f => Sys2Proof.Machine.execDaypartSet f s
  | .rollCall f => Sys2Proof.Machine.execRollCall f s
  | .softReset f => Sys2Proof.Machine.execSoftReset f s
  | .save f => Sys2Proof.Machine.execSave f s
  | .ovenCommission f => Sys2Proof.Machine.execOvenCommission f s
  | .ovenRetire f => Sys2Proof.Machine.execOvenRetire f s
  | .ovenRead f => Sys2Proof.Machine.execOvenRead f s
  | .ovenSet f => Sys2Proof.Machine.execOvenSet f s
  | .serviceEnter f => Sys2Proof.Machine.execServiceEnter f s
  | .serviceLeave f => Sys2Proof.Machine.execServiceLeave f s
  | .watchReload f => Sys2Proof.Machine.execWatchReload f s
  | .mapStage f => Sys2Proof.Machine.execMapStage f s
  | .mapSet f => Sys2Proof.Machine.execMapSet f s
  | .mapRead f => Sys2Proof.Machine.execMapRead f s
  | .mapReadNext f => Sys2Proof.Machine.execMapReadNext f s
  | .release f => Sys2Proof.Machine.execRelease f s
  | .withdraw f => Sys2Proof.Machine.execWithdraw f s
  | .discardStaged f => Sys2Proof.Machine.execDiscardStaged f s
  | .stepWrite f => Sys2Proof.Machine.execStepWrite f s
  | .stepWriteNext f => Sys2Proof.Machine.execStepWriteNext f s
  | .stepRead f => Sys2Proof.Machine.execStepRead f s
  | .stepReadNext f => Sys2Proof.Machine.execStepReadNext f s
  | .tableClear f => Sys2Proof.Machine.execTableClear f s
  | .classMapWrite f => Sys2Proof.Machine.execClassMapWrite f s
  | .classMapRead f => Sys2Proof.Machine.execClassMapRead f s
  | .severityMapWrite f => Sys2Proof.Machine.execSeverityMapWrite f s
  | .severityMapRead f => Sys2Proof.Machine.execSeverityMapRead f s
  | .callRead f => Sys2Proof.Machine.execCallRead f s
  | .callAck f => Sys2Proof.Machine.execCallAck f s
  | .callClearOverflow f => Sys2Proof.Machine.execCallClearOverflow f s
  | .cleanRelease f => Sys2Proof.Machine.execCleanRelease f s
  | .cookStart f => Sys2Proof.Machine.execCookStart f s
  | .cookStop f => Sys2Proof.Machine.execCookStop f s
  | .cleanRequest f => Sys2Proof.Machine.execCleanRequest f s
  | .cleanCancel f => Sys2Proof.Machine.execCleanCancel f s
  | .updateOpen f => Sys2Proof.Machine.execUpdateOpen f s
  | .updateChunk f => Sys2Proof.Machine.execUpdateChunk f s
  | .updateSeal f => Sys2Proof.Machine.execUpdateSeal f s
  | .updateApply f => Sys2Proof.Machine.execUpdateApply f s
  | .updateAbort f => Sys2Proof.Machine.execUpdateAbort f s
  | .direct f => Sys2Proof.Machine.execDirect f s
  | .lineFrameDiscard events => Sys2Proof.Machine.execLineFrameDiscard events s
  | .sample tag f => Sys2Proof.Machine.execSample tag f s
  | .hello f => Sys2Proof.Machine.execHello f s
  | .stepAck f => Sys2Proof.Machine.execStepAck f s
  | .panelStart f => Sys2Proof.Machine.execPanelStart f s
  | .panelStop f => Sys2Proof.Machine.execPanelStop f s
  | .fault f => Sys2Proof.Machine.execFault f s
  | .faultClear f => Sys2Proof.Machine.execFaultClear f s
  | .cleanPhase f => Sys2Proof.Machine.execCleanPhase f s
  | .cleanDone f => Sys2Proof.Machine.execCleanDone f s
  | .updateStatus f => Sys2Proof.Machine.execUpdateStatus f s
  | .serviceKey f => Sys2Proof.Machine.execServiceKey f s
  | .ovenNote f => Sys2Proof.Machine.execOvenNote f s
  | .lineTransmitterTake => Sys2Proof.Machine.execLineTransmitterTake s
  | .transmissionEnd => Sys2Proof.Machine.execTransmissionEnd s
  | .storeLinkSend => Sys2Proof.Machine.execStoreLinkSend s
  | .storeLinkTransmissionEnd => Sys2Proof.Machine.execStoreLinkTransmissionEnd s

end Sys2Proof.Machine
end

