-- ==== Sys2Proof/Machine/Step.lean ====
section
/-! DEFINITION. The step: the command at the front of the queue, or one 512-bit time of a pause on an empty
queue (log 1). -/

namespace Sys2Proof.Machine

/-- An empty queue: the block idles, and a pause in force counts one 512-bit time (R149). DESIGN CHOICE,
log 1. Unsafe: the hardware's 512-bit times pass beside its commands too. -/
def State.idle (s : State) : State :=
  if s.pause.remaining = 0 then s
  else
    { s with pause := { remaining := s.pause.remaining - 1, paused := satAdd max32 s.pause.paused 1 } }

/-- One step: the command at the front of the queue on the rest of the queue, or the idle step. -/
def step (s : State) : Host.Outcome State Fault Refusal :=
  match s.pending with
  | c :: rest => exec c { s with pending := rest }
  | [] => .next s.idle

/-- `s` with the command a table word spells at the front of its queue; unchanged where it spells none. -/
def State.withFetchWord (s : State) (nbits w : Nat) : State :=
  match Sys2Proof.decodeTableWord nbits w with
  | some c => { s with pending := c :: s.pending }
  | none => s

end Sys2Proof.Machine
end

