-- ==== Sys2Proof/WellFormed.lean ====
section
/-! DEFINITION. Well-formed commands: the operands are those of the event the row names. `exec` is total and
gives every command, well-formed or not, its effect (log 5, log 8). -/

namespace Sys2Proof.Machine

/-- The length field is 480 or less and matches the payload (R136). -/
def StoreForm.lengthFits (x : StoreForm) : Bool :=
  decide (x.frame.len.toNat ≤ maxPayload) && decide (x.frame.len.toNat = x.frame.payload.length)

/-- The oven address is one the Classifier passes for the class (R136). -/
def StoreForm.addressFits (x : StoreForm) : Bool := storeAddressOk x.cls x.frame.oven

/-- The tag is the row's own, or names no request of the class and the row stands for such tags
(log 8). -/
def StoreForm.tagFits (i : Instr) (x : StoreForm) : Bool :=
  match storeCommand x.cls x.frame.tag.toNat with
  | some c => c x.frame == i
  | none => false

/-- The sender is an oven 1 to 16 (R135). -/
def UpForm.sourceFits (x : UpForm) : Bool := (ovenOf x.frame.oven.toNat).isSome

/-- The payload length lies in the range of R154. -/
def UpForm.lengthFits (x : UpForm) : Bool :=
  match upwardLengths x.cls x.tag with
  | some (lo, hi) => decide (lo ≤ x.frame.payload.length) && decide (x.frame.payload.length ≤ hi)
  | none => false

/-- An Ethernet frame the MAC can drop: not a pause frame (R148). -/
def droppable (e : EthFrame) : Bool := EthFrame.sort e.etype e != .pause

/-- An Ethernet frame that reaches the Classifier with its type as the kitchen type value, and fails a check
of R136. -/
def discardable (e : EthFrame) : Bool :=
  EthFrame.sort e.etype e == .kitchen &&
    !(storeLengthOk e.payload && decide (1 ≤ (e.payload.getD 0 0).toNat) &&
      decide ((e.payload.getD 0 0).toNat ≤ 5) && storeAddressOk (e.payload.getD 0 0) (e.payload.getD 1 0))

/-- The checks of the commands that are no kitchen frame. -/
def eventFits : Instr → Bool
  | .pauseFrame dest _ => pauseDest dest
  | .storeFrameDropped e => droppable e
  | .storeClassifierDiscard e => discardable e
  | .lineFrameDiscard events => !events.isEmpty
  | _ => true

/-- A well-formed command. -/
def wellFormed (i : Instr) : Bool :=
  match storeForm i, upForm i with
  | some x, _ => x.lengthFits && x.addressFits && x.tagFits i
  | none, some x => x.sourceFits && x.lengthFits
  | none, none => eventFits i

end Sys2Proof.Machine
end

