-- ==== Sys2Proof/Safety.lean ====
section
/-! DEFINITION. What claims speak of: the laws the manual gives its state (the invariants of the machine), and
the situations in which a frame is taken. -/

namespace Sys2Proof.Machine

/-! ### Situations -/

/-- A CONTROL frame that meets the common checks of R158 outside a SAVE and a TABLE_CLEAR: the part is READY,
no soft reset is awaited, the header names the part and the request, and the length is allowed. -/
abbrev Requested (s : State) (f : StoreFrame) (code : BitVec 16) (lengths : List Nat) : Prop :=
  s.phase = .ready ∧ s.softReset = none ∧ f.oven = 0 ∧ f.tag = code ∧
    f.len.toNat = f.payload.length ∧ f.payload.length ∈ lengths

/-- A CONTROL frame for one line address. -/
abbrev RequestedFor (s : State) (f : StoreFrame) (code : BitVec 16) (lengths : List Nat) (i : OvenId) :
    Prop :=
  Requested s f code lengths ∧ ovenOf (byteAt f.payload 0) = some i

/-- A request of the Recipe Map or the Step Store outside a SAVE and a TABLE_CLEAR. -/
abbrev RequestedTable (s : State) (f : StoreFrame) (code : BitVec 16) (lengths : List Nat) : Prop :=
  Requested s f code lengths ∧ s.saving = none ∧ s.clearing = none

/-- A COOK, CLEAN, UPDATE or DIRECT frame for an oven that passes the Classifier and the form check of its
tag. -/
abbrev Sent (s : State) (f : StoreFrame) (tag : BitVec 16) (i : OvenId) (length : Nat) : Prop :=
  s.phase = .ready ∧ f.tag = tag ∧ ovenOf f.oven.toNat = some i ∧
    f.len.toNat = f.payload.length ∧ f.payload.length = length

/-- The first payload byte names no line address 1 to 16. -/
abbrev NoOven (f : StoreFrame) : Prop := byteAt f.payload 0 = 0 ∨ 16 < byteAt f.payload 0

/-- The first two payload bytes name no recipe 1 to 512. -/
abbrev NoRecipe (f : StoreFrame) : Prop := field f.payload 0 2 = 0 ∨ 512 < field f.payload 0 2

/-- A COOK, CLEAN or UPDATE frame that passes the Classifier and fails the form check of its row: the header's
oven address is 0, the tag another, or the payload length outside the tag's range (R44, R79, R110). -/
abbrev Misformed (s : State) (f : StoreFrame) (tag : BitVec 16) (least greatest : Nat) : Prop :=
  s.phase = .ready ∧ f.len.toNat = f.payload.length ∧ f.payload.length ≤ 480 ∧ f.oven.toNat ≤ 16 ∧
    (f.oven = 0 ∨ f.tag ≠ tag ∨ f.payload.length < least ∨ greatest < f.payload.length)

/-- The state in which a CONTROL request acts: the gateway address is the frame's source (R146). -/
abbrev State.fromGateway (s : State) (f : StoreFrame) : State := { s with gateway := f.src }

/-- The REPLY to a CONTROL frame is offered (R157). -/
abbrev State.replies (s : State) (f : StoreFrame) (a : Reply) : State :=
  s.offerReply (replyFrame { cls := clsControl, oven := 0, tag := f.tag, seq := f.seq } a)

/-- The REPLY to a COOK, CLEAN, UPDATE or DIRECT frame is offered (R155). -/
abbrev State.repliesTo (s : State) (cls : Byte) (f : StoreFrame) (a : Reply) : State :=
  s.offerReply (replyFrame { cls := cls, oven := f.oven, tag := f.tag, seq := f.seq } a)

/-- A frame delivered from an ACTIVE or a SILENT oven after the restore, its payload length in range (R3, R135,
R154). -/
abbrev Heard (s : State) (cls : Byte) (tag : BitVec 16) (f : UpFrame) (i : OvenId) : Prop :=
  s.phase = .ready ∧ ovenOf f.oven.toNat = some i ∧
    ((s.oven i).presence = .active ∨ (s.oven i).presence = .silent) ∧
    ∃ lo hi, upwardLengths cls tag = some (lo, hi) ∧ lo ≤ f.payload.length ∧ f.payload.length ≤ hi

/-- A SILENT oven returns to ACTIVE before its frame is dispatched (R10). -/
def State.returned (s : State) (i : OvenId) : State :=
  if (s.oven i).presence = .silent then s.returnFromSilent i .return else s

/-- What the dispatch of a frame does before copy and owner: the receiver hunts again, a SILENT oven returns,
the watch reloads, the frame counts as received (R10, R127, R137, R151). -/
def State.dispatched (s : State) (i : OvenId) : State :=
  ((s.wholeFrame.returned i).reloadWatch i).countReceived i

/-- The same with the copy of a notice offered upward (R137). -/
def State.noticed (s : State) (i : OvenId) (tag : BitVec 16) (f : UpFrame) : State :=
  (s.dispatched i).offerForward i (upCopy f clsNotice tag)

/-- The oven can be started on a recipe with a live version: the ten conditions of R45. -/
abbrev StartAllowed (s : State) (i : OvenId) (r : Fin 512) (v : LiveVersion) : Prop :=
  (s.oven i).record.isSome = true ∧ (s.oven i).presence = .active ∧ (s.oven i).locked = false ∧
    (s.oven i).service = false ∧ (s.oven i).occupancy = .free ∧ (s.cook i).state = .idle ∧
    (s.slot i).slot.pendingStop = false ∧ s.clearing = none ∧ (s.recipe r).live = some v ∧
    (s.recipe r).dayparts.getLsbD s.daypart.val = true ∧ (s.recipe r).permit.getLsbD i.val = true ∧
    (v.needs.steam = true → (s.oven i).capabilities.steam = true) ∧
    (v.needs.probe = true → (s.oven i).capabilities.probe = true)

/-- The first of the ten start checks that fails, with its answer (R45). -/
def StartFails (s : State) (i : OvenId) (r : Fin 512) (a : Reply) : Prop :=
  let e := s.oven i
  let known := e.record.isSome = true
  let active := known ∧ e.presence = .active
  let unlocked := active ∧ e.locked = false
  let served := unlocked ∧ e.service = false
  let starting := (s.cook i).state = .starting
  let stopping := (s.cook i).state = .idle ∧ ∃ b, (s.slot i).slot = .pending .stop b
  let free := served ∧ ¬ starting ∧ ¬ stopping ∧ e.occupancy = .free
  let open' := free ∧ s.clearing = none
  (¬ known ∧ a = { result := .unknownOven }) ∨
  (known ∧ e.presence ≠ .active ∧ a = { result := .notActive }) ∨
  (active ∧ e.locked = true ∧ a = { result := .locked }) ∨
  (unlocked ∧ e.service = true ∧ a = { result := .service }) ∨
  (served ∧ starting ∧ a = { result := .busy, detail := s.config.stepAckTimeout }) ∨
  (served ∧ stopping ∧ a = { result := .busy, detail := 1 }) ∨
  (served ∧ ¬ starting ∧ ¬ stopping ∧ e.occupancy ≠ .free ∧ a = { result := .occupied }) ∨
  (free ∧ s.clearing.isSome = true ∧ a = { result := .clearing }) ∨
  (open' ∧ (s.recipe r).live = none ∧ a = { result := .noRecipe }) ∨
  ∃ v, (s.recipe r).live = some v ∧ open' ∧
    let day := (s.recipe r).dayparts.getLsbD s.daypart.val = true
    let permit := (s.recipe r).permit.getLsbD i.val = true
    let able := (v.needs.steam = true → e.capabilities.steam = true) ∧
      (v.needs.probe = true → e.capabilities.probe = true)
    (¬ day ∧ a = { result := .daypart }) ∨ (day ∧ ¬ permit ∧ a = { result := .notPermitted }) ∨
      (day ∧ permit ∧ ¬ able ∧ a = { result := .capability })

/-- The seven checks of a CLEAN REQUEST pass (R80). -/
abbrev CleanAllowed (s : State) (i : OvenId) : Prop :=
  (s.oven i).record.isSome = true ∧ (s.oven i).presence = .active ∧ (s.oven i).locked = false ∧
    (s.oven i).service = false ∧ (s.oven i).capabilities.autoClean = true ∧
    (s.oven i).occupancy = .free ∧ ∀ w ∈ s.cleaning.queue, w.oven ≠ i

/-- The requests that change saved content (R158, check 2). -/
def changesSaved : Instr → Bool
  | .mapStage _ | .mapSet _ | .discardStaged _ | .release _ | .withdraw _ | .stepWrite _
  | .stepWriteNext _ | .ovenCommission _ | .ovenRetire _ | .ovenSet _ | .configWrite _
  | .daypartSet _ | .classMapWrite _ | .severityMapWrite _ | .tableClear _ | .save _ => true
  | _ => false

/-- The CONTROL requests a TABLE_CLEAR in progress refuses, with the result (R37). -/
def clearRefuses : Instr → Option Result
  | .mapStage _ | .mapSet _ | .discardStaged _ | .release _ | .withdraw _ | .stepWrite _
  | .stepWriteNext _ | .stepRead _ | .stepReadNext _ | .mapRead _ | .mapReadNext _ => some .clearing
  | .tableClear _ | .save _ => some .busy
  | _ => none

/-- The three resets, the commands by which one can take effect (R163, R164). -/
def canReset : Instr → Bool
  | .powerOn | .resetPin | .softResetTenthTick | .softReset _ | .storeLinkTransmissionEnd => true
  | _ => false

/-- The payload lengths a CONTROL request allows (R156). -/
def controlLengths : Instr → List Nat
  | .statusRead _ | .daypartSet _ | .ovenRetire _ | .ovenRead _ | .serviceEnter _ | .serviceLeave _
  | .watchReload _ | .classMapRead _ | .severityMapRead _ | .callRead _ | .callClearOverflow _
  | .cleanRelease _ => [1]
  | .configRead _ => [0, 1]
  | .ovenCommission _ => [9, 12]
  | .rollCall _ | .softReset _ | .save _ | .mapReadNext _ | .stepReadNext _ | .tableClear _ => [0]
  | .mapRead _ | .release _ | .withdraw _ | .discardStaged _ | .stepRead _ | .classMapWrite _
  | .severityMapWrite _ | .callAck _ => [2]
  | .configWrite _ => [3]
  | .ovenSet _ => [4]
  | .mapStage _ => [6]
  | .mapSet _ => [7]
  | .stepWriteNext _ => [19]
  | .stepWrite _ => [21]
  | _ => []

/-- The values R2, R20, R25, R36, R40, R77, R93, R96, R109, R124, R136, R139, R141, R145, R146, R149, R151, R159,
R161 and R164 give for a reset; that no idle gap has passed yet in HUNT is log 13. -/
def ResetValues (t : State) : Prop :=
  (∀ i, t.oven i = { presence := .vacant, record := none, announced := none, occupancy := .free,
                     service := false, locked := false, counters := ⟨0, 0, 0, 0, 0, 0, 0, 0⟩ }) ∧
  (∀ i, t.watch i = none ∧ t.cook i = CookCtx.reset ∧ t.slot i = { slot := .empty, timer := none } ∧
    (t.cleanRecord i).isOpen = false ∧ t.update i = UpdateCtx.reset ∧ t.calls.overflow[i] = false) ∧
  (∀ r, t.recipe r = { live := none, staged := none, draining := none, dayparts := 0xF#4,
                       permit := 0xFFFF#16 }) ∧
  (∀ k, k < 768 → t.stepRec k = StepRec.blank) ∧
  (t.cleaning.slotCount = 0 ∧ t.cleaning.queue = [] ∧ t.cleaning.passHeld = false) ∧
  ((∀ p, t.call p = none) ∧ t.calls.next = 1 ∧ t.calls.lost = 0 ∧ t.calls.ignored = 0 ∧
    t.calls.order = [] ∧ t.calls.reports = [] ∧
    t.calls.window = { count := 0, raised := false, closeDue := false }) ∧
  (t.lineRx = .hunt false ∧ t.tickPhase = 0) ∧
  (t.down.inUse = 0 ∧ t.down.purged = 0 ∧ t.down.rollCall = false ∧ t.down.lastSlot = 15 ∧
    t.down.tx = none) ∧
  (t.up = { frames := [], repliesLost := 0, reportsLost := 0, tx := none }) ∧
  (t.counters = ⟨0, 0, 0, 0, 0, 0, 0, 0, 0, 0, 0⟩ ∧ t.pause = { remaining := 0, paused := 0 }) ∧
  (t.gateway = 0xFFFFFFFFFFFF#48 ∧ t.cursor = none ∧ t.lineTime = 0 ∧ t.daypart = 0) ∧
  ((∀ k : Fin 199, t.severity[k] = .minor) ∧ ∀ k : Fin 64, t.classMap[k] = 2) ∧
  t.config = { kitchenType := 0x9A4C, cleanMask := 0b1000#4, updateMask := 0b1000#4, slotLimit := 2,
               rinse := 20, light := 90, medium := 150, heavy := 210, bulkLimit := 24,
               bulkHoldOff := 10, stepAckTimeout := 20, gapLimit := 50, applyTimeout := 300,
               lineErrorThreshold := 20 }

/-- `t` is what a reset with a cause makes of `s` (R164): reset values, the cause recorded, the restore begun,
no SAVE, TABLE_CLEAR or soft reset in progress; image and save count kept, and the waiting commands (log 1). -/
def ResetOf (s t : State) (cause : ResetCause) : Prop :=
  ResetValues t ∧ t.resetCause = cause ∧ t.phase = .restoring ∧ t.saving = none ∧ t.clearing = none ∧
    t.softReset = none ∧ t.image = s.image ∧ t.saveCount = s.saveCount ∧ t.pending = s.pending

/-- The receiver over a run of events, with what it reports at each (R151). -/
def LineRx.run (r : LineRx) (events : List LineEvent) : LineRx × List RxOut :=
  events.foldl (fun a e => ((a.1.step e).1, a.2 ++ [(a.1.step e).2])) (r, [])

/-- Bytes on the Oven Line, each with its stop bit. -/
def onLine (bs : List Byte) : List LineEvent := bs.map fun b => .byte b true

/-- Bytes on the Oven Line, each with its stop bit present or missing. -/
def onLineWith (bs : List (Byte × Bool)) : List LineEvent := bs.map fun b => .byte b.1 b.2

/-- The fields of a payload in their order, each a width in bytes and a number (R152). -/
def spells (fields : List (Nat × Nat)) : List Byte := fields.flatMap fun x => be x.1 x.2

/-! ### The laws -/

/-- The pool's law (R139) and the Upward Queue's bound (R145). -/
def QueueBounds (s : State) : Prop := s.down.inUse ≤ 48 ∧ s.up.frames.length ≤ 32

/-- The number of ovens whose occupancy is CLEANING (R78). -/
def State.cleaningOvens (s : State) : Nat :=
  allOvens.countP fun i => (s.oven i).occupancy == .cleaning

/-- The slot count is that number (R78); the wait queue holds at most one entry per oven and only FREE ovens
(R81). During the restore nothing is cleaning or waiting. -/
def CleaningLaw (s : State) : Prop :=
  s.cleaning.slotCount = s.cleaningOvens ∧
    (s.cleaning.queue.map (·.oven)).Nodup ∧
    (∀ w ∈ s.cleaning.queue, (s.oven w.oven).occupancy = .free) ∧
    (s.phase = .restoring → s.cleaning.slotCount = 0 ∧ s.cleaning.queue = [])

/-- At most one unresolved call for each pair of oven and code, occurrences 1 to 255 (R97). -/
def MergingLaw (s : State) : Prop :=
  (∀ p q c d, s.call p = some c → s.call q = some d → c.state ≠ .resolved → d.state ≠ .resolved →
      c.oven = d.oven → c.code = d.code → p = q) ∧
    ∀ p c, s.call p = some c → 1 ≤ c.occurrences ∧ c.occurrences ≤ 255

/-- No two entries carry the same number, numbers lie from 1 to 65,535 (R94), and every entry stands in the
creation order (R93, R101). -/
def NumberLaw (s : State) : Prop :=
  (1 ≤ s.calls.next ∧ s.calls.next ≤ 65535) ∧
    (∀ p c, s.call p = some c → 1 ≤ c.number ∧ c.number ≤ 65535) ∧
    (∀ p q c d, s.call p = some c → s.call q = some d → c.number = d.number → p = q) ∧
    ∀ p c, s.call p = some c → p ∈ s.calls.order

/-- The oven has an unresolved LOCKOUT call, or its overflow lockout bit is set (R105). -/
def State.lockHeld (s : State) (i : OvenId) : Prop :=
  s.calls.overflow[i] = true ∨
    ∃ p c, s.call p = some c ∧ c.state ≠ .resolved ∧ c.oven = some i ∧ c.severity = .lockout

/-- The law of the lock (R105); during the restore no lock is held. -/
def LockLaw (s : State) : Prop :=
  ∀ i, ((s.oven i).locked = true ↔ s.lockHeld i) ∧
    ((s.oven i).locked = true → (s.cook i).state = .idle) ∧
    (s.phase = .restoring → (s.oven i).locked = false)

/-- The law of an update context (R109). -/
def UpdateLaw (s : State) : Prop :=
  ∀ i, (s.update i).passed ≤ (s.update i).length ∧
    ((s.update i).state = .sealed ∨ (s.update i).state = .applying →
      (s.update i).passed = (s.update i).length ∧ ~~~(s.update i).crc = (s.update i).expectedCrc)

/-- The law of occupancy (R11); during the restore every oven is FREE and none waits. -/
def OccupancyLaw (s : State) : Prop :=
  (∀ i, ((s.oven i).occupancy = .cooking ↔ (s.cook i).state ≠ .idle) ∧
      ((s.oven i).occupancy = .applying ↔ (s.update i).state = .applying)) ∧
    (s.phase = .restoring → s.cleaning.queue = [] ∧ ∀ i, (s.oven i).occupancy = .free)

/-- The run of the version a recipe holds in a role. -/
def RecipeEntry.runOf (e : RecipeEntry) : Role → Option Run
  | .staged => e.staged
  | .live => e.live.map (·.run)
  | .draining => e.draining.map (·.run)

/-- The law that owns step records (R21): a record is owned by a version exactly where the version's run holds
it, so by one version at most. Runs lie in the Step Store, and a recipe's versions carry different numbers. -/
def OwnersAgree (recipes : Vector RecipeEntry 512) (steps : Vector StepRec 768) : Prop :=
  (∀ (k : Fin 768) (o : Owner), steps[k].owner = some o ↔
      ∃ r run, recipeOf o.recipe = some r ∧ recipes[r].runOf o.role = some run ∧
        run.version = o.version ∧ run.first ≤ k.val ∧ k.val < run.first + run.count) ∧
    (∀ (r : Fin 512) (role : Role) (run : Run), recipes[r].runOf role = some run →
      run.first + run.count ≤ 768) ∧
    ∀ (r : Fin 512) (a b : Role) (x y : Run), recipes[r].runOf a = some x → recipes[r].runOf b = some y →
      x.version = y.version → a = b

/-- The number of cook contexts that are not IDLE and run a version of a recipe (R33). -/
def State.cooksRunning (s : State) (r : Fin 512) (version : Nat) : Nat :=
  allOvens.countP fun i =>
    (s.cook i).state != .idle && (s.cook i).recipe == r.val + 1 && (s.cook i).version == version

/-- The laws of step records and of user counts (R21, R33). Records are owned as the law says, in the tables and
in the saved image; user counts are the numbers of cooks, a draining version has at least one; a cook that is
not IDLE runs the live or the draining version of its recipe, by that version's run. While a TABLE_CLEAR is in
progress every cook is IDLE (R36, R37). -/
def RecipeLaw (s : State) : Prop :=
  OwnersAgree s.recipes s.steps ∧
    (∀ m, s.image = some m → OwnersAgree (m.content.recipes.map SavedRecipe.entry)
      (m.content.steps.map fun x => x.getD StepRec.blank)) ∧
    (∀ r v, (s.recipe r).live = some v → v.users = s.cooksRunning r v.run.version) ∧
    (∀ r v, (s.recipe r).draining = some v → v.users = s.cooksRunning r v.run.version ∧ 0 < v.users) ∧
    (∀ i, (s.cook i).state ≠ .idle → ∃ r role, recipeOf (s.cook i).recipe = some r ∧ role ≠ .staged ∧
      (s.recipe r).runOf role =
        some { version := (s.cook i).version, first := (s.cook i).first, count := (s.cook i).count }) ∧
    (s.clearing.isSome = true → ∀ i, (s.cook i).state = .idle)

/-- No expected serial is held twice, in the Oven Table or in the saved image it is restored from
(R15, R165). -/
def SerialLaw (s : State) : Prop :=
  (∀ i j a b, (s.oven i).record = some a → (s.oven j).record = some b → a.serial = b.serial → i = j) ∧
    ∀ m, s.image = some m → ∀ (i j : OvenId) a b, m.content.records[i] = some a →
      m.content.records[j] = some b → a.serial = b.serial → i = j

/-- A record is present in COMMISSIONED, ACTIVE and SILENT (01), a watch is kept in ACTIVE and SILENT (R125),
and it is frozen while the service flag is set or occupancy is APPLYING (R130). During the restore there is no
watch. -/
def PresenceLaw (s : State) : Prop :=
  ∀ i, ((s.oven i).record.isSome = true ↔
      (s.oven i).presence ≠ .vacant ∧ (s.oven i).presence ≠ .announced) ∧
    ((s.watch i).isSome = true ↔ (s.oven i).presence = .active ∨ (s.oven i).presence = .silent) ∧
    (∀ w, s.watch i = some w →
      (w.frozen = true ↔ (s.oven i).service = true ∨ (s.oven i).occupancy = .applying)) ∧
    (s.phase = .restoring → s.watch i = none)

end Sys2Proof.Machine
end

