-- ==== Sys2Proof/Certificates/Slice0/Obligations.lean ====
section
/-! DEFINITION. The statements for the provers, in the order of the spec's chapters. A statement that gives
exec's answer whole, as an update of the state before, states its frame with it. -/

open Sys2Proof Sys2Proof.Machine

/-! ### The machine as a whole -/

/-- A step takes the command at the front of the queue and runs it with the queue's rest: the block's form
of "a step runs the decoded instruction". The queue is the model's (log 1). -/
def Obligations.StepRunsFrontCommand : Prop :=
  ∀ (c : Instr) (rest : List Instr) (s : State),
    step { s with pending := c :: rest } = exec c { s with pending := rest }

/-- R1: a command is taken as a whole. Every command of the table, well-formed or not, in every state, is
followed by a next state with the rest of the queue waiting. That no command stops the machine and that none
touches the queue are the model's (log 1, log 5, log 8). -/
def Obligations.EveryCommandCompletes : Prop :=
  ∀ (c : Instr) (rest : List Instr) (s : State), s.pending = c :: rest →
    ∃ t, step s = .next t ∧ t.pending = rest

/-- The laws hold in the state right after reset. -/
def Obligations.LawsHoldAtReset : Prop :=
  QueueBounds State.reset ∧ CleaningLaw State.reset ∧ MergingLaw State.reset ∧ NumberLaw State.reset ∧
    LockLaw State.reset ∧ UpdateLaw State.reset ∧ OccupancyLaw State.reset ∧ SerialLaw State.reset ∧
    PresenceLaw State.reset ∧ RecipeLaw State.reset

/-! ### Start-up (12) -/

/-- R2, R20, R25, R40, R77, R93, R109, R124, R139, R145, R146, R151, R159, R161, R164: power-on and the reset pin
leave the reset values, creation order, report list, line error window, tick count and the receiver in HUNT among
them, and record their cause; image and save count stay. Also the state the model starts from. That no Ethernet
frame is being sent after a reset (log 33), that no idle gap has passed yet (log 13) and that the waiting commands
are kept (log 1) are the model's. -/
def Obligations.ResetsLeaveResetValues : Prop :=
  ResetValues State.reset ∧
  ∀ s : State,
    (∃ t, exec .powerOn s = .next t ∧ ResetOf s t .powerOn) ∧
      ∃ t, exec .resetPin s = .next t ∧ ResetOf s t .pin

/-- R165, R167: at READY a valid image gives back the set-up with user counts 0 and every recorded oven
COMMISSIONED, and nothing else changes. Without one every value stays as the reset set it: EMPTY with a save
count of 0, else LOST, and STORE_LOST (211, the part, MAJOR, EVENT) is raised. REPORT STARTED is built and the
roll call set in every case. -/
def Obligations.ReadyRestoresOrDefaults : Prop :=
  (∀ (s : State) (m : Image), s.phase = .restoring → s.image = some m → m.complete = true →
     m.crc = crc32 (Config.imageLayout m.content) →
     ∃ t, exec .ready s = .next t ∧
       t.phase = .ready ∧ t.restoreResult = .restored ∧ t.down.rollCall = true ∧
       (∀ i : OvenId,
         t.oven i =
           { presence := if m.content.records[i].isSome then .commissioned else .vacant,
             record := m.content.records[i], announced := none, occupancy := .free,
             service := false, locked := false, counters := ⟨0, 0, 0, 0, 0, 0, 0, 0⟩ }) ∧
       (∀ r : Fin 512,
         t.recipe r =
           { live := m.content.recipes[r].live.map fun v => { run := v.1, needs := v.2, users := 0 },
             staged := m.content.recipes[r].staged, draining := none,
             dayparts := m.content.recipes[r].dayparts, permit := m.content.recipes[r].permit }) ∧
       (∀ k : Fin 768, t.steps[k] = (m.content.steps[k]).getD StepRec.blank) ∧
       t.severity = m.content.severity ∧ t.classMap = m.content.classMap ∧
       t.config = m.content.config ∧ t.daypart = m.content.daypart ∧
       t.up = (s.offerReport (reportStarted s.resetCause .restored s.saveCount s.lineTime)).up ∧
       { t with
           phase := s.phase, restoreResult := s.restoreResult, ovens := s.ovens, recipes := s.recipes,
           steps := s.steps, severity := s.severity, classMap := s.classMap, config := s.config,
           daypart := s.daypart, up := s.up,
           down := { t.down with rollCall := s.down.rollCall } } = s) ∧
  (∀ s : State, s.phase = .restoring →
     (∀ m, s.image = some m → m.complete = false ∨ m.crc ≠ crc32 (Config.imageLayout m.content)) →
     (s.saveCount = 0 →
       let t := { s with restoreResult := .empty }.offerReport
         (reportStarted s.resetCause .empty 0 s.lineTime)
       exec .ready s = .next { t with phase := .ready, down := { t.down with rollCall := true } }) ∧
     (0 < s.saveCount →
       let t := ({ s with restoreResult := .lost }.offerReport
         (reportStarted s.resetCause .lost s.saveCount s.lineTime)).raise none 211 .major .event
       exec .ready s = .next { t with phase := .ready, down := { t.down with rollCall := true } }))

/-- R166: during the restore no kitchen frame is taken. Every frame of the Store Link changes the start-up
discards counter alone; so does a whole frame of the Oven Line, past what the idle gap before it ends in the
receiver (R151). The two START_UP_DISCARD commands are these. That an idle gap comes before a whole frame (log
14) and that a frame it cuts short counts by its own cause in the restore too (log 15) are the model's. -/
def Obligations.RestoreTakesNoFrames : Prop :=
  ∀ s : State, s.phase = .restoring →
    let counted (t : State) : State :=
      { t with counters := { t.counters with startUp := min 65535 (t.counters.startUp + 1) } }
    exec (.startUpDiscard .store) s = .next (counted s) ∧
    exec (.startUpDiscard .ovenLine) s = .next (counted { s.lineGap with lineRx := .hunt false }) ∧
    (∀ c x, storeForm c = some x → exec c s = .next (counted s)) ∧
    (∀ c x, upForm c = some x →
      exec c s = .next (counted { s.lineGap with lineRx := .hunt false }))

/-- R168, R169: a SAVE below the limit marks the image incomplete with the contents that stand and waits with
its REPLY; at 20,000 it is refused with WORN and STORE_WORN is raised. At its end the image is complete with
its CRC-32, the count is one more and the REPLY carries it. The REPLY comes last (log 7). -/
def Obligations.SaveBeginsAndEnds : Prop :=
  (∀ (s : State) (f : StoreFrame), RequestedTable s f 7 [0] → s.saveCount < 20000 →
    ∃ t m, exec (.save f) s = .next t ∧ t.image = some m ∧ m.complete = false ∧
      m.content = s.savedContent ∧ t.gateway = f.src ∧
      t.saving = some { cls := 5, oven := 0, tag := f.tag, seq := f.seq } ∧
      { t with image := s.image, saving := none, gateway := s.gateway } = s) ∧
  (∀ (s : State) (f : StoreFrame), RequestedTable s f 7 [0] → 20000 ≤ s.saveCount →
    exec (.save f) s = .next
      (((s.fromGateway f).raise none 212 .minor .event).replies f { result := .worn })) ∧
  (∀ (s : State) (m : Image) (r : ReplyTo), s.saving = some r → s.image = some m →
    exec .saveEnd s = .next
      (({ s with
          image := some { content := m.content, complete := true,
                          crc := crc32 (Config.imageLayout m.content) }
          saveCount := s.saveCount + 1
          saving := none }).offerReply
        (replyFrame r { result := .done, detail := s.saveCount + 1 })))

/-- R39, R165, R168: what a SAVE wrote comes back after a power-on: records of COMMISSIONED, ACTIVE and
SILENT ovens, live versions with no users, staged versions, masks, the records LIVE and STAGED versions own,
the maps, the configuration, the daypart. -/
def Obligations.SaveThenRestartGivesBack : Prop :=
  ∀ (s : State) (f : StoreFrame), RequestedTable s f 7 [0] → s.saveCount < 20000 →
    ∃ a b c t, exec (.save f) s = .next a ∧ exec .saveEnd a = .next b ∧ exec .powerOn b = .next c ∧
      exec .ready c = .next t ∧
      t.restoreResult = .restored ∧ t.saveCount = s.saveCount + 1 ∧
      t.config = s.config ∧ t.daypart = s.daypart ∧ t.severity = s.severity ∧
      t.classMap = s.classMap ∧
      (∀ i, (t.oven i).record =
        if (s.oven i).presence = .vacant ∨ (s.oven i).presence = .announced then none
        else (s.oven i).record) ∧
      (∀ r, t.recipe r =
        { live := (s.recipe r).live.map fun v => { v with users := 0 },
          staged := (s.recipe r).staged, draining := none,
          dayparts := (s.recipe r).dayparts, permit := (s.recipe r).permit }) ∧
      (∀ k, k < 768 → ∀ o, (s.stepRec k).owner = some o → o.role ≠ .draining →
        t.stepRec k = s.stepRec k) ∧
      ∀ k, k < 768 → ((s.stepRec k).owner = none ∨
        ∃ o, (s.stepRec k).owner = some o ∧ o.role = .draining) → t.stepRec k = StepRec.blank

/-- R170: a reset of any kind taken during a SAVE stops it without a REPLY and without counting it; the image
stays incomplete, so that the restore gives the defaults, with LOST and the STORE_LOST call at READY, or with
EMPTY and no call where the save was the first. -/
def Obligations.ResetDuringASaveLosesTheImage : Prop :=
  ∀ (s : State) (m : Image) (r : ReplyTo) (c : Instr), s.saving = some r → s.image = some m →
    m.complete = false →
    (c = .powerOn ∨ c = .resetPin ∨ (c = .softResetTenthTick ∧ s.softReset = some 0) ∨
      (∃ f, c = .softReset f ∧ Requested s f 6 [0] ∧ 32 ≤ s.up.frames.length) ∨
      (c = .storeLinkTransmissionEnd ∧ s.softReset.isSome = true ∧ s.up.tx.isSome = true ∧
        ∃ q rest, s.up.frames = replyFrame { cls := clsControl, oven := 0, tag := 6, seq := q }
          { result := .done } :: rest)) →
    ∃ a t, exec c s = .next a ∧ a.saving = none ∧ a.saveCount = s.saveCount ∧ a.image = some m ∧
      a.up.frames = [] ∧ exec .ready a = .next t ∧ t.saveCount = s.saveCount ∧
      t.config = Params.reset ∧ t.daypart = 0 ∧
      (∀ i, t.oven i = OvenEntry.reset) ∧ (∀ n, t.recipe n = RecipeEntry.reset) ∧
      (∀ k, t.stepRec k = StepRec.blank) ∧ (∀ k ∈ t.up.frames, k.cls ≠ clsReply) ∧
      (s.saveCount = 0 → t.restoreResult = .empty ∧ ∀ p, t.call p = none) ∧
      (0 < s.saveCount → t.restoreResult = .lost ∧
        ∃ p d, t.call p = some d ∧ d.oven = none ∧ d.code = 211 ∧ d.severity = .major ∧
          d.kind = .event ∧ d.state = .reported)

/-- R163: an accepted SOFT_RESET offers its REPLY and waits; with the Upward Queue full it resets at once. The
reset comes at the end of that REPLY's transmission or at the tenth Watch Tick, the first of the two. That the
reset ends the Store Link's transmission (log 33), leaves no idle gap passed (log 13) and keeps the waiting
commands (log 1) are the model's. -/
def Obligations.SoftResetWaitsForItsReply : Prop :=
  ∀ s : State,
    (∀ f, Requested s f 6 [0] → s.up.frames.length < 32 →
      exec (.softReset f) s =
        .next { (s.fromGateway f).replies f { result := .done } with softReset := some 10 }) ∧
    (∀ f, Requested s f 6 [0] → 32 ≤ s.up.frames.length →
      ∃ t, exec (.softReset f) s = .next t ∧ ResetOf s t .control) ∧
    (s.softReset = some 0 → ∃ t, exec .softResetTenthTick s = .next t ∧ ResetOf s t .control) ∧
    (∀ (f : StoreFrame) e rest n, s.softReset = some n → s.up.tx = some e →
      s.up.frames = replyFrame { cls := clsControl, oven := 0, tag := 6, seq := f.seq }
        { result := .done } :: rest →
      ∃ t, exec .storeLinkTransmissionEnd s = .next t ∧ ResetOf s t .control)

/-! ### Clock, timers and pause (08, 10) -/

/-- R124, R126, R43, R163, R91, R107, R120: a Watch Tick. Watches that are not frozen count, acknowledgement
timers and an awaited soft reset count down, every tenth tick is a second of line time, and a timer on line
time comes due only there. A count that has run out waits for its expiry (the model's, log 6), and a deadline is
reached where line time equals it, modulo 2^32 (the model's, log 21). -/
def Obligations.WatchTickCounts : Prop :=
  ∀ s : State, ∃ t, exec .watchTick s = .next t ∧
    (∀ i, t.watch i = (s.watch i).map fun w =>
      if w.frozen = true ∨ w.counter = 0 then w
      else if w.prescaler ≤ 1 then { w with prescaler := w.scale, counter := w.counter - 1 }
      else { w with prescaler := w.prescaler - 1 }) ∧
    (∀ i, t.slot i = { slot := (s.slot i).slot, timer := (s.slot i).timer.map fun n => n - 1 }) ∧
    t.softReset = s.softReset.map (fun n => n - 1) ∧
    (s.tickPhase < 9 → t.tickPhase = s.tickPhase + 1 ∧ t.lineTime = s.lineTime ∧
      t.cleaning = s.cleaning ∧ t.updates = s.updates ∧ t.calls = s.calls) ∧
    (9 ≤ s.tickPhase → t.tickPhase = 0 ∧ t.lineTime = s.lineTime + 1 ∧
      (∀ i, t.cleanRecord i =
        if (s.cleanRecord i).timer = .running ∧ (s.cleanRecord i).deadline = s.lineTime + 1 then
          { s.cleanRecord i with timer := .due }
        else s.cleanRecord i) ∧
      (∀ i, t.update i =
        if (s.update i).timer = .running ∧ (s.update i).deadline = s.lineTime + 1 then
          { s.update i with timer := .due }
        else s.update i) ∧
      t.calls.window =
        (if (s.lineTime + 1).toNat % 60 = 0 then { s.calls.window with closeDue := true }
          else s.calls.window) ∧
      { t.cleaning with records := s.cleaning.records } = s.cleaning ∧
      { t.calls with window := s.calls.window } = s.calls) ∧
    { t with
        watches := s.watches, slots := s.slots, softReset := s.softReset, tickPhase := s.tickPhase,
        lineTime := s.lineTime, cleaning := s.cleaning, updates := s.updates, calls := s.calls } = s

/-- R10, R128, R52: a watch that has run out reloads; an ACTIVE entry becomes SILENT with its report, SILENT
(200, MAJOR, CONDITION) is raised, a cook aborts. An acknowledgement timer that has run out empties the slot and
raises STEP_NO_ACK (203, MAJOR, CONDITION); a STARTING or ADVANCING cook aborts with a STOP, an ENDING one ends
unconfirmed without one. That a count at 0 waits for its expiry (log 6), and that an IDLE or RUNNING context, which
no run meets there, is left as it is (log 35), are the model's. -/
def Obligations.WatchAndAckExpiries : Prop :=
  (∀ (s : State) (i : OvenId) (w : Watch) (r : CommRecord), s.watch i = some w → w.frozen = false →
     w.counter = 0 → (s.oven i).record = some r →
     let a := s.setWatch i
       (some { counter := r.window, prescaler := r.scale, scale := r.scale, frozen := false })
     ((s.oven i).presence = .active → exec (.silenceWatchExpiry i) s = .next
       (((a.setPresence i .silent .silence).raise (some i) 200 .major .condition).stopCook i
         .abortedSilent)) ∧
     ((s.oven i).presence ≠ .active → exec (.silenceWatchExpiry i) s = .next
       ((a.raise (some i) 200 .major .condition).stopCook i .abortedSilent))) ∧
  (∀ (s : State) (i : OvenId) (fr : SlotFrame), s.slot i = { slot := .sent fr, timer := some 0 } →
     let a := (s.setSlot i { slot := .empty, timer := none }).raise (some i) 203 .major .condition
     ((s.cook i).state = .starting ∨ (s.cook i).state = .advancing →
       exec (.ackTimerExpiry i) s = .next ((a.cookGoIdle i .abortedNoAck).putStop i)) ∧
     ((s.cook i).state = .ending →
       exec (.ackTimerExpiry i) s = .next (a.cookGoIdle i .endedUnconfirmed)) ∧
     ((s.cook i).state = .idle ∨ (s.cook i).state = .running →
       exec (.ackTimerExpiry i) s = .next a))

/-- R91, R107, R119, R120: overtime sets its flag and raises CLEAN_OVERTIME (206, MAJOR, CONDITION); an apply
ends with TIMEOUT; a line error window closes, clearing LINE_ERRORS where it was quiet. A bad CRC-16 counts in
the window and from the threshold on raises LINE_ERRORS (210, the part, MINOR, CONDITION) once. The due marks
are the model's (log 6). -/
def Obligations.LineTimeExpiriesAndLineErrors : Prop :=
  ((∀ (s : State) (i : OvenId), (s.cleanRecord i).timer = .due →
     exec (.overtimeExpiry i) s = .next
       ((s.modCleanRecord i fun r => { r with overtime := true, timer := .stopped }).raise (some i) 206
         .major .condition)) ∧
   (∀ (s : State) (i : OvenId), (s.update i).timer = .due → (s.update i).state = .applying →
     exec (.applyTimerExpiry i) s = .next (s.endApply i .timeout ⟨0, 0⟩)) ∧
   ∀ s : State, s.calls.window.closeDue = true →
     let a := if s.calls.window.count < s.config.lineErrorThreshold then s.clearAtSource none 210 else s
     exec .lineErrorWindowClose s = .next
       { a with calls :=
           { a.calls with window := { count := 0, raised := false, closeDue := false } } }) ∧
  (∀ s : State,
     let n := min 65535 (s.calls.window.count + 1)
     let a : State := { s with calls := { s.calls with window := { s.calls.window with count := n } } }
     (n < s.config.lineErrorThreshold ∨ s.calls.window.raised = true → s.lineError = a) ∧
     (s.config.lineErrorThreshold ≤ n → s.calls.window.raised = false →
       s.lineError =
         let b := a.raise none 210 .minor .condition
         { b with calls := { b.calls with window := { b.calls.window with raised := true } } }))

/-- R148, R149: a pause frame replaces the pause remaining, also during the restore (R166); a MAC control frame
to another destination is none and is counted as STORE_FOREIGN. The end of a pause has counted what was left
of it; on an empty queue the block counts one 512-bit time of a pause and idles without one. That the 512-bit
times pass on an empty queue is the model's (log 1). -/
def Obligations.PauseCounts : Prop :=
  ∀ s : State,
    (∀ d (q : BitVec 16), d = Config.stationAddress ∨ d = 0x0180C2000001#48 →
      exec (.pauseFrame d q) s =
        .next { s with pause := { s.pause with remaining := q.toNat } }) ∧
    (∀ d (q : BitVec 16), d ≠ Config.stationAddress → d ≠ 0x0180C2000001#48 → s.phase = .ready →
      exec (.pauseFrame d q) s = .next { s with counters :=
        { s.counters with storeForeign := min 65535 (s.counters.storeForeign + 1) } }) ∧
    (exec .pauseExpiry s = .next { s with pause :=
      { remaining := 0, paused := min 4294967295 (s.pause.paused + s.pause.remaining) } }) ∧
    (s.pending = [] → 0 < s.pause.remaining →
      step s = .next { s with pause :=
        { remaining := s.pause.remaining - 1, paused := min 4294967295 (s.pause.paused + 1) } }) ∧
    (s.pending = [] → s.pause.remaining = 0 → step s = .next s)

/-! ### The receivers (09, 10) -/

/-- R136, R148, R166: the MAC drops a frame with a reception error as STORE_FCS, then a control frame that is no
pause frame, a frame for another destination and one of another type as STORE_FOREIGN, or as a start-up discard
during the restore; the Classifier's three checks follow in order, each with its counter, and in the restore a
frame that reaches them is a start-up discard. Where the opcode of a control frame stands is the model's (log
18), and so is what the restore counts of a frame the MAC drops (log 15). -/
def Obligations.MacAndClassifierDiscards : Prop :=
  (∀ (s : State) (e : EthFrame),
     let broken := e.rxErr = true ∨ EthFrame.size e < 64 ∨ 1518 < EthFrame.size e ∨
       e.fcs ≠ crc32 (EthFrame.covered e)
     let foreign :=
       e.etype = 0x8808#16 ∧ ¬ (EthFrame.macOpcode e = 1 ∧
         (e.dest = Config.stationAddress ∨ e.dest = 0x0180C2000001#48)) ∨
       e.etype ≠ 0x8808#16 ∧ (e.etype ≠ s.config.kitchenType ∨
         e.dest ≠ Config.stationAddress ∧ e.dest ≠ 0xFFFFFFFFFFFF#48)
     (broken → exec (.storeFrameDropped e) s = .next { s with counters :=
       { s.counters with storeFcs := min 65535 (s.counters.storeFcs + 1) } }) ∧
     (¬ broken → foreign → s.phase = .ready →
       exec (.storeFrameDropped e) s = .next { s with counters :=
         { s.counters with storeForeign := min 65535 (s.counters.storeForeign + 1) } }) ∧
     (¬ broken → foreign → s.phase = .restoring →
       exec (.storeFrameDropped e) s = .next { s with counters :=
         { s.counters with startUp := min 65535 (s.counters.startUp + 1) } })) ∧
  (∀ (s : State) (e : EthFrame), s.phase = .ready → EthFrame.sort s.config.kitchenType e = .kitchen →
     let n := headerLen e.payload
     let fits := n ≤ 480 ∧ (e.payload.length = 7 + n ∨ e.payload.length = 46 ∧ 7 + n ≤ 46)
     let cls := (e.payload.getD 0 0).toNat
     let addr := (e.payload.getD 1 0).toNat
     (¬ fits → exec (.storeClassifierDiscard e) s = .next { s with counters :=
       { s.counters with storeLength := min 65535 (s.counters.storeLength + 1) } }) ∧
     (fits → (cls = 0 ∨ 5 < cls) → exec (.storeClassifierDiscard e) s = .next { s with counters :=
       { s.counters with storeClass := min 65535 (s.counters.storeClass + 1) } }) ∧
     (fits → 1 ≤ cls → cls ≤ 5 → 16 < addr → ¬ (addr = 31 ∧ cls = 5) →
       exec (.storeClassifierDiscard e) s = .next { s with counters :=
         { s.counters with storeAddress := min 65535 (s.counters.storeAddress + 1) } })) ∧
  ∀ (s : State) (e : EthFrame), s.phase = .restoring → EthFrame.sort s.config.kitchenType e = .kitchen →
    exec (.storeClassifierDiscard e) s = .next { s with counters :=
      { s.counters with startUp := min 65535 (s.counters.startUp + 1) } }

/-- R135, R150, R151: the receiver delivers every frame the Oven Line form carries: after an idle gap the start
byte, header, payload and CRC-16 bytes of a frame of up to 480 payload bytes bring nothing before the last
byte, and the whole frame with a correct check at it; with any other CRC-16 the check fails. On the line those
bytes are a start bit, eight data bits with the least significant first and a stop bit each, back to back, and 4
idle byte-times follow: (10 + L) times 10 bits and 40 more, each of 1 µs. -/
def Obligations.ReceiverDeliversLineFrames : Prop :=
  (∀ (k : KFrame) (c : BitVec 16), k.payload.length ≤ 480 →
    (LineRx.hunt true).run (onLine ((0x7E : Byte) :: (k.bytes ++ beWord 2 c))) =
      (.hunt false, List.replicate (9 + k.payload.length) .nothing ++
        [.whole k.bytes (decide (c = crc16 k.bytes))])) ∧
  (∀ b : Byte, byteBits b =
    [.start, .data (b.getLsbD 0), .data (b.getLsbD 1), .data (b.getLsbD 2), .data (b.getLsbD 3),
      .data (b.getLsbD 4), .data (b.getLsbD 5), .data (b.getLsbD 6), .data (b.getLsbD 7), .stop]) ∧
  ∀ k : KFrame,
    lineSignal k = ((0x7E : Byte) :: (k.bytes ++ beWord 2 (crc16 k.bytes))).flatMap byteBits ++
      List.replicate 40 .stop ∧
    (lineSignal k).length = (10 + k.payload.length) * 10 + 40

/-- R135, R151, R154: what the Oven Line discards, and the counter of each cause: a wrong CRC-16 as LINE_CRC
with the line error window told; an address outside 1 to 16 as LINE_SOURCE; another class or notice kind as
LINE_CLASS; a payload length outside the kind's range, a header length above 480 whatever follows, a frame cut
short by a gap and stray bytes after a gap as LINE_LENGTH. A frame with a missing stop bit after its start byte
is counted as LINE_CRC and told to the window however it ends: at its last byte, at a gap, at a length above
480. That the stop bit of the start byte itself is not looked at is the model's (log 13). -/
def Obligations.OvenLineDiscards : Prop :=
  ∀ s : State, s.phase = .ready → s.lineRx = .hunt true →
    let lengthCount (u : State) : State :=
      { u with counters := { u.counters with lineLength := min 65535 (u.counters.lineLength + 1) } }
    let crcCount (u : State) : State := State.lineError
      { u with counters := { u.counters with lineCrc := min 65535 (u.counters.lineCrc + 1) } }
    let marked (bs : List (Byte × Bool)) := ∃ b ∈ bs, b.2 = false
    let arrive (stop : Bool) (bs : List (Byte × Bool)) := onLineWith ((0x7E, stop) :: bs)
    (∀ (k : KFrame) (c : BitVec 16), k.payload.length ≤ 480 →
      let whole := Instr.lineFrameDiscard (onLine ((0x7E : Byte) :: (k.bytes ++ beWord 2 c)))
      let u : State := { s with lineRx := .hunt false }
      (c ≠ crc16 k.bytes → exec whole s = .next (crcCount u)) ∧
      (c = crc16 k.bytes → ovenOf k.oven.toNat = none → exec whole s = .next
        { u with counters :=
          { u.counters with lineSource := min 65535 (u.counters.lineSource + 1) } }) ∧
      (c = crc16 k.bytes → (ovenOf k.oven.toNat).isSome = true → upwardLengths k.cls k.tag = none →
        exec whole s = .next { u with counters :=
          { u.counters with lineClass := min 65535 (u.counters.lineClass + 1) } }) ∧
      (∀ lo hi, c = crc16 k.bytes → (ovenOf k.oven.toNat).isSome = true →
        upwardLengths k.cls k.tag = some (lo, hi) → (k.payload.length < lo ∨ hi < k.payload.length) →
        exec whole s = .next (lengthCount u))) ∧
    (∀ (k : KFrame) (n : Nat), k.payload.length ≤ 480 → n < 9 + k.payload.length →
      exec (.lineFrameDiscard
        (onLine ((0x7E : Byte) :: (k.bytes ++ beWord 2 (crc16 k.bytes)).take n) ++ [.idleGap])) s =
        .next (lengthCount { s with lineRx := .hunt true })) ∧
    (∀ (b : Byte) (rest : List Byte), b ≠ 0x7E →
      exec (.lineFrameDiscard (onLine (b :: rest))) s =
        .next (lengthCount { s with lineRx := .hunt false })) ∧
    (∀ (k : KFrame) (c : BitVec 16) (stop : Bool) (bs : List (Byte × Bool)), k.payload.length ≤ 480 →
      bs.map (·.1) = k.bytes ++ beWord 2 c → marked bs →
      exec (.lineFrameDiscard (arrive stop bs)) s = .next (crcCount { s with lineRx := .hunt false })) ∧
    (∀ (k : KFrame) (c : BitVec 16) (n : Nat) (stop : Bool) (bs : List (Byte × Bool)),
      k.payload.length ≤ 480 → n < 9 + k.payload.length →
      bs.map (·.1) = (k.bytes ++ beWord 2 c).take n → marked bs →
      exec (.lineFrameDiscard (arrive stop bs ++ [.idleGap])) s =
        .next (crcCount { s with lineRx := .hunt true })) ∧
    ∀ (header rest : List (Byte × Bool)) (stop : Bool), header.length = 7 →
      480 < field (header.map (·.1)) 5 2 →
      let u : State := { s with lineRx := .hunt false }
      (¬ marked header → exec (.lineFrameDiscard (arrive stop (header ++ rest))) s =
        .next (lengthCount u)) ∧
      (marked header → exec (.lineFrameDiscard (arrive stop (header ++ rest))) s = .next (crcCount u))

/-! ### CONTROL requests: common checks, status, configuration (11) -/

/-- R157, R158, R163, R37: the checks every CONTROL request passes first, in their order; each refusal sets the
gateway address, offers its REPLY and changes nothing else. That a row takes its own tag alone, any other being
refused with BAD_FIELD under it, is the model's (log 8), and so is the detail 0 of the BUSY of R37 (log 19). -/
def Obligations.CommonChecks : Prop :=
  ∀ (c : Instr) (x : StoreForm) (s : State), storeForm c = some x → x.cls = clsControl →
    s.phase = .ready → x.frame.len.toNat = x.frame.payload.length → x.frame.payload.length ≤ 480 →
    (x.frame.oven.toNat ≤ 16 ∨ x.frame.oven = 31) →
    let refused (a : Reply) := exec c s = .next ((s.fromGateway x.frame).replies x.frame a)
    let saved := s.saving.isSome = true ∧ changesSaved c = true
    (s.softReset.isSome = true → refused { result := .busy }) ∧
    (s.softReset = none → (x.frame.tag ≠ x.code ∨ x.frame.oven ≠ 0) →
      refused { result := .badField }) ∧
    (s.softReset = none → x.frame.tag = x.code → x.frame.oven = 0 → saved →
      refused { result := .busy, detail := 6 }) ∧
    (∀ r, s.softReset = none → x.frame.tag = x.code → x.frame.oven = 0 → ¬ saved →
      s.clearing.isSome = true → clearRefuses c = some r → refused { result := r }) ∧
    (s.softReset = none → x.frame.tag = x.code → x.frame.oven = 0 → ¬ saved →
      (s.clearing = none ∨ clearRefuses c = none) →
      x.frame.payload.length ∉ controlLengths c → refused { result := .badField })

/-- R18, R108, R160, R161: STATUS_READ, CONFIG_READ, OVEN_READ and CALL_READ answer DONE with their data and change
nothing but the gateway address and the Upward Queue; a section, parameter, address or position that is none is
refused with BAD_FIELD. The data carry the fields the rules list, in their order: both sections of STATUS_READ, the
fourteen parameters, an oven's entry with its optional parts, counters and contexts, and up to 16 calls from a
first position with mask, counters and positions in use. Widths, sets and numbers where R152 leaves them open (log
10), and the next start a CALL_READ names (log 34), are the model's reading. -/
def Obligations.ReadsChangeNothing : Prop :=
  (let flag (b : Bool) : Nat := if b then 1 else 0
   let mask (m : OvenId → Bool) : Nat :=
     ((List.finRange 16).map fun i => if m i then 2 ^ (i.val + 1) else 0).sum
   let calls (s : State) : Nat := (List.finRange 32).countP fun p => (s.call p).isSome
   (∀ s : State, statusPart s = spells
     [(1, 1), (2, 7416), (1, Config.siliconRevision), (6, Config.stationAddress.toNat),
      (1, s.resetCause.code), (4, s.lineTime.toNat), (1, s.restoreResult.code), (2, s.saveCount),
      (1, s.daypart.val), (1, flag s.clearing.isSome), (1, flag s.saving.isSome),
      (2, s.counters.storeFcs), (2, s.counters.storeForeign), (2, s.counters.storeLength),
      (2, s.counters.storeClass), (2, s.counters.storeAddress), (2, s.counters.lineLength),
      (2, s.counters.lineCrc), (2, s.counters.lineSource), (2, s.counters.lineClass),
      (2, s.counters.unknownSource), (2, s.counters.startUp),
      (1, s.down.classes[(0 : Fin 4)].length), (1, s.down.classes[(1 : Fin 4)].length),
      (1, s.down.classes[(2 : Fin 4)].length), (1, s.down.classes[(3 : Fin 4)].length),
      (1, 48 - s.down.inUse), (2, s.down.purged), (1, s.up.frames.length), (2, s.up.repliesLost),
      (2, s.up.reportsLost), (4, s.pause.paused), (1, calls s), (2, s.calls.lost), (2, s.calls.ignored),
      (4, mask fun i => s.calls.overflow[i])]) ∧
   (∀ s : State,
     let opened := (List.finRange 16).filter fun i => (s.cleanRecord i).isOpen
     statusCleaning s = spells
       ([(1, s.config.slotLimit), (1, s.cleaning.slotCount), (1, s.cleaning.queue.length)] ++
         (s.cleaning.queue.flatMap fun w =>
           [(1, w.oven.val + 1), (1, w.programme.code), (4, w.taken.toNat), (1, w.seq.toNat)]) ++
         [(1, opened.length)] ++ opened.flatMap fun i =>
           let r := s.cleanRecord i
           [(1, (r.programme.map (·.code)).getD 0), (1, r.phase), (4, r.admitted.toNat),
            (4, r.deadline.toNat), (1, flag r.overtime), (1, flag r.requestSent),
            (1, flag r.cancelSent), (1, r.seq.toNat), (1, i.val + 1)])) ∧
   (∀ p : Params,
     let values : List (Nat × Nat) :=
       [(2, p.kitchenType.toNat), (1, p.cleanMask.toNat), (1, p.updateMask.toNat), (1, p.slotLimit),
        (2, p.rinse), (2, p.light), (2, p.medium), (2, p.heavy), (1, p.bulkLimit), (1, p.bulkHoldOff),
        (1, p.stepAckTimeout), (1, p.gapLimit), (2, p.applyTimeout), (1, p.lineErrorThreshold)]
     p.allBytes = spells values ∧
       ∀ (k : Nat) x, values[k]? = some x → p.readBytes (k + 1) = spells [x]) ∧
   (∀ (e : OvenEntry) (overflow : Bool) (c : CookCtx) (u : UpdateCtx),
     ovenData e overflow c u = spells
       ([(1, e.presence.code)] ++
         ((e.record.map fun r => [(1, 1), (6, r.serial.toNat), (1, r.modelClass), (1, r.caps.code),
           (1, r.window), (1, r.scale), (1, r.decimation)]).getD
             [(1, 0), (6, 0), (1, 0), (1, 0), (1, 0), (1, 0), (1, 0)]) ++
         ((e.announced.map fun a => [(1, 1), (6, a.serial.toNat), (1, a.modelClass), (1, a.caps.code),
           (1, a.version.major.toNat), (1, a.version.minor.toNat), (1, a.activity.code)]).getD
             [(1, 0), (6, 0), (1, 0), (1, 0), (1, 0), (1, 0), (1, 0)]) ++
         [(1, e.occupancy.code), (1, flag e.service), (1, flag e.locked), (1, flag overflow),
          (2, e.counters.received), (2, e.counters.refused), (2, e.counters.clamped),
          (2, e.counters.gaps), (2, e.counters.dropped), (2, e.counters.duplicates),
          (2, e.counters.staleAcks), (1, e.counters.phase),
          (1, c.state.code), (1, c.origin.code), (2, c.recipe), (1, c.version), (2, c.first),
          (1, c.count), (2, c.batch.toNat), (1, c.stepIndex), (1, c.stepsDone), (4, c.stepClock),
          (4, c.holdClock), (4, c.dev), (1, flag c.tripped), (4, c.doorOpen), (2, c.gaps),
          (2, c.missingRun), (2, c.lastStamp.toNat), (1, flag c.baseline), (4, c.total),
          (4, c.started.toNat),
          (1, u.state.code), (2, u.imageId), (4, u.length), (4, u.expectedCrc.toNat),
          (1, u.version.major.toNat), (1, u.version.minor.toNat), (4, u.passed), (4, u.crc.toNat),
          (1, u.queued), (2, u.repeated), (4, u.deadline.toNat), (1, flag u.begun), (1, u.cause.code)])) ∧
   (∀ (s : State) (first : Nat),
     let used := (List.finRange 32).filter fun p => decide (first ≤ p.val) && (s.call p).isSome
     callReadData s first =
       ((used.take 16).flatMap fun p =>
         ((s.call p).map fun c => serviceBytes c c.state ++ be 1 p.val).getD []) ++
       spells [(1, ((used.drop 16).head?.map (·.val)).getD 32),
         (4, mask fun i => s.calls.overflow[i]), (2, s.calls.lost), (2, s.calls.ignored),
         (1, calls s)]) ∧
   (∀ c : Caps, c.code = flag c.steam + 2 * flag c.probe + 4 * flag c.autoClean) ∧
   [Occupancy.free, .cooking, .cleaning, .applying].map (·.code) = [1, 2, 3, 4] ∧
   [Activity.idle, .cooking, .cleaning, .updating].map (·.code) = [1, 2, 3, 4] ∧
   [CookState.idle, .starting, .running, .advancing, .ending].map (·.code) = [1, 2, 3, 4, 5] ∧
   [UpdateState.idle, .opened, .receiving, .sealed, .applying, .failed].map (·.code) =
     [1, 2, 3, 4, 5, 6]) ∧
  ∀ (s : State) (f : StoreFrame),
    let a := s.fromGateway f
    let bad := a.replies f { result := .badField }
    let reads (d : List Byte) := a.replies f { result := .done, data := d }
    let n := byteAt f.payload 0
    (Requested s f 1 [1] → exec (.statusRead f) s = .next
      (if n = 1 then reads (statusPart a) else if n = 2 then reads (statusCleaning a) else bad)) ∧
    (Requested s f 3 [0] → exec (.configRead f) s = .next (reads s.config.allBytes)) ∧
    (Requested s f 3 [1] → exec (.configRead f) s = .next
      (if 1 ≤ n ∧ n ≤ 14 then reads (s.config.readBytes n) else bad)) ∧
    (∀ i, RequestedFor s f 12 [1] i → exec (.ovenRead f) s = .next
      (reads (ovenData (s.oven i) s.calls.overflow[i] (s.cook i) (s.update i)))) ∧
    (Requested s f 12 [1] → (n = 0 ∨ 16 < n) → exec (.ovenRead f) s = .next bad) ∧
    (Requested s f 44 [1] → exec (.callRead f) s = .next
      (if n ≤ 31 then reads (callReadData s n) else bad))

/-- R161, R83: CONFIG_WRITE puts the value, clamped to the parameter's range, into its parameter and no other,
answers with the stored value and CLAMPED where it differs, and a new clean daypart mask or slot limit starts
an admission pass. Unknown parameters, and 0x8808 as kitchen type value, are refused with BAD_FIELD.
The REPLY comes last (log 7). -/
def Obligations.ConfigWriteClamps : Prop :=
  ∀ (s : State) (f : StoreFrame), Requested s f 2 [3] → s.saving = none →
    let a := s.fromGateway f
    let n := byteAt f.payload 0
    let v := field f.payload 1 2
    let bad := exec (.configWrite f) s = .next (a.replies f { result := .badField })
    let writes (x : Nat) (t : State) := exec (.configWrite f) s = .next
      (t.replies f { result := .done, detail := x, clamped := decide (x ≠ v) })
    let within (lo hi : Nat) := max lo (min hi v)
    let c := s.config
    (n = 1 → v = 0x8808 → bad) ∧
    (n = 1 → v ≠ 0x8808 → writes (max 0x0600 v)
      { a with config := { c with kitchenType := BitVec.ofNat 16 (max 0x0600 v) } }) ∧
    (n = 2 → writes (v % 16)
      { a with config := { c with cleanMask := BitVec.ofNat 4 v } }.admissionPass) ∧
    (n = 3 → writes (v % 16) { a with config := { c with updateMask := BitVec.ofNat 4 v } }) ∧
    (n = 4 → writes (within 1 8)
      { a with config := { c with slotLimit := within 1 8 } }.admissionPass) ∧
    (n = 5 → writes (within 10 480) { a with config := { c with rinse := within 10 480 } }) ∧
    (n = 6 → writes (within 10 480) { a with config := { c with light := within 10 480 } }) ∧
    (n = 7 → writes (within 10 480) { a with config := { c with medium := within 10 480 } }) ∧
    (n = 8 → writes (within 10 480) { a with config := { c with heavy := within 10 480 } }) ∧
    (n = 9 → writes (within 4 40) { a with config := { c with bulkLimit := within 4 40 } }) ∧
    (n = 10 → writes (within 1 255) { a with config := { c with bulkHoldOff := within 1 255 } }) ∧
    (n = 11 → writes (within 5 100) { a with config := { c with stepAckTimeout := within 5 100 } }) ∧
    (n = 12 → writes (within 10 255) { a with config := { c with gapLimit := within 10 255 } }) ∧
    (n = 13 → writes (within 30 900) { a with config := { c with applyTimeout := within 30 900 } }) ∧
    (n = 14 → writes (within 1 255)
      { a with config := { c with lineErrorThreshold := within 1 255 } }) ∧
    (n = 0 ∨ 14 < n → bad)

/-- R162, R83: DAYPART_SET replaces the daypart, runs an admission pass and answers with the previous one;
above 3 it is refused. ROLL_CALL sets the roll call and answers 1 where it was set already.
The REPLY comes last (log 7). -/
def Obligations.DaypartAndRollCall : Prop :=
  ∀ (s : State) (f : StoreFrame),
    let a := s.fromGateway f
    (∀ d : Fin 4, Requested s f 4 [1] → s.saving = none → byteAt f.payload 0 = d.val →
      exec (.daypartSet f) s = .next
        ({ a with daypart := d }.admissionPass.replies f
          { result := .done, detail := s.daypart.val })) ∧
    (Requested s f 4 [1] → s.saving = none → 3 < byteAt f.payload 0 →
      exec (.daypartSet f) s = .next (a.replies f { result := .badField })) ∧
    (Requested s f 5 [0] → exec (.rollCall f) s = .next
      ({ a with down := { a.down with rollCall := true } }.replies f
        { result := .done, detail := if s.down.rollCall = true then 1 else 0 }))

/-! ### CONTROL requests: the Oven Table and service mode (01, 08) -/

/-- R14, R15: OVEN_COMMISSION writes the record, with settings given and clamped or defaults, of an entry that is
VACANT or ANNOUNCED, where no other entry expects the serial. An ANNOUNCED entry with that serial becomes ACTIVE,
its watch starts and its activity is reconciled; any other becomes COMMISSIONED. The refusals, in the order of
their checks, change nothing. The REPLY comes last (log 7) and its detail numbers the presence 3 or 4 (log 10). -/
def Obligations.OvenCommission : Prop :=
  (∀ (s : State) (f : StoreFrame) (i : OvenId), RequestedFor s f 10 [9, 12] i → s.saving = none →
     let p := f.payload
     let given := p.length = 12
     let w := byteAt p 9
     let c := byteAt p 10
     let d := byteAt p 11
     let scale := if c < 2 then 1 else if c < 4 then 2 else if c < 8 then 4 else 8
     let r : CommRecord :=
       { serial := BitVec.ofNat 48 (field p 1 6), modelClass := byteAt p 7,
         caps := Caps.ofByte (p.getD 8 0), window := if given then max 1 w else 30,
         scale := if given then scale else 1, decimation := if given then min 60 d else 10 }
     let clamped := decide (given ∧ (w = 0 ∨ scale ≠ c ∨ 60 < d))
     let a := (s.fromGateway f).modOven i fun e => { e with record := some r }
     1 ≤ r.modelClass → r.modelClass ≤ 15 →
     (s.oven i).presence = .vacant ∨ (s.oven i).presence = .announced →
     (∀ j q, j ≠ i → (s.oven j).record = some q → q.serial ≠ r.serial) →
     (∀ h, (s.oven i).presence = .announced → (s.oven i).announced = some h → h.serial = r.serial →
       exec (.ovenCommission f) s = .next
         ((((a.setPresence i .active .commission).setWatch i
           (some { counter := r.window, prescaler := r.scale, scale := r.scale,
                   frozen := (s.oven i).service || (s.oven i).occupancy == .applying })).reconcile i
           h).replies f { result := .done, detail := 4, clamped := clamped })) ∧
     ((s.oven i).presence = .vacant ∨ (s.oven i).announced = none ∨
         (∃ h, (s.oven i).announced = some h ∧ h.serial ≠ r.serial) →
       exec (.ovenCommission f) s = .next
         ((a.setPresence i .commissioned .commission).replies f
           { result := .done, detail := 3, clamped := clamped }))) ∧
  (∀ (s : State) (f : StoreFrame), Requested s f 10 [9, 12] → s.saving = none →
     let refused (a : Result) :=
       exec (.ovenCommission f) s = .next ((s.fromGateway f).replies f { result := a })
     let n := byteAt f.payload 0
     let m := byteAt f.payload 7
     (n = 0 ∨ 16 < n ∨ m = 0 ∨ 15 < m → refused .badField) ∧
     (∀ i, ovenOf n = some i → 1 ≤ m → m ≤ 15 →
       ((s.oven i).presence = .commissioned ∨ (s.oven i).presence = .active ∨
         (s.oven i).presence = .silent) → refused .state) ∧
     (∀ i j q, ovenOf n = some i → 1 ≤ m → m ≤ 15 →
       ((s.oven i).presence = .vacant ∨ (s.oven i).presence = .announced) →
       j ≠ i → (s.oven j).record = some q → q.serial = BitVec.ofNat 48 (field f.payload 1 6) →
       refused .duplicate))

/-- R17, R142: OVEN_RETIRE completes for every entry that is not VACANT and FREE. Its entry is left as a reset
leaves it, its watch, wait entry, slot and overflow bit gone, its transfer IDLE with no chunks queued, and every
call of it RESOLVED or freed. Its frames leave the four class queues and count as purged; one the Line
Transmitter is sending stays at the head and belongs to no context. Frames of other ovens keep their order, and
what an admission pass of the retirement adds are REQUESTs of waiting ovens, the only entries it may change. The
reports CLEAN_DROPPED, UPDATE_END and OVEN_STATE are built. Refused with BAD_FIELD, STATE and OCCUPIED. The
number law, kept by every step, says that every call stands in the creation order. The REPLY comes last (log 7). -/
def Obligations.OvenRetire : Prop :=
  (∀ (s : State) (f : StoreFrame), Requested s f 11 [1] → s.saving = none → NoOven f →
    exec (.ovenRetire f) s = .next ((s.fromGateway f).replies f { result := .badField })) ∧
  ∀ (s : State) (f : StoreFrame) (i : OvenId), RequestedFor s f 11 [1] i → s.saving = none →
    let a := s.fromGateway f
    let others (q : List DownFrame) := q.filter fun fr => fr.frame.oven != ovenByte i
    let inUse (q : Fin 4 → List DownFrame) :=
      (q 0).length + (q 1).length + (q 2).length + (q 3).length
    ((s.oven i).presence = .vacant →
      exec (.ovenRetire f) s = .next (a.replies f { result := .state })) ∧
    ((s.oven i).presence ≠ .vacant → (s.oven i).occupancy ≠ .free →
      exec (.ovenRetire f) s = .next (a.replies f { result := .occupied })) ∧
    ((s.oven i).presence ≠ .vacant → (s.oven i).occupancy = .free →
      ∃ (u : State) (kept more : Fin 4 → List DownFrame) (built : List KFrame),
        exec (.ovenRetire f) s = .next (u.replies f { result := .done }) ∧
        { u.oven i with locked := false } = OvenEntry.reset ∧
        (NumberLaw s → (u.oven i).locked = false) ∧ u.watch i = none ∧ u.slot i = SlotState.reset ∧
        u.update i = { s.update i with state := .idle, queued := 0 } ∧
        u.calls.overflow = s.calls.overflow.set i false ∧
        (∀ p, s.call p = none → u.call p = none) ∧
        (NumberLaw s → ∀ p c, s.call p = some c → c.oven = some i → u.call p = none ∨
          u.call p = some (if c.state = .resolved then c
            else { c with cleared := true, state := .resolved })) ∧
        (∀ p c, s.call p = some c → c.oven ≠ some i → u.call p = some c ∨
          (c.state = .opened ∧ u.call p = some { c with state := .reported }) ∨
          (c.state = .resolved ∧ u.call p = none)) ∧
        (∀ k : Fin 4, u.down.classes[k] = kept k ++ more k ∧
          ((∀ x, s.down.tx = some x → x.source ≠ .cls k) → kept k = others s.down.classes[k]) ∧
          (∀ x, s.down.tx = some x → x.source = .cls k →
            (s.down.classes[k] = [] → kept k = []) ∧
            ∀ h rest, s.down.classes[k] = h :: rest →
              kept k = (if h.frame.oven = ovenByte i then { h with live := false } else h) ::
                others rest) ∧
          (k ≠ 1 → more k = []) ∧
          ∀ fr ∈ more k, ∃ w ∈ s.cleaning.queue, w.oven ≠ i ∧ fr =
            { frame := { cls := 2, oven := ovenByte w.oven, tag := 1, seq := w.seq,
                         payload := be 1 w.programme.code }, live := true }) ∧
        u.down.purged = min 65535 (s.down.purged + (s.down.inUse - inUse kept)) ∧
        List.Sublist u.cleaning.queue s.cleaning.queue ∧
        (∀ w ∈ u.cleaning.queue, w.oven ≠ i) ∧ u.cleanRecord i = s.cleanRecord i ∧
        (∀ j, j ≠ i → u.watch j = s.watch j ∧ u.slot j = s.slot j ∧ u.update j = s.update j ∧
          (u.oven j = s.oven j ∧ u.cleanRecord j = s.cleanRecord j ∨
            (∃ w ∈ s.cleaning.queue, w.oven = j) ∧ (s.oven j).occupancy = .free ∧
              u.oven j = { s.oven j with occupancy := .cleaning } ∧
              (u.cleanRecord j).isOpen = true)) ∧
        u.up.frames = s.up.frames ++ built ∧ u.up.repliesLost = s.up.repliesLost ∧
        u.up.tx = s.up.tx ∧
        (∀ before w after, s.cleaning.queue = before ++ w :: after → w.oven = i →
          (∀ y ∈ before, y.oven ≠ i) → s.up.frames.length < 32 →
          reportCleanDropped w .retired s.lineTime ∈ built) ∧
        ((s.update i).state ≠ .idle → s.up.frames.length < 31 →
          reportUpdateEnd i (s.update i) .retired .noCause ⟨0, 0⟩ s.lineTime ∈ built) ∧
        (u.up.frames.length < 32 → built.getLast? = some
          (reportOvenState i (s.oven i).presence .vacant .retire
            (((s.oven i).record.map (·.serial)).getD 0) s.lineTime)) ∧
        { u with
            gateway := s.gateway, ovens := s.ovens, watches := s.watches, slots := s.slots,
            updates := s.updates, cleaning := s.cleaning, up := s.up,
            calls := { u.calls with
              slots := s.calls.slots, order := s.calls.order, reports := s.calls.reports,
              overflow := s.calls.overflow }
            down := { u.down with classes := s.down.classes, purged := s.down.purged } } =
          s ∧ u.gateway = f.src)

/-- R16: OVEN_SET writes the three settings, clamped, into the record and starts the decimation phase anew; the
watch keeps what it was loaded with. WATCH_RELOAD (R127) loads the watch from the record, frozen as it was, and
answers with the counter. Each is refused with STATE where there is no record, or no watch, and with BAD_FIELD
for an address outside 1 to 16. -/
def Obligations.OvenSetAndWatchReload : Prop :=
  ∀ (s : State) (f : StoreFrame) (i : OvenId),
    let a := s.fromGateway f
    (∀ r, RequestedFor s f 13 [4] i → s.saving = none → (s.oven i).record = some r →
      let w := byteAt f.payload 1
      let c := byteAt f.payload 2
      let d := byteAt f.payload 3
      let scale := if c < 2 then 1 else if c < 4 then 2 else if c < 8 then 4 else 8
      exec (.ovenSet f) s = .next
        ((a.modOven i fun e =>
          { e with
            record := some { r with window := max 1 w, scale := scale, decimation := min 60 d }
            counters := { e.counters with phase := 0 } }).replies f
          { result := .done, clamped := decide (w = 0 ∨ scale ≠ c ∨ 60 < d) })) ∧
    (RequestedFor s f 13 [4] i → s.saving = none → (s.oven i).record = none →
      exec (.ovenSet f) s = .next (a.replies f { result := .state })) ∧
    (∀ r w, RequestedFor s f 16 [1] i → (s.oven i).record = some r → s.watch i = some w →
      ((s.oven i).presence = .active ∨ (s.oven i).presence = .silent) →
      exec (.watchReload f) s = .next
        ((a.setWatch i (some { counter := r.window, prescaler := r.scale, scale := r.scale,
                               frozen := w.frozen })).replies f
          { result := .done, detail := r.window })) ∧
    (RequestedFor s f 16 [1] i → (s.oven i).presence ≠ .active → (s.oven i).presence ≠ .silent →
      exec (.watchReload f) s = .next (a.replies f { result := .state })) ∧
    (Requested s f 13 [4] → s.saving = none → NoOven f →
      exec (.ovenSet f) s = .next (a.replies f { result := .badField })) ∧
    (Requested s f 16 [1] → NoOven f →
      exec (.watchReload f) s = .next (a.replies f { result := .badField }))

/-- R131 to R134, R130: SERVICE_ENTER sets the flag of a commissioned, FREE oven and freezes its watch;
SERVICE_LEAVE clears it, reloads the watch, which thaws unless occupancy is APPLYING, and runs an admission
pass. The refusals, BAD_FIELD for an address outside 1 to 16 among them, change nothing. The REPLY comes last
(log 7). -/
def Obligations.ServiceMode : Prop :=
  ∀ (s : State) (f : StoreFrame) (i : OvenId),
    let a := s.fromGateway f
    let enters (x : Result) := exec (.serviceEnter f) s = .next (a.replies f { result := x })
    (RequestedFor s f 14 [1] i → (s.oven i).record = none → enters .unknownOven) ∧
    (RequestedFor s f 14 [1] i → (s.oven i).record.isSome = true → (s.oven i).occupancy ≠ .free →
      enters .occupied) ∧
    (RequestedFor s f 14 [1] i → (s.oven i).record.isSome = true → (s.oven i).occupancy = .free →
      (s.oven i).service = true → enters .state) ∧
    (RequestedFor s f 14 [1] i → (s.oven i).record.isSome = true → (s.oven i).occupancy = .free →
      (s.oven i).service = false → exec (.serviceEnter f) s = .next
        (((a.modOven i fun e => { e with service := true }).setWatch i
          ((s.watch i).map fun w => { w with frozen := true })).replies f { result := .done })) ∧
    (RequestedFor s f 15 [1] i → (s.oven i).service = false →
      exec (.serviceLeave f) s = .next (a.replies f { result := .state })) ∧
    (RequestedFor s f 15 [1] i → (s.oven i).service = true → s.watch i = none →
      exec (.serviceLeave f) s = .next
        ((a.modOven i fun e => { e with service := false }).admissionPass.replies f
          { result := .done })) ∧
    (∀ r w, RequestedFor s f 15 [1] i → (s.oven i).service = true → s.watch i = some w →
      (s.oven i).record = some r → exec (.serviceLeave f) s = .next
        (((a.modOven i fun e => { e with service := false }).setWatch i
          (some { counter := r.window, prescaler := r.scale, scale := r.scale,
                  frozen := (s.oven i).occupancy == .applying })).admissionPass.replies f
          { result := .done })) ∧
    (Requested s f 14 [1] → NoOven f → enters .badField) ∧
    (Requested s f 15 [1] → NoOven f →
      exec (.serviceLeave f) s = .next (a.replies f { result := .badField }))

/-! ### CONTROL requests: recipes and step records (02) -/

/-- R26, R27: MAP_STAGE claims its run for the staged version: the run's records become STAGED and keep
contents and written flag, records of the old staged run outside it become FREE and unwritten, and nothing
else changes. The lowest record that belongs to another version refuses it with IN_USE; a recipe number outside 1
to 512, or a version, count or run out of range, with BAD_FIELD. -/
def Obligations.MapStage : Prop :=
  (∀ (s : State) (f : StoreFrame), RequestedTable s f 20 [6] → NoRecipe f →
    exec (.mapStage f) s = .next ((s.fromGateway f).replies f { result := .badField })) ∧
  ∀ (s : State) (f : StoreFrame) (r : Fin 512), RequestedTable s f 20 [6] →
    recipeOf (field f.payload 0 2) = some r →
    let a := s.fromGateway f
    let run : Run :=
      { version := byteAt f.payload 2, first := field f.payload 3 2, count := byteAt f.payload 5 }
    let inside (q : Run) (k : Nat) := q.first ≤ k ∧ k < q.first + q.count
    let fits := 1 ≤ run.version ∧ 1 ≤ run.count ∧ run.count ≤ 24 ∧ run.first + run.count ≤ 768
    let other := (∀ v, (s.recipe r).live = some v → v.run.version ≠ run.version) ∧
      ∀ v, (s.recipe r).draining = some v → v.run.version ≠ run.version
    let open' (k : Nat) := ∀ o, (s.stepRec k).owner = some o → o.recipe = r.val + 1 ∧ o.role = .staged
    (¬ (fits ∧ other) → exec (.mapStage f) s = .next (a.replies f { result := .badField })) ∧
    (∀ k, fits → other → inside run k → ¬ open' k → (∀ j, inside run j → j < k → open' j) →
      exec (.mapStage f) s = .next (a.replies f { result := .inUse, detail := k })) ∧
    (fits → other → (∀ k, inside run k → open' k) →
      ∃ u : State, exec (.mapStage f) s = .next (u.replies f { result := .done }) ∧
        u.recipe r = { s.recipe r with staged := some run } ∧
        (∀ q, q ≠ r → u.recipe q = s.recipe q) ∧
        (∀ k, inside run k → u.stepRec k =
          { s.stepRec k with
              owner := some { recipe := r.val + 1, version := run.version, role := .staged } }) ∧
        (∀ old k, (s.recipe r).staged = some old → k < 768 → inside old k → ¬ inside run k →
          u.stepRec k = { s.stepRec k with owner := none, written := false }) ∧
        (∀ k, k < 768 → ¬ inside run k → (∀ old, (s.recipe r).staged = some old → ¬ inside old k) →
          u.stepRec k = s.stepRec k) ∧
        u.gateway = f.src ∧
        { u with gateway := s.gateway, recipes := s.recipes, steps := s.steps } = s)

/-- R28: DISCARD_STAGED. Every record of the staged run becomes FREE and unwritten, the staged version is
removed, the reply is DONE; live version, draining version and masks are kept. BUSY during a SAVE, CLEARING
during a TABLE_CLEAR, BAD_FIELD for a length or recipe number, STATE without a staged version. -/
def Obligations.DiscardStaged : Prop :=
  ∀ (s : State) (f : StoreFrame), s.phase = .ready → s.softReset = none → f.oven = 0 → f.tag = 26 →
    f.len.toNat = f.payload.length → f.payload.length ≤ 480 →
    let a := s.fromGateway f
    let refused (x : Reply) := exec (.discardStaged f) s = .next (a.replies f x)
    let free := s.saving = none ∧ s.clearing = none
    (s.saving.isSome = true → refused { result := .busy, detail := 6 }) ∧
    (s.saving = none → s.clearing.isSome = true → refused { result := .clearing }) ∧
    (free → (f.payload.length ≠ 2 ∨ recipeOf (field f.payload 0 2) = none) →
      refused { result := .badField }) ∧
    (∀ r, free → f.payload.length = 2 → recipeOf (field f.payload 0 2) = some r →
      (s.recipe r).staged = none → refused { result := .state }) ∧
    (∀ r run, free → f.payload.length = 2 → recipeOf (field f.payload 0 2) = some r →
      (s.recipe r).staged = some run →
      ∃ u : State, exec (.discardStaged f) s = .next (u.replies f { result := .done }) ∧
        u.recipe r = { s.recipe r with staged := none } ∧
        (u.recipe r).isDefined = (s.recipe r).live.isSome ∧
        (∀ q, q ≠ r → u.recipe q = s.recipe q) ∧
        (∀ k, k < 768 → u.stepRec k =
          if run.first ≤ k ∧ k < run.first + run.count then
            { s.stepRec k with owner := none, written := false }
          else s.stepRec k) ∧
        u.gateway = f.src ∧
        { u with gateway := s.gateway, recipes := s.recipes, steps := s.steps } = s)

/-- R29, R96, R141, R159: MAP_SET replaces both masks of its recipe; the writes of the class map and the severity
map change the one entry they name and move the cursor past it. A value out of range is refused with BAD_FIELD,
and nothing else changes. -/
def Obligations.MasksAndMaps : Prop :=
  (∀ (s : State) (f : StoreFrame), RequestedTable s f 21 [7] → NoRecipe f →
    exec (.mapSet f) s = .next ((s.fromGateway f).replies f { result := .badField })) ∧
  (∀ (s : State) (f : StoreFrame) (r : Fin 512), RequestedTable s f 21 [7] →
     recipeOf (field f.payload 0 2) = some r →
     let a := s.fromGateway f
     let d := byteAt f.payload 2
     let m := field f.payload 3 4
     (d < 16 → m % 2 = 0 → m < 131072 → exec (.mapSet f) s = .next
       ((a.modRecipe r fun e =>
         { e with dayparts := BitVec.ofNat 4 d, permit := BitVec.ofNat 16 (m / 2) }).replies f
         { result := .done })) ∧
     (16 ≤ d ∨ m % 2 = 1 ∨ 131072 ≤ m →
       exec (.mapSet f) s = .next (a.replies f { result := .badField }))) ∧
  (∀ (s : State) (f : StoreFrame), s.saving = none →
     let a := s.fromGateway f
     let x := byteAt f.payload 0
     let y := byteAt f.payload 1
     (∀ (k : Fin 64) (c : Fin 4), Requested s f 40 [2] → x = k.val → y = c.val →
       exec (.classMapWrite f) s = .next
         ({ a with classMap := s.classMap.set k c,
                   cursor := some { table := .classMap, index := k.val + 1 } }.replies f
           { result := .done })) ∧
     (Requested s f 40 [2] → (63 < x ∨ 3 < y) →
       exec (.classMapWrite f) s = .next (a.replies f { result := .badField })) ∧
     (∀ (k : Fin 199) (v : Severity), Requested s f 42 [2] → x = k.val + 1 → y = v.code →
       exec (.severityMapWrite f) s = .next
         ({ a with severity := s.severity.set k v,
                   cursor := some { table := .severityMap, index := k.val + 2 } }.replies f
           { result := .done })) ∧
     (Requested s f 42 [2] → (x = 0 ∨ 199 < x ∨ 3 < y) →
       exec (.severityMapWrite f) s = .next (a.replies f { result := .badField })))

/-- R30, R31, R32: a complete staged version becomes live with its needs and no users and the reply names it; the
old live version drains with its users, or its records become FREE; so does the live version of a WITHDRAW, which
answers 1 or 0. Refused for a recipe number outside 1 to 512, without a staged or a live version, with DRAINING,
and with INCOMPLETE and the lowest bad record. -/
def Obligations.ReleaseAndWithdraw : Prop :=
  (∀ (s : State) (f : StoreFrame), NoRecipe f →
     let bad := State.replies (s.fromGateway f) f { result := .badField }
     (RequestedTable s f 24 [2] → exec (.release f) s = .next bad) ∧
     (RequestedTable s f 25 [2] → exec (.withdraw f) s = .next bad)) ∧
  (∀ (s : State) (f : StoreFrame) (r : Fin 512), RequestedTable s f 24 [2] →
     recipeOf (field f.payload 0 2) = some r →
     let refused (x : Reply) := exec (.release f) s = .next ((s.fromGateway f).replies f x)
     let inside (q : Run) (k : Nat) := q.first ≤ k ∧ k < q.first + q.count
     let blocked := (s.recipe r).draining.isSome = true ∧
       ∃ v, (s.recipe r).live = some v ∧ 0 < v.users
     let bad (k : Nat) := (s.stepRec k).written = false ∨
       (s.stepRec k).params.endKind = .core ∧ ((s.stepRec k).params.coreTarget = none ∨
         (s.stepRec k).params.duration ≤ (s.stepRec k).params.hold)
     ((s.recipe r).staged = none → refused { result := .state }) ∧
     ((s.recipe r).staged.isSome = true → blocked → refused { result := .draining }) ∧
     (∀ run k, (s.recipe r).staged = some run → ¬ blocked → inside run k → bad k →
       (∀ j, inside run j → j < k → ¬ bad j) → refused { result := .incomplete, detail := k }) ∧
     (∀ run, (s.recipe r).staged = some run → ¬ blocked → (∀ k, inside run k → ¬ bad k) →
       ∃ u : State,
         exec (.release f) s = .next (u.replies f { result := .done, detail := run.version }) ∧
         (∃ needs : Needs,
           (needs.steam = true ↔ ∃ k, inside run k ∧
             ((s.stepRec k).params.mode = .steam ∨ (s.stepRec k).params.mode = .combi)) ∧
           (needs.probe = true ↔ ∃ k, inside run k ∧ (s.stepRec k).params.endKind = .core) ∧
           (u.recipe r).live = some { run := run, needs := needs, users := 0 }) ∧
         (u.recipe r).staged = none ∧
         (∀ v, (s.recipe r).live = some v → 0 < v.users →
           (u.recipe r).draining = some { run := v.run, users := v.users }) ∧
         ((∀ v, (s.recipe r).live = some v → v.users = 0) →
           (u.recipe r).draining = (s.recipe r).draining) ∧
         (u.recipe r).dayparts = (s.recipe r).dayparts ∧ (u.recipe r).permit = (s.recipe r).permit ∧
         (∀ q, q ≠ r → u.recipe q = s.recipe q) ∧
         (∀ k, k < 768 →
           let old :=
             match (s.recipe r).live with
             | none => s.stepRec k
             | some v =>
               if inside v.run k then
                 if 0 < v.users then (s.stepRec k).asRole .draining else (s.stepRec k).freed
               else s.stepRec k
           u.stepRec k = if inside run k then old.asRole .live else old) ∧
         u.gateway = f.src ∧
         { u with gateway := s.gateway, recipes := s.recipes, steps := s.steps } = s)) ∧
  (∀ (s : State) (f : StoreFrame) (r : Fin 512), RequestedTable s f 25 [2] →
     recipeOf (field f.payload 0 2) = some r →
     let refused (x : Reply) := exec (.withdraw f) s = .next ((s.fromGateway f).replies f x)
     ((s.recipe r).live = none → refused { result := .state }) ∧
     (∀ v, (s.recipe r).live = some v → 0 < v.users → (s.recipe r).draining.isSome = true →
       refused { result := .draining }) ∧
     (∀ v, (s.recipe r).live = some v → (v.users = 0 ∨ (s.recipe r).draining = none) →
       ∃ u : State,
         exec (.withdraw f) s = .next
           (u.replies f { result := .done, detail := if 0 < v.users then 1 else 0 }) ∧
         u.recipe r =
           { s.recipe r with
               live := none,
               draining := if 0 < v.users then some { run := v.run, users := v.users }
                 else (s.recipe r).draining } ∧
         (∀ q, q ≠ r → u.recipe q = s.recipe q) ∧
         (∀ k, k < 768 → u.stepRec k =
           if v.run.first ≤ k ∧ k < v.run.first + v.run.count then
             if 0 < v.users then (s.stepRec k).asRole .draining
             else { s.stepRec k with owner := none, written := false }
           else s.stepRec k) ∧
         u.gateway = f.src ∧
         { u with gateway := s.gateway, recipes := s.recipes, steps := s.steps } = s))

/-- R22, R23, R24: STEP_WRITE, and STEP_WRITE_NEXT at the cursor, store the contents clamped to their ranges,
set the written flag, keep the owner, move the cursor past the record and answer CLAMPED where a value was.
A TIME step stores no core target and no hold time, which is not clamping. A record in use stays. An index above
767 and an unknown mode, end kind or overrun action are refused with BAD_FIELD, a STEP_WRITE_NEXT without a Step
Store cursor with STATE. -/
def Obligations.StepWrites : Prop :=
  (∀ (s : State) (f : StoreFrame),
    let p := f.payload
    let unknown (off : Nat) := byteAt p off ∉ [1, 2, 3] ∨ byteAt p (off + 5) ∉ [1, 2] ∨
      byteAt p (off + 18) ∉ [1, 2]
    let refused (c : Instr) (x : Result) :=
      exec c s = .next ((s.fromGateway f).replies f { result := x })
    (RequestedTable s f 27 [21] → (768 ≤ field p 0 2 ∨ unknown 2) → refused (.stepWrite f) .badField) ∧
    (∀ k, RequestedTable s f 28 [19] → s.cursor = some { table := .stepStore, index := k } → k < 768 →
      unknown 0 → refused (.stepWriteNext f) .badField) ∧
    (RequestedTable s f 28 [19] → (∀ x, s.cursor = some x → x.table ≠ .stepStore ∨ 767 < x.index) →
      refused (.stepWriteNext f) .state)) ∧
  ∀ (s : State) (f : StoreFrame) (c : Instr) (k off : Nat) (m : Mode) (e : EndKind) (o : Overrun),
    (c = .stepWrite f ∧ RequestedTable s f 27 [21] ∧ k = field f.payload 0 2 ∧ off = 2 ∨
      c = .stepWriteNext f ∧ RequestedTable s f 28 [19] ∧ off = 0 ∧
        s.cursor = some { table := .stepStore, index := k }) →
    k < 768 →
    Mode.ofCode (byteAt f.payload off) = some m → EndKind.ofCode (byteAt f.payload (off + 5)) = some e →
    Overrun.ofCode (byteAt f.payload (off + 18)) = some o →
    let p := f.payload
    let cavity := signedField p (off + 1)
    let core := signedField p (off + 8)
    let hold := field p (off + 10) 2
    let humidity := byteAt p (off + 3)
    let fan := byteAt p (off + 4)
    let duration := field p (off + 6) 2
    let low := field p (off + 12) 2
    let high := field p (off + 14) 2
    let params : StepParams :=
      { mode := m, cavity := max 300 (min 3000 cavity), humidity := min 100 humidity,
        fan := max 1 (min 5 fan), endKind := e, duration := max 1 (min 43200 duration),
        coreTarget := if e = .core ∧ core ≠ -32768 then some (max 200 (min 990 core)) else none,
        hold := if e = .core then min 3600 hold else 0, tolLow := min 255 low,
        tolHigh := min 255 high, budget := field p (off + 16) 2, overrun := o }
    let clamped := decide (cavity < 300 ∨ 3000 < cavity ∨ 100 < humidity ∨ fan < 1 ∨ 5 < fan ∨
      duration < 1 ∨ 43200 < duration ∨
      (e = .core ∧ core ≠ -32768 ∧ (core < 200 ∨ 990 < core)) ∨ (e = .core ∧ 3600 < hold) ∨
      255 < low ∨ 255 < high)
    (∀ w, (s.stepRec k).owner = some w → w.role ≠ .staged →
      exec c s = .next ((s.fromGateway f).replies f { result := .inUse })) ∧
    ((∀ w, (s.stepRec k).owner = some w → w.role = .staged) →
      ∃ u : State, exec c s = .next (u.replies f { result := .done, clamped := clamped }) ∧
        u.stepRec k = { params := params, written := true, owner := (s.stepRec k).owner } ∧
        (∀ j, j < 768 → j ≠ k → u.stepRec j = s.stepRec j) ∧
        u.cursor = some { table := .stepStore, index := k + 1 } ∧ u.gateway = f.src ∧
        { u with gateway := s.gateway, steps := s.steps, cursor := s.cursor } = s)

/-- R24, R35, R96, R141, R159: the six reading requests of the tables answer with the entry and move the cursor
past it; the next forms take the entry the cursor holds and are refused with STATE where it holds none of that
table, the others with BAD_FIELD for a number out of range. The data carry the fields of a step record with its
written flag and owner, and of a recipe's entry with its three versions and two masks, in the order of the rules.
How an absent version, a FREE owner and the needs of a version are sent is the model's reading (log 10). -/
def Obligations.TableReads : Prop :=
  (let flag (b : Bool) : Nat := if b then 1 else 0
   let signed (v : Int) : Nat := (BitVec.ofInt 16 v).toNat
   (∀ r : StepRec, stepData r = spells
     ([(1, r.params.mode.code), (2, signed r.params.cavity), (1, r.params.humidity), (1, r.params.fan),
       (1, r.params.endKind.code), (2, r.params.duration), (2, signed (r.params.coreTarget.getD 0)),
       (2, r.params.hold), (1, r.params.tolLow), (1, r.params.tolHigh), (2, r.params.budget),
       (1, r.params.overrun.code), (1, flag r.written)] ++
       (r.owner.map fun o => [(2, o.recipe), (1, o.version), (1, o.role.code)]).getD
         [(2, 0), (1, 0), (1, 0)])) ∧
   (∀ e : RecipeEntry, recipeData e = spells
     ([(1, if e.live = none ∧ e.staged = none then 1 else 2)] ++
       ((e.live.map fun v => [(1, v.run.version), (2, v.run.first), (1, v.run.count),
         (1, flag v.needs.steam + 2 * flag v.needs.probe), (1, v.users)]).getD
           [(1, 0), (2, 0), (1, 0), (1, 0), (1, 0)]) ++
       ((e.staged.map fun v => [(1, v.version), (2, v.first), (1, v.count)]).getD
         [(1, 0), (2, 0), (1, 0)]) ++
       ((e.draining.map fun v => [(1, v.run.version), (2, v.run.first), (1, v.run.count),
         (1, v.users)]).getD [(1, 0), (2, 0), (1, 0), (1, 0)]) ++
       [(1, e.dayparts.toNat), (4, 2 * e.permit.toNat)])) ∧
   [Mode.convection, .steam, .combi].map (·.code) = [1, 2, 3] ∧
   [EndKind.time, .core].map (·.code) = [1, 2] ∧ [Overrun.note, .abort].map (·.code) = [1, 2] ∧
   [Role.staged, .live, .draining].map (·.code) = [1, 2, 3]) ∧
  ∀ (s : State) (f : StoreFrame),
    let a := s.fromGateway f
    let refused (c : Instr) (x : Result) := exec c s = .next (a.replies f { result := x })
    let reads (c : Instr) (t : TableId) (k : Nat) (d : List Byte) := exec c s = .next
      ({ a with cursor := some { table := t, index := k } }.replies f { result := .done, data := d })
    (∀ r, Requested s f 22 [2] → s.clearing = none → recipeOf (field f.payload 0 2) = some r →
      reads (.mapRead f) .recipeMap (r.val + 2) (recipeData (s.recipe r))) ∧
    (∀ r, Requested s f 23 [0] → s.clearing = none → s.cursor = some { table := .recipeMap, index := r.val + 1 } →
      reads (.mapReadNext f) .recipeMap (r.val + 2) (recipeData (s.recipe r))) ∧
    (Requested s f 23 [0] → s.clearing = none → (∀ x, s.cursor = some x → x.table ≠ .recipeMap ∨ 512 < x.index) →
      refused (.mapReadNext f) .state) ∧
    (∀ k, Requested s f 29 [2] → s.clearing = none → field f.payload 0 2 = k → k < 768 →
      reads (.stepRead f) .stepStore (k + 1) (stepData (s.stepRec k))) ∧
    (Requested s f 29 [2] → s.clearing = none → 768 ≤ field f.payload 0 2 → refused (.stepRead f) .badField) ∧
    (∀ k, Requested s f 30 [0] → s.clearing = none → s.cursor = some { table := .stepStore, index := k } → k < 768 →
      reads (.stepReadNext f) .stepStore (k + 1) (stepData (s.stepRec k))) ∧
    (Requested s f 30 [0] → s.clearing = none → (∀ x, s.cursor = some x → x.table ≠ .stepStore ∨ 767 < x.index) →
      refused (.stepReadNext f) .state) ∧
    (∀ k : Fin 64, Requested s f 41 [1] → byteAt f.payload 0 = k.val →
      reads (.classMapRead f) .classMap (k.val + 1) (be 1 s.classMap[k].val)) ∧
    (∀ k : Fin 199, Requested s f 43 [1] → byteAt f.payload 0 = k.val + 1 →
      reads (.severityMapRead f) .severityMap (k.val + 2) (be 1 s.severity[k].code)) ∧
    (Requested s f 22 [2] → s.clearing = none → NoRecipe f → refused (.mapRead f) .badField) ∧
    (Requested s f 41 [1] → 63 < byteAt f.payload 0 → refused (.classMapRead f) .badField) ∧
    (Requested s f 43 [1] → (byteAt f.payload 0 = 0 ∨ 199 < byteAt f.payload 0) →
      refused (.severityMapRead f) .badField)

/-- R36, R38: TABLE_CLEAR waits for its completion without a REPLY, and is refused with BUSY while a cook is
not IDLE; at completion both tables hold their reset values and the REPLY is offered. That this BUSY names no
hold-off is the model's reading (log 19). -/
def Obligations.TableClear : Prop :=
  (∀ (s : State) (f : StoreFrame), RequestedTable s f 31 [0] →
    ((∀ i, (s.cook i).state = .idle) → exec (.tableClear f) s = .next
      { s.fromGateway f with
          clearing := some { cls := 5, oven := 0, tag := f.tag, seq := f.seq } }) ∧
    (∀ i, (s.cook i).state ≠ .idle → exec (.tableClear f) s = .next
      ((s.fromGateway f).replies f { result := .busy }))) ∧
  ∀ (s : State) (r : ReplyTo), s.clearing = some r →
    ∃ u : State, exec .tableClearCompletion s = .next (u.offerReply (replyFrame r { result := .done })) ∧
      u.clearing = none ∧
      (∀ n, u.recipe n = { live := none, staged := none, draining := none, dayparts := 0xF#4,
                           permit := 0xFFFF#16 }) ∧
      (∀ k, u.stepRec k = StepRec.blank) ∧
      { u with clearing := s.clearing, recipes := s.recipes, steps := s.steps } = s

/-! ### The Call Table (06) -/

/-- R94, R97, R100, R101, R105, R106, R122: an occurrence merges into the unresolved call of its oven and code;
without one it makes a call in the lowest free position while there is room; a LOCKOUT one displaces the newest
lesser call, or sets the overflow bit. A LOCKOUT one that does not merge locks its oven: where it was not locked
the flag is set, a cook aborts with ABORTED_LOCKOUT, a wait entry is dropped as LOCKED, and a transfer in OPEN,
RECEIVING or SEALED fails with cause LOCKED and its report. A new call takes the next number that no entry
carries. -/
def Obligations.Occurrences : Prop :=
  (∀ s : State, s.lockSubject none = s ∧ ∀ i : OvenId,
    let a := s.modOven i fun e => { e with locked := true }
    let b := if (s.cook i).state = .idle then a else (a.cookGoIdle i .abortedLockout).putStop i
    let c := b.dropWait i .locked
    let transfer := (s.update i).state = .opened ∨ (s.update i).state = .receiving ∨
      (s.update i).state = .sealed
    ((s.oven i).locked = true → s.lockSubject (some i) = s) ∧
    ((s.oven i).locked = false → transfer → s.lockSubject (some i) =
      (c.modUpdate i fun u => { u with state := .failed, cause := .locked }).offerReport
        (reportUpdateEnd i (s.update i) .locked .locked ⟨0, 0⟩ s.lineTime)) ∧
    ((s.oven i).locked = false → ¬ transfer → s.lockSubject (some i) = c)) ∧
  (∀ (s : State) (k n : Nat),
    ((∀ p c, s.call p = some c → c.number ≠ n) → s.freeNumber k n = n) ∧
    ∀ p c, s.call p = some c → c.number = n →
      s.freeNumber (k + 1) n = s.freeNumber k (if n = 65535 then 1 else n + 1)) ∧
  ∀ (s : State) (sub : Option OvenId) (code : Nat) (sev : Severity) (kind : CallKind),
    let fresh := ∀ p c, s.call p = some c → c.oven = sub → c.code = code → c.state = .resolved
    let lost (u : State) : State :=
      { u with calls := { u.calls with lost := min 65535 (u.calls.lost + 1) } }
    let makes (u : State) (p : Fin 32) : State :=
      let n := u.freeNumber 32 u.calls.next
      let v := u.setCall p (some
        { number := n, oven := sub, code := code, severity := sev, kind := kind, state := .opened,
          cleared := kind == .event, occurrences := 1, firstSeen := s.lineTime,
          lastSeen := s.lineTime })
      State.buildService
        { v with calls :=
            { v.calls with order := u.calls.order ++ [p], reports := u.calls.reports ++ [p],
                           next := if n = 65535 then 1 else n + 1 } }
    let lowest (p : Fin 32) := s.call p = none ∧ ∀ q, q < p → (s.call q).isSome = true
    (∀ p c, MergingLaw s → s.call p = some c → c.state ≠ .resolved → c.oven = sub → c.code = code →
      s.raise sub code sev kind = s.setCall p (some
        { c with occurrences := min 255 (c.occurrences + 1), lastSeen := s.lineTime,
                 cleared := if c.kind = .condition then false else c.cleared })) ∧
    (∀ p, fresh → sev ≠ .lockout → s.callsInUse < 28 → lowest p →
      s.raise sub code sev kind = makes s p) ∧
    (fresh → sev ≠ .lockout → 28 ≤ s.callsInUse → s.raise sub code sev kind = lost s) ∧
    (∀ p, fresh → sev = .lockout → lowest p →
      s.raise sub code sev kind = (makes s p).lockSubject sub) ∧
    (∀ p c before after, fresh → sev = .lockout → (∀ q, (s.call q).isSome = true) →
      s.calls.order = before ++ p :: after → s.call p = some c → c.severity ≠ .lockout →
      (∀ q ∈ after, ∀ d, s.call q = some d → d.severity = .lockout) →
      s.raise sub code sev kind = (makes (lost (s.freeCall p)) p).lockSubject sub) ∧
    (∀ i, fresh → sev = .lockout → sub = some i →
      (∀ q, ∃ d, s.call q = some d ∧ d.severity = .lockout) →
      s.raise sub code sev kind =
        (lost { s with calls :=
          { s.calls with overflow := s.calls.overflow.set i true } }).lockSubject sub)

/-- R102: a SERVICE frame carries the ten fields of its call with the state the entry takes. Frames are built until
the Upward Queue is full or no call waits, the most severe waiting call first and among those the one that has
waited longest; an OPEN call becomes REPORTED and a RESOLVED one is freed as its frame joins the queue. Building
goes on from the state each frame leaves, and changes nothing without room or without a waiting call. What is
reported leaves the report list, and what is freed the creation order too (R104). That the frame's oven address is
0 is the model's reading (log 9). -/
def Obligations.ServiceFrames : Prop :=
  (∀ (c : Call) (x : CallState), serviceBytes c x = spells
    [(2, c.number), (1, (c.oven.map fun i => i.val + 1).getD 0), (1, c.code), (1, c.severity.code),
      (1, c.kind.code), (1, x.code), (1, if c.cleared then 1 else 0), (1, c.occurrences),
      (4, c.firstSeen.toNat), (4, c.lastSeen.toNat)]) ∧
  [Severity.lockout, .major, .minor, .info].map (·.code) = [0, 1, 2, 3] ∧
  [CallKind.condition, .event].map (·.code) = [1, 2] ∧
  [CallState.opened, .reported, .acknowledged, .resolved].map (·.code) = [1, 2, 3, 4] ∧
  (∀ (s : State) (p : Fin 32),
    s.leaveReports p =
      { s with calls := { s.calls with reports := s.calls.reports.filter fun q => q != p } } ∧
    s.freeCall p = { s with calls :=
      { s.calls with
          slots := s.calls.slots.set p none, order := s.calls.order.filter fun q => q != p,
          reports := s.calls.reports.filter fun q => q != p } }) ∧
  ∀ s : State,
    ((∀ p ∈ s.calls.reports, (s.call p).isSome = true) →
      32 ≤ s.buildService.up.frames.length ∨ s.buildService.calls.reports = []) ∧
    (∀ p, s.up.frames.length < 32 → s.nextReport = some p →
      s.buildService = (s.reportCall p).buildService) ∧
    (32 ≤ s.up.frames.length ∨ s.nextReport = none → s.buildService = s) ∧
    (s.nextReport = none ↔ ∀ p ∈ s.calls.reports, s.call p = none) ∧
    (∀ p, s.nextReport = some p → ∃ c before after,
      s.calls.reports = before ++ p :: after ∧ s.call p = some c ∧
      (∀ q ∈ before, ∀ d, s.call q = some d → c.severity.code < d.severity.code) ∧
      ∀ q ∈ after, ∀ d, s.call q = some d → c.severity.code ≤ d.severity.code) ∧
    (∀ p c, s.call p = some c → c.state = .opened →
      s.reportCall p =
        ((s.setCall p (some { c with state := .reported })).leaveReports p).pushUp
          { cls := 11, oven := 0, tag := 0, seq := 0, payload := serviceBytes c .reported }) ∧
    (∀ p c, s.call p = some c → c.state = .resolved →
      s.reportCall p = (s.freeCall p).pushUp
        { cls := 11, oven := 0, tag := 0, seq := 0, payload := serviceBytes c .resolved })

/-- R95, R99, R101, R103 to R105: a clearing event sets the flag of the unresolved entry of its oven and code, and
an ACKNOWLEDGED one becomes RESOLVED and joins the report list; a flag that is set, or no such entry, changes
nothing. Where a LOCKOUT call has become RESOLVED, its oven's lock clears with an admission pass unless a lockout
is still held. CALL_ACK by the state of the entry that carries the number: an OPEN or REPORTED one becomes
ACKNOWLEDGED, or RESOLVED where it is cleared at source; the reply gives the state. CALL_CLEAR_OVERFLOW clears the
oven's bit, refused with BAD_FIELD for an address outside 1 to 16; where no unresolved LOCKOUT call is left for a
locked oven the lock clears and an admission pass runs. The number law, kept by every step, makes the entry unique.
The REPLY comes last (log 7); how a state is numbered in its detail is log 10. -/
def Obligations.CallAckAndClearOverflow : Prop :=
  (∀ (s : State) (sub : Option OvenId) (code : Nat),
     ((∀ p c, s.call p = some c → c.oven = sub → c.code = code → c.state = .resolved) →
       s.clearAtSource sub code = s) ∧
     ∀ p c, MergingLaw s → s.call p = some c → c.state ≠ .resolved → c.oven = sub → c.code = code →
       (c.cleared = true → s.clearAtSource sub code = s) ∧
       (c.cleared = false → c.state ≠ .acknowledged →
         s.clearAtSource sub code = s.setCall p (some { c with cleared := true })) ∧
       (c.cleared = false → c.state = .acknowledged →
         let t := s.setCall p (some { c with cleared := true, state := .resolved })
         s.clearAtSource sub code = (State.buildService
           { t with calls := { t.calls with reports := t.calls.reports ++ [p] } }).relockFor c)) ∧
  (∀ (s : State) (c : Call),
     (c.severity ≠ .lockout ∨ c.oven = none → s.relockFor c = s) ∧
     ∀ i, c.severity = .lockout → c.oven = some i →
       (s.lockHeld i ∨ (s.oven i).locked = false → s.relockFor c = s) ∧
       (¬ s.lockHeld i → (s.oven i).locked = true → s.relockFor c =
         (s.modOven i fun e => { e with locked := false }).admissionPass)) ∧
  (∀ (s : State) (f : StoreFrame), Requested s f 46 [1] → NoOven f →
    exec (.callClearOverflow f) s = .next ((s.fromGateway f).replies f { result := .badField })) ∧
  (∀ (s : State) (f : StoreFrame), Requested s f 45 [2] →
     let a := s.fromGateway f
     let n := field f.payload 0 2
     (n = 0 → exec (.callAck f) s = .next (a.replies f { result := .badField })) ∧
     (n ≠ 0 → (∀ p c, s.call p = some c → c.number ≠ n) →
       exec (.callAck f) s = .next (a.replies f { result := .state })) ∧
     (∀ p c, n ≠ 0 → NumberLaw s → s.call p = some c → c.number = n →
       (c.state = .acknowledged → exec (.callAck f) s =
         .next (a.replies f { result := .done, detail := 3 })) ∧
       (c.state = .resolved → exec (.callAck f) s =
         .next (a.replies f { result := .done, detail := 4 })) ∧
       (c.state = .opened ∨ c.state = .reported → c.cleared = false → exec (.callAck f) s = .next
         (((a.leaveReports p).setCall p (some { c with state := .acknowledged })).replies f
           { result := .done, detail := 3 })) ∧
       (c.state = .opened ∨ c.state = .reported → c.cleared = true → exec (.callAck f) s = .next
         (((State.buildService
           (((a.leaveReports p).setCall p (some { c with state := .resolved })).joinReports p)).relockFor
             c).replies f { result := .done, detail := 4 })))) ∧
  (∀ (s : State) (f : StoreFrame) (i : OvenId), RequestedFor s f 46 [1] i →
     let a := s.fromGateway f
     let b : State := { a with calls := { s.calls with overflow := s.calls.overflow.set i false } }
     let held := ∃ p c, s.call p = some c ∧ c.state ≠ .resolved ∧ c.oven = some i ∧ c.severity = .lockout
     (s.calls.overflow[i] = false → exec (.callClearOverflow f) s = .next
       (a.replies f { result := .state })) ∧
     (s.calls.overflow[i] = true → (held ∨ (s.oven i).locked = false) →
       exec (.callClearOverflow f) s = .next (b.replies f { result := .done })) ∧
     (s.calls.overflow[i] = true → ¬ held → (s.oven i).locked = true →
       exec (.callClearOverflow f) s = .next
         ((b.modOven i fun e => { e with locked := false }).admissionPass.replies f
           { result := .done })))

/-! ### Cleaning (05) -/

/-- R79, R80, R81, R82: CLEAN_REQUEST. A frame wrong in its form is refused with BAD_FIELD; the seven checks in
order name the other refusals. A request that passes is admitted where slot, daypart and buffer allow: occupancy,
count, record, REQUEST in class 1, report, ACCEPTED. With no slot it joins the wait queue with its position as
detail; with a slot and no buffer it is refused. The deadline is taken modulo 2^32 (log 21), the row takes its own
tag alone, any other, CANCEL among them, being a wrong form under it (log 8), and the REPLY comes last (log 7):
the model's. -/
def Obligations.CleanRequest : Prop :=
  (∀ (s : State) (f : StoreFrame), Misformed s f 1 1 1 →
    exec (.cleanRequest f) s = .next (s.repliesTo 2 f { result := .badField })) ∧
  (∀ (s : State) (f : StoreFrame) (i : OvenId), Sent s f 1 i 1 →
    (byteAt f.payload 0 = 0 ∨ 4 < byteAt f.payload 0) →
    exec (.cleanRequest f) s = .next (s.repliesTo 2 f { result := .badField })) ∧
  ∀ (s : State) (f : StoreFrame) (i : OvenId) (p : Programme), Sent s f 1 i 1 →
    Programme.ofCode (byteAt f.payload 0) = some p →
    let e := s.oven i
    let refused (x : Result) := exec (.cleanRequest f) s = .next (s.repliesTo 2 f { result := x })
    let slot := s.cleaning.slotCount < s.config.slotLimit ∧
      s.config.cleanMask.getLsbD s.daypart.val = true
    let minutes := match p with
      | .rinse => s.config.rinse | .light => s.config.light
      | .medium => s.config.medium | .heavy => s.config.heavy
    (e.record = none → refused .unknownOven) ∧
    (e.record.isSome = true → e.presence ≠ .active → refused .notActive) ∧
    (e.record.isSome = true → e.presence = .active → e.locked = true → refused .locked) ∧
    (e.record.isSome = true → e.presence = .active → e.locked = false → e.service = true →
      refused .service) ∧
    (e.record.isSome = true → e.presence = .active → e.locked = false → e.service = false →
      e.capabilities.autoClean = false → refused .capability) ∧
    (e.record.isSome = true → e.presence = .active → e.locked = false → e.service = false →
      e.capabilities.autoClean = true → e.occupancy ≠ .free → refused .occupied) ∧
    (e.record.isSome = true → e.presence = .active → e.locked = false → e.service = false →
      e.capabilities.autoClean = true → e.occupancy = .free →
      (∃ w ∈ s.cleaning.queue, w.oven = i) → refused .duplicate) ∧
    (CleanAllowed s i → slot → s.down.inUse < 48 →
      let a := ((s.modOven i fun e => { e with occupancy := .cleaning }).modCleanRecord i fun _ =>
        { isOpen := true, programme := some p, phase := 0, admitted := s.lineTime,
          deadline := s.lineTime + BitVec.ofNat 32 (minutes * 60), timer := .running,
          overtime := false, requestSent := false, cancelSent := false, seq := f.seq }).pushDown 1
            { frame := { cls := 2, oven := f.oven, tag := 1, seq := f.seq, payload := f.payload },
              live := true }
      let b := { a with cleaning := { a.cleaning with slotCount := s.cleaning.slotCount + 1 } }
      exec (.cleanRequest f) s = .next
        ((b.offerReport (reportCleanAdmitted i p f.seq s.lineTime s.lineTime
          (s.cleaning.slotCount + 1) .direct)).repliesTo 2 f { result := .accepted })) ∧
    (CleanAllowed s i → slot → 48 ≤ s.down.inUse → exec (.cleanRequest f) s = .next
      (s.repliesTo 2 f { result := .busy, detail := 2 })) ∧
    (CleanAllowed s i → ¬ slot → exec (.cleanRequest f) s = .next
      (State.repliesTo
        { s with cleaning :=
            { s.cleaning with queue := s.cleaning.queue ++
                [{ oven := i, programme := p, taken := s.lineTime, seq := f.seq }] } } 2 f
        { result := .queued, detail := s.cleaning.queue.length + 1 }))

/-- R79, R86: CLEAN_CANCEL takes a waiting oven's entry out; for a cleaning whose REQUEST has been sent it
forwards the frame in class 0 and sets the cancel-sent flag, with BUSY and hold-off 1 before that and 2 without a
buffer; any other oven is answered STATE. A frame wrong in its form is refused with BAD_FIELD. That a row takes
its own tag alone, so that any other tag, REQUEST among them, is a wrong form under it, is the model's (log 8). -/
def Obligations.CleanCancel : Prop :=
  (∀ (s : State) (f : StoreFrame), Misformed s f 2 0 0 →
    exec (.cleanCancel f) s = .next (s.repliesTo 2 f { result := .badField })) ∧
  ∀ (s : State) (f : StoreFrame) (i : OvenId), Sent s f 2 i 0 →
    let answers (t : State) (a : Reply) := exec (.cleanCancel f) s = .next (t.repliesTo 2 f a)
    let waits := ∃ w ∈ s.cleaning.queue, w.oven = i
    let cleans := (s.oven i).occupancy = .cleaning
    (waits → answers
      { s with cleaning :=
          { s.cleaning with queue := s.cleaning.queue.filter fun w => w.oven != i } }
      { result := .done }) ∧
    (¬ waits → ¬ cleans → answers s { result := .state }) ∧
    (¬ waits → cleans → (s.cleanRecord i).requestSent = false →
      answers s { result := .busy, detail := 1 }) ∧
    (¬ waits → cleans → (s.cleanRecord i).requestSent = true → 48 ≤ s.down.inUse →
      answers s { result := .busy, detail := 2 }) ∧
    (¬ waits → cleans → (s.cleanRecord i).requestSent = true → s.down.inUse < 48 →
      answers ((s.pushDown 0
        { frame := { cls := 2, oven := f.oven, tag := 2, seq := f.seq, payload := [] },
          live := true }).modCleanRecord i fun r => { r with cancelSent := true })
        { result := .done })

/-- R82 to R85: an admission pass deals with the waiting entries from the head, while a slot is open. Entries of
SILENT ovens and of ovens in service keep their place. The first other one is dropped as LOCKED or CAPABILITY with
its report, or admitted by route QUEUE: occupancy, slot count, its record with the entry's programme and sequence,
REQUEST in class 1, report; and the pass goes on as a pass over what is then left. Without a buffer it stops with
its flag set. Nothing else changes. So the entries that remain keep their order, slots are filled up to the limit
only, and an entry that left belongs to an oven now cleaning, locked or without AUTO_CLEAN. The deadline is taken
modulo 2^32 (the model's, log 21). -/
def Obligations.AdmissionPass : Prop :=
  ∀ s : State, CleaningLaw s →
    let t := s.admissionPass
    let unheld : State := { s with cleaning := { s.cleaning with passHeld := false } }
    let skipped (w : WaitEntry) := (s.oven w.oven).locked = false ∧
      (s.oven w.oven).capabilities.autoClean = true ∧
      ((s.oven w.oven).presence = .silent ∨ (s.oven w.oven).service = true)
    (s.slotOpen = decide (s.cleaning.slotCount < s.config.slotLimit ∧
      s.config.cleanMask.getLsbD s.daypart.val = true)) ∧
    (s.slotOpen = false → t = unheld) ∧
    ((∀ w ∈ s.cleaning.queue, skipped w) → t = unheld) ∧
    (∀ before w after, s.slotOpen = true → s.cleaning.queue = before ++ w :: after →
      (∀ x ∈ before, skipped x) → ¬ skipped w →
      let e := s.oven w.oven
      let left : State := { s with cleaning := { s.cleaning with queue := before ++ after } }
      let minutes := match w.programme with
        | .rinse => s.config.rinse | .light => s.config.light
        | .medium => s.config.medium | .heavy => s.config.heavy
      let a := ((left.modOven w.oven fun e => { e with occupancy := .cleaning }).modCleanRecord w.oven
        fun _ =>
          { isOpen := true, programme := some w.programme, phase := 0, admitted := s.lineTime,
            deadline := s.lineTime + BitVec.ofNat 32 (minutes * 60), timer := .running,
            overtime := false, requestSent := false, cancelSent := false, seq := w.seq }).pushDown 1
              { frame := { cls := 2, oven := ovenByte w.oven, tag := 1, seq := w.seq,
                           payload := be 1 w.programme.code }, live := true }
      let b : State := { a with cleaning :=
        { a.cleaning with slotCount := s.cleaning.slotCount + 1 } }
      (e.locked = true → t =
        (left.offerReport (reportCleanDropped w .locked s.lineTime)).admissionPass) ∧
      (e.locked = false → e.capabilities.autoClean = false → t =
        (left.offerReport (reportCleanDropped w .capability s.lineTime)).admissionPass) ∧
      (e.locked = false → e.capabilities.autoClean = true → s.down.inUse < 48 → t =
        (b.offerReport (reportCleanAdmitted w.oven w.programme w.seq w.taken s.lineTime
          (s.cleaning.slotCount + 1) .queue)).admissionPass) ∧
      (e.locked = false → e.capabilities.autoClean = true → 48 ≤ s.down.inUse → t =
        { s with cleaning := { s.cleaning with passHeld := true } })) ∧
    List.Sublist t.cleaning.queue s.cleaning.queue ∧
    t.cleaning.slotCount ≤ max s.cleaning.slotCount s.config.slotLimit ∧
    (∀ w ∈ s.cleaning.queue, w ∉ t.cleaning.queue →
      (t.oven w.oven).occupancy = .cleaning ∨ (t.oven w.oven).locked = true ∨
        (t.oven w.oven).capabilities.autoClean = false) ∧
    (t.slotOpen = true → t.cleaning.passHeld = false → ∀ w ∈ t.cleaning.queue,
      (t.oven w.oven).presence = .silent ∨ (t.oven w.oven).service = true) ∧
    (t.cleaning.passHeld = true → t.slotOpen = true ∧ t.bufferFree = false) ∧
    (∀ i, (∀ w ∈ s.cleaning.queue, w.oven ≠ i) → t.oven i = s.oven i ∧
      t.cleanRecord i = s.cleanRecord i)

/-- R87 to R90, R144: the end of a cleaning, by CLEAN_DONE of a cleaning oven or by CLEAN_RELEASE of a cleaning
oven that is SILENT or COMMISSIONED, in the order of R87; its REQUEST, where class queue 1 still holds it, belongs
to no cleaning from then on, so that its transmission sets no flag even after a new admission. CLEAN_PHASE stores a
phase 1 to 6 of a cleaning oven. Any other CLEAN_DONE or CLEAN_PHASE is only dispatched, a CLEAN_RELEASE outside 1
to 16 refused with BAD_FIELD. The REPLY comes last (log 7). -/
def Obligations.CleaningEnds : Prop :=
  (∀ (s : State) (f : StoreFrame), Requested s f 47 [1] → NoOven f →
    exec (.cleanRelease f) s = .next ((s.fromGateway f).replies f { result := .badField })) ∧
  (∀ (s : State) (i : OvenId) (r : CleanResult) (by' : EndedBy), (s.oven i).occupancy = .cleaning →
    let z := (s.modOven i fun e => { e with occupancy := .free }).modCleanRecord i fun c =>
      { c with timer := .stopped }
    let stale (x : DownFrame) : DownFrame :=
      if x.frame.cls = 2 ∧ x.frame.tag = 1 ∧ x.frame.oven = ovenByte i then { x with live := false }
      else x
    let a : State :=
      { z with down :=
          { z.down with classes := z.down.classes.set 1 (z.down.classes[(1 : Fin 4)].map stale) } }
    let b := State.clearAtSource
      { a with cleaning := { a.cleaning with slotCount := s.cleaning.slotCount - 1 } } (some i) 206
    let c := b.offerReport
      (reportCleanEnd i (b.cleanRecord i) r by' b.lineTime b.cleaning.slotCount)
    let d := if r = .fault then c.raise (some i) 207 .major .event else c
    s.endCleaning i r by' = (d.modCleanRecord i fun x => { x with isOpen := false }).admissionPass) ∧
  (∀ (s : State) (f : UpFrame) (i : OvenId), Heard s 8 8 f i →
    let t := s.noticed i 8 f
    (∀ r, CleanResult.ofCode (byteAt f.payload 0) = some r → (t.oven i).occupancy = .cleaning →
      exec (.cleanDone f) s = .next (t.endCleaning i r .oven)) ∧
    ((byteAt f.payload 0 = 0 ∨ 3 < byteAt f.payload 0 ∨ (t.oven i).occupancy ≠ .cleaning) →
      exec (.cleanDone f) s = .next t)) ∧
  (∀ (s : State) (f : UpFrame) (i : OvenId), Heard s 8 7 f i →
    let t := s.noticed i 7 f
    let k := byteAt f.payload 0
    ((t.oven i).occupancy = .cleaning → 1 ≤ k → k ≤ 6 →
      exec (.cleanPhase f) s = .next (t.modCleanRecord i fun r => { r with phase := k })) ∧
    (((t.oven i).occupancy ≠ .cleaning ∨ k = 0 ∨ 6 < k) → exec (.cleanPhase f) s = .next t)) ∧
  ∀ (s : State) (f : StoreFrame) (i : OvenId), RequestedFor s f 47 [1] i →
    let a := s.fromGateway f
    let may := (s.oven i).occupancy = .cleaning ∧
      ((s.oven i).presence = .silent ∨ (s.oven i).presence = .commissioned)
    (may → exec (.cleanRelease f) s = .next
      ((a.endCleaning i .aborted .release).replies f { result := .done })) ∧
    (¬ may → exec (.cleanRelease f) s = .next (a.replies f { result := .state }))

/-! ### Running a cook (03) -/

/-- R44, R45, R47 to R49: a start that passes the ten checks drops a wait entry of the oven with its report, sets
occupancy COOKING, counts a live user, sets the context and puts STEP 0 PENDING. One that fails changes nothing: a
store start is answered with the reason, a panel start gets a REFUSE where the context is IDLE and the slot takes
one. Panel starts are reported either way. A COOK START wrong in its form is refused with BAD_FIELD, as is any
other tag under this row, STOP among them (the model's, log 8). The REPLY comes last (log 7). -/
def Obligations.CookStarts : Prop :=
  (∀ (s : State) (f : StoreFrame), Misformed s f 1 4 4 →
    exec (.cookStart f) s = .next (s.repliesTo 1 f { result := .badField })) ∧
  (let begun (s : State) (i : OvenId) (r : Fin 512) (v : LiveVersion) (o : Origin)
       (batch : BitVec 16) : State :=
     let p := (s.stepRec v.run.first).params
     ((((s.dropWait i .cook).modOven i fun e => { e with occupancy := .cooking }).modRecipe r
       fun e => { e with live := some { v with users := v.users + 1 } }).modCook i fun c =>
         { state := .starting, origin := o, recipe := r.val + 1, version := v.run.version,
           first := v.run.first, count := v.run.count, batch := batch, stepIndex := 0, stepsDone := 0,
           stepClock := 0, holdClock := 0, dev := 0, tripped := false, doorOpen := 0, gaps := 0,
           missingRun := 0, lastStamp := c.lastStamp, baseline := true, total := 0,
           started := s.lineTime }).setSlot i
       { slot := .pending (.step 0 v.run.count
           { mode := p.mode, cavity := p.cavity, humidity := p.humidity, fan := p.fan,
             endKind := p.endKind }) false
         timer := none }
   (∀ (s : State) (f : StoreFrame) (i : OvenId) (r : Fin 512) (v : LiveVersion), Sent s f 1 i 4 →
     recipeOf (field f.payload 0 2) = some r → StartAllowed s i r v →
     exec (.cookStart f) s = .next
       ((begun s i r v .store (BitVec.ofNat 16 (field f.payload 2 2))).repliesTo 1 f
         { result := .accepted, detail := v.run.version })) ∧
   (∀ (s : State) (f : UpFrame) (i : OvenId) (r : Fin 512) (v : LiveVersion), Heard s 8 3 f i →
     recipeOf (field f.payload 0 2) = some r →
     let t := s.noticed i 3 f
     StartAllowed t i r v →
     exec (.panelStart f) s = .next
       ((begun t i r v .panel 0).offerReport
         (reportCookStarted i (r.val + 1) v.run.version .accepted false t.lineTime))) ∧
   (∀ (s : State) (i : OvenId) (x : DropReason), (∀ w ∈ s.cleaning.queue, w.oven ≠ i) →
     s.dropWait i x = s) ∧
   ∀ (s : State) (i : OvenId) (x : DropReason) before w after,
     s.cleaning.queue = before ++ w :: after → w.oven = i → (∀ y ∈ before ++ after, y.oven ≠ i) →
     s.dropWait i x =
       { s with cleaning := { s.cleaning with queue := before ++ after } }.offerReport
         (reportCleanDropped w x s.lineTime)) ∧
  ((∀ (s : State) (f : StoreFrame) (i : OvenId) (r : Fin 512) (a : Reply), Sent s f 1 i 4 →
     recipeOf (field f.payload 0 2) = some r → StartFails s i r a →
     exec (.cookStart f) s = .next (s.repliesTo 1 f a)) ∧
   (∀ (s : State) (f : StoreFrame) (i : OvenId), Sent s f 1 i 4 →
     recipeOf (field f.payload 0 2) = none →
     exec (.cookStart f) s = .next (s.repliesTo 1 f { result := .badField })) ∧
   ∀ (s : State) (f : UpFrame) (i : OvenId) (why : Result), Heard s 8 3 f i →
     let t := s.noticed i 3 f
     let n := field f.payload 0 2
     (recipeOf n = none ∧ why = .badField ∨
       ∃ r a, recipeOf n = some r ∧ StartFails t i r a ∧ why = a.result) →
     let told := (t.cook i).state = .idle ∧
       ((t.slot i).slot = .empty ∨ ∃ q x b, (t.slot i).slot = .pending (.refuse q x) b)
     (told → exec (.panelStart f) s = .next
       ((t.setSlot i { slot := .pending (.refuse n why) false, timer := none }).offerReport
         (reportCookStarted i n 0 why true t.lineTime))) ∧
     (¬ told → exec (.panelStart f) s = .next
       (t.offerReport (reportCookStarted i n 0 why false t.lineTime))))

/-- R44, R54, R55: COOK_STOP and PANEL_STOP. A context that is not IDLE goes IDLE with STOPPED and a STOP is put
in the slot; an IDLE context makes COOK_STOP answer STATE and PANEL_STOP only be dispatched, and the notice is
forwarded either way. A STOP that is PENDING already is left, any other slot content gives way (R42). A COOK STOP
wrong in its form is refused with BAD_FIELD. That a row takes its own tag alone, so that any other tag, START
among them, is a wrong form under it, is the model's (log 8). The REPLY comes last (log 7). -/
def Obligations.CookStops : Prop :=
  (∀ (s : State) (f : StoreFrame), Misformed s f 2 0 0 →
    exec (.cookStop f) s = .next (s.repliesTo 1 f { result := .badField })) ∧
  (∀ (s : State) (f : StoreFrame) (i : OvenId), Sent s f 2 i 0 →
    ((s.cook i).state = .idle →
      exec (.cookStop f) s = .next (s.repliesTo 1 f { result := .state })) ∧
    ((s.cook i).state ≠ .idle → exec (.cookStop f) s = .next
      (((s.cookGoIdle i .stopped).putStop i).repliesTo 1 f { result := .done }))) ∧
  (∀ (s : State) (f : UpFrame) (i : OvenId), Heard s 8 4 f i →
    let t := (s.dispatched i).offerForward i
      { cls := 8, oven := f.oven, tag := 4, seq := f.seq, payload := f.payload }
    ((t.cook i).state = .idle → exec (.panelStop f) s = .next t) ∧
    ((t.cook i).state ≠ .idle →
      exec (.panelStop f) s = .next ((t.cookGoIdle i .stopped).putStop i))) ∧
  ∀ (s : State) (i : OvenId),
    ((∃ b, (s.slot i).slot = .pending .stop b) → s.putStop i = s) ∧
    ((∀ b, (s.slot i).slot ≠ .pending .stop b) →
      s.putStop i = s.setSlot i { slot := .pending .stop false, timer := none })

/-- R33, R34, R57, R119, R130: a cook goes IDLE in the order of R57: timer, fold, COOK_END, user count (a
draining version without users is freed), occupancy, calls, state. An apply ends in the order of R119: timer,
context, occupancy, UPDATE_FAILED (208, MAJOR, EVENT) for a failure, UPDATE_END, watch, admission pass. -/
def Obligations.CooksAndAppliesEnd : Prop :=
  ((∀ (s : State) (i : OvenId) (r : CookResult),
     let c := s.cook i
     let told := if c.state = .running then
         { c with total := min 4294967295 (c.total + c.dev / 100) } else c
     let a := ((s.setSlot i { slot := (s.slot i).slot, timer := none }).modCook i fun _ => told).offerReport
       (reportCookEnd i told r s.lineTime)
     let b := a.dropUser c.recipe c.version
     let d := if (s.oven i).occupancy = .cooking then
         b.modOven i fun e => { e with occupancy := .free } else b
     s.cookGoIdle i r =
       (((d.clearAtSource (some i) 201).clearAtSource (some i) 202).clearAtSource (some i) 213).modCook i
         fun x => { x with state := .idle }) ∧
   ∀ (s : State) (n version : Nat) (r : Fin 512), recipeOf n = some r →
     (∀ v, (s.recipe r).live = some v → v.run.version = version →
       s.dropUser n version =
         s.modRecipe r fun e => { e with live := some { v with users := v.users - 1 } }) ∧
     (∀ w, (∀ v, (s.recipe r).live = some v → v.run.version ≠ version) →
       (s.recipe r).draining = some w → w.run.version = version → 1 < w.users →
       s.dropUser n version =
         s.modRecipe r fun e => { e with draining := some { w with users := w.users - 1 } }) ∧
     (∀ w, (∀ v, (s.recipe r).live = some v → v.run.version ≠ version) →
       (s.recipe r).draining = some w → w.run.version = version → w.users ≤ 1 →
       ∃ u : State, s.dropUser n version = u ∧
         u.recipe r = { s.recipe r with draining := none } ∧ (∀ q, q ≠ r → u.recipe q = s.recipe q) ∧
         (∀ k, k < 768 → u.stepRec k =
           if w.run.first ≤ k ∧ k < w.run.first + w.run.count then
             { s.stepRec k with owner := none, written := false }
           else s.stepRec k) ∧
         { u with recipes := s.recipes, steps := s.steps } = s)) ∧
  (∀ (s : State) (i : OvenId) (cause : FailCause) (v : Version), (s.oven i).occupancy = .applying →
     let failed := cause ≠ .noCause
     let a := (s.modUpdate i fun u =>
       { u with timer := .stopped, state := if failed then .failed else .idle,
                cause := cause }).modOven i fun e => { e with occupancy := .free }
     let b := if failed then a.raise (some i) 208 .major .event else a
     let c := b.offerReport (reportUpdateEnd i (b.update i) (if failed then .failed else .applied) cause
       v b.lineTime)
     (s.watch i = none → s.endApply i cause v = c.admissionPass) ∧
     (∀ w r, s.watch i = some w → (s.oven i).record = some r →
       s.endApply i cause v =
         (c.setWatch i (some { counter := r.window, prescaler := r.scale, scale := r.scale,
                               frozen := (s.oven i).service })).admissionPass))

/-- R50, R51, R53: STEP_ACK. Where the slot is SENT with the echoed index, a STARTING or ADVANCING context
becomes RUNNING with its step's clocks at 0, an ENDING one goes IDLE COMPLETED, the slot empties and
STEP_NO_ACK is cleared. Any other is stale and only counted. The advance after a completed step builds the
next STEP or the END. That the call is cleared last is the model's (log 27). -/
def Obligations.StepsAdvance : Prop :=
  (∀ (s : State) (f : UpFrame) (i : OvenId), Heard s 8 2 f i →
    let t := s.dispatched i
    let n := byteAt f.payload 0
    let acked := (∃ k h, (t.slot i).slot = .sent (.step n k h)) ∨ (t.slot i).slot = .sent (.endCook n)
    let u := t.setSlot i { slot := .empty, timer := none }
    (acked → ((t.cook i).state = .starting ∨ (t.cook i).state = .advancing) →
      exec (.stepAck f) s = .next
        ((u.modCook i fun c =>
          { c with state := .running, stepClock := 0, holdClock := 0, dev := 0, tripped := false,
                   baseline := true }).clearAtSource (some i) 203)) ∧
    (acked → (t.cook i).state = .ending → exec (.stepAck f) s = .next
      ((u.cookGoIdle i .completed).clearAtSource (some i) 203)) ∧
    ((¬ acked ∨ (t.cook i).state = .idle ∨ (t.cook i).state = .running) →
      exec (.stepAck f) s = .next (t.modOvenCounters i fun c =>
        { c with staleAcks := min 65535 (c.staleAcks + 1) }))) ∧
  ∀ (s : State) (i : OvenId),
    let c := s.cook i
    let p := (s.stepRec (c.first + (c.stepIndex + 1))).params
    (c.stepIndex + 1 < c.count → s.advanceCook i =
      (s.modCook i fun c => { c with stepsDone := c.stepsDone + 1, stepIndex := c.stepIndex + 1,
                                     state := .advancing }).setSlot i
        { slot := .pending (.step (c.stepIndex + 1) c.count
            { mode := p.mode, cavity := p.cavity, humidity := p.humidity, fan := p.fan,
              endKind := p.endKind }) false
          timer := none }) ∧
    (c.count ≤ c.stepIndex + 1 → s.advanceCook i =
      (s.modCook i fun c => { c with stepsDone := c.stepsDone + 1, stepIndex := c.count,
                                     state := .ending }).setSlot i
        { slot := .pending (.endCook c.count) false, timer := none })

/-! ### The cook watch (04) -/

/-- R60 to R74, R137, R138: a SAMPLE of a heard oven is dispatched, its copy forwarded where decimation selects
it, and the cook watch takes it: in transit its stamp, then the baseline of the step; duplicates are ignored, an
open door accumulates, a closed one drives clock, deviation, missing readings, budget and end test. Counters and
context, calls, then the advance or the abort. That no sample qualifies the hold of a CORE step without a core
target, which no run meets, is the model's (log 31). -/
def Obligations.SamplesAndCookWatch : Prop :=
  ((∀ (s : State) (tag : BitVec 16) (f : UpFrame) (i : OvenId), Heard s 7 tag f i →
     let t := s.dispatched i
     let n := ((t.oven i).record.map (·.decimation)).getD 0
     let phase := (t.oven i).counters.phase
     let puts (k : Nat) := t.modOvenCounters i fun c => { c with phase := k }
     let copy : KFrame :=
       { cls := 7, oven := f.oven, tag := tag, seq := f.seq, payload := f.payload }
     let x := Sample.ofPayload f.payload
     (n = 0 → exec (.sample tag f) s = .next ((puts 0).watchSample i x)) ∧
     (0 < n → phase = n - 1 →
       exec (.sample tag f) s = .next (((puts 0).offerForward i copy).watchSample i x)) ∧
     (0 < n → phase ≠ n - 1 → exec (.sample tag f) s = .next ((puts (phase + 1)).watchSample i x))) ∧
   ∀ (s : State) (i : OvenId) (x : Sample),
     let c := s.cook i
     let o := c.takeSample (s.stepRec (c.first + c.stepIndex)).params s.config.gapLimit x
     let out (v : Int) : Nat := if v ≠ -32768 ∧ (v < -500 ∨ 4000 < v) then 1 else 0
     let a := (s.modOvenCounters i fun k =>
       { k with
         clamped := min 65535 (k.clamped + if c.state = .idle then 0 else out x.cavity + out x.core)
         gaps := if o.gap = true then min 65535 (k.gaps + 1) else k.gaps
         duplicates := if o.duplicate = true then min 65535 (k.duplicates + 1) else k.duplicates
         }).modCook i fun _ => o.ctx
     let b := if o.reading = true then a.clearAtSource (some i) 213 else a
     let d := if o.missing = true then b.raise (some i) 213 .major .condition else b
     let e := match o.deviation with
       | some sev => d.raise (some i) 201 sev .condition
       | none => d
     let g := match o.coreTimeout with
       | some sev => e.raise (some i) 202 sev .condition
       | none => e
     s.watchSample i x =
       match o.verdict with
       | .goOn => g
       | .complete => g.advanceCook i
       | .abort r => g.stopCook i r) ∧
  (∀ (c : CookCtx) (p : StepParams) (limit : Nat) (x : Sample),
     let r := c.takeSample p limit x
     let top := 4294967295
     let e := (x.stamp - c.lastStamp).toNat
     let gap := decide (limit < e)
     let e' := min limit e
     let c1 := { c with lastStamp := x.stamp, gaps := if gap then min 65535 (c.gaps + 1) else c.gaps }
     let clampT (v : Int) : Option Int := if v = -32768 then none else some (max (-500) (min 4000 v))
     let tc := clampT x.cavity
     let far (v : Int) : Nat := (max (p.cavity - p.tolLow - v) (max (v - (p.cavity + p.tolHigh)) 0)).toNat
     let clock := min top (c.stepClock + e')
     let dev := match tc with
       | some v => min top (c.dev + far v * e')
       | none => c.dev
     let run := if tc = none then min 65535 (c.missingRun + 1) else 0
     let trips := decide (0 < p.budget ∧ p.budget * 100 ≤ dev ∧ c.tripped = false)
     let severity : Severity := if p.overrun = .note then .minor else .major
     let up := decide (p.duration * 10 ≤ clock)
     let good := x.probe && match clampT x.core, p.coreTarget with
       | some k, some target => decide (target ≤ k)
       | _, _ => false
     let hold := if good then min top (c.holdClock + e') else 0
     let held := good && decide (p.hold * 10 ≤ hold)
     let total := min top (c.total + dev / 100)
     let base : WatchOutcome :=
       { ctx := { c1 with stepClock := clock, dev := dev, missingRun := run,
                          tripped := c.tripped || trips },
         gap := gap, reading := tc.isSome, missing := decide (tc = none ∧ c.missingRun = 29),
         deviation := if trips then some severity else none }
     (c.state = .idle → r = { ctx := c }) ∧
     (c.state = .starting ∨ c.state = .advancing ∨ c.state = .ending →
       r = { ctx := { c with lastStamp := x.stamp } }) ∧
     (c.state = .running → c.baseline = true →
       r = { ctx := { c with lastStamp := x.stamp, baseline := false } }) ∧
     (c.state = .running → c.baseline = false →
       (e = 0 ∨ 32768 ≤ e → r = { ctx := c, duplicate := true }) ∧
       (0 < e → e < 32768 → x.door = true →
         r = { ctx := { c1 with doorOpen := min top (c1.doorOpen + e') }, gap := gap }) ∧
       (0 < e → e < 32768 → x.door = false →
         (trips = true → p.overrun = .abort →
           r = { base with verdict := .abort .abortedDeviation }) ∧
         ((trips = false ∨ p.overrun = .note) →
           (p.endKind = .time → r =
             if up then { base with ctx := { base.ctx with total := total }, verdict := .complete }
             else base) ∧
           (p.endKind = .core → r =
             let b := { base with ctx := { base.ctx with holdClock := hold } }
             let done := { b with ctx := { b.ctx with total := total }, verdict := .complete }
             if held then done
             else if up then
               if p.overrun = .note then { done with coreTimeout := some .minor }
               else { b with coreTimeout := some .major, verdict := .abort .abortedCoreTimeout }
             else b)))))

/-! ### Remote updates and direct frames (07, 09) -/

/-- R110 to R115: UPDATE_OPEN sets the context and forwards the frame in class 1; UPDATE_CHUNK at bytes passed is
queued in class 3, absorbed by the running CRC-32 and counted, without a REPLY, and one behind bytes passed is
dropped and counted. The checks in order, the form first, name the refusals, which change nothing. That a row
takes its own tag alone, so that any other tag, those of the other UPDATE requests among them, is a wrong form
under it (log 8), and that an OPEN for an APPLYING oven that is SILENT or locked is answered in the order of R111
(log 36), are the model's. -/
def Obligations.UpdateTransfer : Prop :=
  (∀ (s : State) (f : StoreFrame),
    (Misformed s f 1 12 12 →
      exec (.updateOpen f) s = .next (s.repliesTo 3 f { result := .badField })) ∧
    (Misformed s f 2 5 452 →
      exec (.updateChunk f) s = .next (s.repliesTo 3 f { result := .badField }))) ∧
  (∀ (s : State) (f : StoreFrame) (i : OvenId), Sent s f 1 i 12 →
    let e := s.oven i
    let u := s.update i
    let n := field f.payload 2 4
    let answers (a : Reply) := exec (.updateOpen f) s = .next (s.repliesTo 3 f a)
    let form := field f.payload 0 2 ≠ 0 ∧ 1 ≤ n ∧ n ≤ 8388608
    let unlocked := form ∧ e.record.isSome = true ∧ e.presence = .active ∧ e.locked = false
    let idle := unlocked ∧ (u.state = .idle ∨ u.state = .failed)
    (¬ form → answers { result := .badField }) ∧
    (form → e.record = none → answers { result := .unknownOven }) ∧
    (form → e.record.isSome = true → e.presence ≠ .active → answers { result := .notActive }) ∧
    (form → e.record.isSome = true → e.presence = .active → e.locked = true →
      answers { result := .locked }) ∧
    (unlocked → ¬ (u.state = .idle ∨ u.state = .failed) → answers { result := .state }) ∧
    (idle → 0 < u.queued → answers { result := .busy, detail := s.config.bulkHoldOff }) ∧
    (idle → u.queued = 0 → 48 ≤ s.down.inUse → answers { result := .busy, detail := 2 }) ∧
    (idle → u.queued = 0 → s.down.inUse < 48 → exec (.updateOpen f) s = .next
      (((s.modUpdate i fun u =>
        { u with
          state := .opened, imageId := field f.payload 0 2, length := n,
          expectedCrc := BitVec.ofNat 32 (field f.payload 6 4),
          version := ⟨f.payload.getD 10 0, f.payload.getD 11 0⟩, passed := 0, crc := 0xFFFFFFFF#32,
          repeated := 0, begun := false, cause := .noCause }).pushDown 1
        { frame := { cls := 3, oven := f.oven, tag := 1, seq := f.seq, payload := f.payload },
          live := true }).repliesTo 3 f { result := .accepted }))) ∧
  (∀ (s : State) (f : StoreFrame) (i : OvenId), Sent s f 2 i f.payload.length →
    5 ≤ f.payload.length → f.payload.length ≤ 452 →
    let u := s.update i
    let off := field f.payload 0 4
    let data := f.payload.drop 4
    let answers (a : Reply) := exec (.updateChunk f) s = .next (s.repliesTo 3 f a)
    let open' := u.state = .opened ∨ u.state = .receiving
    let here := open' ∧ off = u.passed
    let fits := here ∧ off + data.length ≤ u.length
    (¬ open' → answers { result := .state }) ∧
    (open' → off < u.passed → exec (.updateChunk f) s = .next
      (s.modUpdate i fun u => { u with repeated := min 65535 (u.repeated + 1) })) ∧
    (open' → u.passed < off → answers { result := .gap, detail := u.passed }) ∧
    (here → u.length < off + data.length → answers { result := .badField }) ∧
    (fits → s.config.bulkLimit ≤ s.down.classes[3].length →
      answers { result := .busy, detail := s.config.bulkHoldOff }) ∧
    (fits → s.down.classes[3].length < s.config.bulkLimit → 48 ≤ s.down.inUse →
      answers { result := .busy, detail := 2 }) ∧
    (fits → s.down.classes[3].length < s.config.bulkLimit → s.down.inUse < 48 →
      exec (.updateChunk f) s = .next
        ((s.pushDown 3
          { frame := { cls := 3, oven := f.oven, tag := 2, seq := f.seq, payload := f.payload },
            live := true }).modUpdate i fun u =>
          { u with
            crc := data.foldl crc32Byte u.crc, passed := u.passed + data.length,
            queued := u.queued + 1,
            state := if u.state = .opened then .receiving else u.state })))

/-- R110, R116, R117, R121: UPDATE_SEAL fails a transfer that is short or does not check and seals one that does
once its chunks have left; UPDATE_APPLY takes occupancy, starts the timer and freezes the watch; UPDATE_ABORT
makes the context IDLE. Each forwards its frame; the refusals, BAD_FIELD for a wrong form first, change nothing.
That a row takes its own tag alone, so that any other tag, those of the other UPDATE requests among them, is a
wrong form under it (log 8), and that the deadline is taken modulo 2^32 (log 21), are the model's. -/
def Obligations.UpdateSealApplyAbort : Prop :=
  (∀ (s : State) (f : StoreFrame),
    let refused (c : Instr) := exec c s = .next (s.repliesTo 3 f { result := .badField })
    (Misformed s f 3 0 0 → refused (.updateSeal f)) ∧
    (Misformed s f 4 0 0 → refused (.updateApply f)) ∧
    (Misformed s f 5 0 0 → refused (.updateAbort f))) ∧
  ∀ (s : State) (f : StoreFrame) (i : OvenId),
    let u := s.update i
    let answers (c : Instr) (t : State) (a : Reply) := exec c s = .next (t.repliesTo 3 f a)
    let forward (t : State) (k : Fin 4) (tag : BitVec 16) := t.pushDown k
      { frame := { cls := 3, oven := f.oven, tag := tag, seq := f.seq, payload := [] }, live := true }
    let room := s.down.inUse < 48
    let poolBusy : Reply := { result := .busy, detail := 2 }
    let open' := u.state = .opened ∨ u.state = .receiving
    let checks := u.passed = u.length ∧ ~~~u.crc = u.expectedCrc
    let waits := ∃ w ∈ s.cleaning.queue, w.oven = i
    let day := s.config.updateMask.getLsbD s.daypart.val = true ∨ (s.oven i).service = true
    let free := (s.oven i).occupancy = .free
    (Sent s f 3 i 0 →
      (¬ open' → answers (.updateSeal f) s { result := .state }) ∧
      (open' → ¬ checks → answers (.updateSeal f)
        (s.modUpdate i fun x => { x with state := .failed, cause := .mismatch })
        { result := .mismatch, detail := u.passed }) ∧
      (open' → checks → 0 < u.queued → answers (.updateSeal f) s
        { result := .busy, detail := s.config.bulkHoldOff }) ∧
      (open' → checks → u.queued = 0 → ¬ room → answers (.updateSeal f) s poolBusy) ∧
      (open' → checks → u.queued = 0 → room → answers (.updateSeal f)
        (forward (s.modUpdate i fun x => { x with state := .sealed }) 1 3) { result := .done })) ∧
    (Sent s f 4 i 0 →
      (u.state ≠ .sealed → answers (.updateApply f) s { result := .state }) ∧
      (u.state = .sealed → ¬ free → answers (.updateApply f) s { result := .occupied }) ∧
      (u.state = .sealed → free → waits → answers (.updateApply f) s { result := .cleanPending }) ∧
      (u.state = .sealed → free → ¬ waits → ¬ day →
        answers (.updateApply f) s { result := .daypart }) ∧
      (u.state = .sealed → free → ¬ waits → day → ¬ room → answers (.updateApply f) s poolBusy) ∧
      (u.state = .sealed → free → ¬ waits → day → room → answers (.updateApply f)
        (forward (((s.modOven i fun e => { e with occupancy := .applying }).modUpdate i fun x =>
          { x with state := .applying, begun := false, timer := .running,
                   deadline := s.lineTime + BitVec.ofNat 32 s.config.applyTimeout }).setWatch i
          ((s.watch i).map fun w => { w with frozen := true })) 1 4)
        { result := .accepted })) ∧
    (Sent s f 5 i 0 →
      (u.state = .idle ∨ u.state = .applying → answers (.updateAbort f) s { result := .state }) ∧
      (u.state ≠ .idle → u.state ≠ .applying → ¬ room → answers (.updateAbort f) s poolBusy) ∧
      (u.state ≠ .idle → u.state ≠ .applying → room → answers (.updateAbort f)
        (forward (s.modUpdate i fun x => { x with state := .idle }) 0 5) { result := .done }))

/-- R139, R141: an accepted DIRECT frame joins the class queue its kind is mapped to, unchanged and without a
REPLY; the checks in order name the refusals, which change nothing. -/
def Obligations.Direct : Prop :=
  ∀ (s : State) (f : StoreFrame), s.phase = .ready → f.len.toNat = f.payload.length →
    f.payload.length ≤ 480 → f.oven.toNat ≤ 16 →
    let answers (a : Reply) := exec (.direct f) s = .next (s.repliesTo 4 f a)
    ((f.oven = 0 ∨ 63 < f.tag.toNat) → answers { result := .badField }) ∧
    (∀ i, ovenOf f.oven.toNat = some i → f.tag.toNat ≤ 63 →
      ((s.oven i).record = none → answers { result := .unknownOven }) ∧
      ((s.oven i).record.isSome = true → (s.oven i).presence ≠ .active →
        answers { result := .notActive }) ∧
      ((s.oven i).record.isSome = true → (s.oven i).presence = .active → 48 ≤ s.down.inUse →
        answers { result := .busy, detail := 2 })) ∧
    (∀ i (k : Fin 64), ovenOf f.oven.toNat = some i → f.tag.toNat = k.val →
      (s.oven i).record.isSome = true → (s.oven i).presence = .active → s.down.inUse < 48 →
      exec (.direct f) s = .next (s.pushDown s.classMap[k]
        { frame := { cls := 4, oven := f.oven, tag := f.tag, seq := f.seq, payload := f.payload },
          live := true }))

/-! ### Upward frames (01, 06, 07, 08, 09) -/

/-- R3, R10, R127, R137: an upward frame other than a HELLO by the presence of its source. For a SAMPLE and every
such notice of a length in its range, VACANT counts an unknown source and ANNOUNCED and COMMISSIONED a refused
frame, and nothing else changes. On OVEN_NOTE, which has no owner, ACTIVE reloads the watch, counts and forwards;
SILENT returns to ACTIVE first, with its report, SILENT cleared and an admission pass. A reload takes counter,
prescaler and scale from the record and keeps the frozen flag, and needs both watch and record. Every dispatch of
an ACTIVE or SILENT oven does the same before the frame's owner acts. That an idle gap comes before the frame is
the model's (log 14). -/
def Obligations.UpwardDispatch : Prop :=
  (∀ (s : State) (i : OvenId) (cause : PresenceCause),
    let counted (t : State) := t.modOvenCounters i fun c =>
      { c with received := min 65535 (c.received + 1) }
    (∀ r x, (s.oven i).record = some r → s.watch i = some x → s.reloadWatch i = s.setWatch i
      (some { counter := r.window, prescaler := r.scale, scale := r.scale, frozen := x.frozen })) ∧
    ((s.oven i).record = none ∨ s.watch i = none → s.reloadWatch i = s) ∧
    s.returnFromSilent i cause = (((s.setPresence i .active cause).clearAtSource (some i)
      200).reloadWatch i).admissionPass ∧
    ((s.oven i).presence = .silent → s.dispatched i =
      counted ((s.wholeFrame.returnFromSilent i .return).reloadWatch i)) ∧
    ((s.oven i).presence ≠ .silent → s.dispatched i = counted (s.wholeFrame.reloadWatch i))) ∧
  (∀ (c : Instr) (x : UpForm) (lo hi : Nat) (s : State) (i : OvenId), upForm c = some x →
    (∀ f, c ≠ .hello f) → upwardLengths x.cls x.tag = some (lo, hi) → lo ≤ x.frame.payload.length →
    x.frame.payload.length ≤ hi → s.phase = .ready → ovenOf x.frame.oven.toNat = some i →
    let w := s.wholeFrame
    ((s.oven i).presence = .vacant → exec c s = .next { w with counters :=
      { w.counters with unknownSource := min 65535 (w.counters.unknownSource + 1) } }) ∧
    ((s.oven i).presence = .announced ∨ (s.oven i).presence = .commissioned →
      exec c s = .next (w.modOvenCounters i fun c =>
        { c with refused := min 65535 (c.refused + 1) }))) ∧
  ∀ (s : State) (f : UpFrame) (i : OvenId), s.phase = .ready → ovenOf f.oven.toNat = some i →
    f.payload.length ≤ 64 →
    let w := s.wholeFrame
    let copy : KFrame := { cls := 8, oven := f.oven, tag := 11, seq := f.seq, payload := f.payload }
    let received (t : State) := t.modOvenCounters i fun c =>
      { c with received := min 65535 (c.received + 1) }
    ((s.oven i).presence = .vacant → exec (.ovenNote f) s = .next { w with counters :=
      { w.counters with unknownSource := min 65535 (w.counters.unknownSource + 1) } }) ∧
    ((s.oven i).presence = .announced ∨ (s.oven i).presence = .commissioned →
      exec (.ovenNote f) s = .next (w.modOvenCounters i fun c =>
        { c with refused := min 65535 (c.refused + 1) })) ∧
    (∀ r x, (s.oven i).presence = .active → (s.oven i).record = some r → s.watch i = some x →
      exec (.ovenNote f) s = .next ((received (w.setWatch i
        (some { counter := r.window, prescaler := r.scale, scale := r.scale,
                frozen := x.frozen }))).offerForward i copy)) ∧
    ((s.oven i).presence = .silent → exec (.ovenNote f) s = .next
      ((received (((((w.setPresence i .active .return).clearAtSource (some i) 200).reloadWatch
        i).admissionPass).reloadWatch i)).offerForward i copy)) ∧
    (s.lineRx.partialFrame = none → w = { s with lineRx := .hunt false })

/-- R3 to R10, R95, R127, R137: HELLO. Malformed it is counted by presence. Well-formed it replaces the
announced fields, a SILENT oven with a matching serial returns, the copy is forwarded, then presence and serial
decide. A match is reconciled: an apply ends, a cook aborts or an unknown one is stopped, a cleaning is adopted,
kept or ended. The order from SILENT (log 20), the clearing of COMMISSION_MISMATCH at a match in ACTIVE and
SILENT too (log 28, from R95), an adopted deadline taken modulo 2^32 (log 21), that model class 0 makes a HELLO
malformed and a class above 15 is taken as carried (log 30) and that an idle gap comes before the frame (log 14)
are the model's. -/
def Obligations.HelloAndReconciliation : Prop :=
  (∀ (s : State) (f : UpFrame) (i : OvenId), s.phase = .ready → ovenOf f.oven.toNat = some i →
     f.payload.length = 11 →
     let w := s.wholeFrame
     let p := f.payload
     let malformed := byteAt p 6 = 0 ∨ 3 < byteAt p 10
     let copy : KFrame := { cls := 8, oven := f.oven, tag := 1, seq := f.seq, payload := p }
     let received (t : State) := t.modOvenCounters i fun c =>
       { c with received := min 65535 (c.received + 1) }
     (malformed → (s.oven i).presence = .vacant → exec (.hello f) s = .next { w with counters :=
       { w.counters with unknownSource := min 65535 (w.counters.unknownSource + 1) } }) ∧
     (malformed → (s.oven i).presence ≠ .vacant → exec (.hello f) s = .next (w.modOvenCounters i
       fun c => { c with refused := min 65535 (c.refused + 1) })) ∧
     (∀ act, ¬ malformed → Activity.ofByte (p.getD 10 0) = some act →
       let a : Announced :=
         { serial := BitVec.ofNat 48 (field p 0 6), modelClass := byteAt p 6,
           caps := { steam := (p.getD 7 0).getLsbD 0, probe := (p.getD 7 0).getLsbD 1,
                     autoClean := (p.getD 7 0).getLsbD 2 },
           version := ⟨p.getD 8 0, p.getD 9 0⟩, activity := act }
       let b := w.modOven i fun e => { e with announced := some a }
       let c := b.offerForward i copy
       let matching (t : State) := (t.clearAtSource (some i) 209).clearAtSource (some i) 203
       ((s.oven i).presence = .vacant →
         exec (.hello f) s = .next (received (c.setPresence i .announced .hello))) ∧
       ((s.oven i).presence = .announced → exec (.hello f) s = .next (received c)) ∧
       (∀ r, (s.oven i).record = some r → r.serial = a.serial →
         ((s.oven i).presence = .commissioned → exec (.hello f) s = .next (received
           ((matching ((c.setPresence i .active .hello).setWatch i
             (some { counter := r.window, prescaler := r.scale, scale := r.scale,
                     frozen := (s.oven i).service || (s.oven i).occupancy == .applying }))).reconcile
             i a))) ∧
         ((s.oven i).presence = .active → exec (.hello f) s = .next (received
           ((matching (c.reloadWatch i)).reconcile i a))) ∧
         ((s.oven i).presence = .silent → exec (.hello f) s = .next (received
           ((matching (((b.returnFromSilent i .hello).offerForward i copy).reloadWatch i)).reconcile i
             a)))) ∧
       (∀ r, (s.oven i).record = some r → r.serial ≠ a.serial →
         ((s.oven i).presence = .commissioned → exec (.hello f) s = .next (received
           (c.raise (some i) 209 .lockout .condition))) ∧
         ((s.oven i).presence = .active ∨ (s.oven i).presence = .silent →
           let d := (c.setPresence i .commissioned .mismatch).setWatch i none
           let g := if (s.oven i).presence = .silent then d.clearAtSource (some i) 200 else d
           let h := if (g.update i).state = .applying then g.endApply i .serial a.version else g
           exec (.hello f) s = .next (received (h.raise (some i) 209 .lockout .condition)))))) ∧
  (∀ (s : State) (i : OvenId) (a : Announced),
     let s1 := if (s.update i).state = .applying then
         s.endApply i (if a.version = (s.update i).version then .noCause else .version) a.version else s
     let s2 := if (s1.cook i).state ≠ .idle then
         ((s1.cookGoIdle i .abortedRestart).putStop i).raise (some i) 204 .major .event
       else if a.activity = .cooking then (s1.putStop i).raise (some i) 205 .major .event
       else s1
     ((s2.oven i).occupancy = .free → a.activity = .cleaning → s.reconcile i a =
       ({ s2 with
           ovens := s2.ovens.set i { s2.oven i with occupancy := .cleaning }
           cleaning := { s2.cleaning with
             slotCount := s2.cleaning.slotCount + 1
             records := s2.cleaning.records.set i
               { isOpen := true, programme := none, phase := 0, admitted := s2.lineTime,
                 deadline := s2.lineTime + BitVec.ofNat 32 (s2.config.heavy * 60), timer := .running,
                 overtime := false, requestSent := true, cancelSent := false, seq := 0 } } }).dropWait
         i .adopted) ∧
     ((s2.oven i).occupancy = .cleaning → a.activity ≠ .cleaning →
       s.reconcile i a = s2.endCleaning i .aborted .reconcile) ∧
     (((s2.oven i).occupancy = .cleaning ∧ a.activity = .cleaning ∨
         (s2.oven i).occupancy = .free ∧ a.activity ≠ .cleaning ∨
         (s2.oven i).occupancy = .cooking ∨ (s2.oven i).occupancy = .applying) →
       s.reconcile i a = s2))

/-- R98, R118, R131, R133: the other notices with an owner. FAULT raises the code with the map's severity,
FAULT_CLEAR clears it at source, others are counted as ignored; UPDATE_STATUS acts on an APPLYING context;
SERVICE_KEY enters and leaves service mode or is refused and counted. An enter with the flag set changes
nothing (log 16). -/
def Obligations.OwnedNotices : Prop :=
  ∀ (s : State) (f : UpFrame) (i : OvenId),
    let k := byteAt f.payload 0
    let ignored (t : State) : State :=
      { t with calls := { t.calls with ignored := min 65535 (t.calls.ignored + 1) } }
    let refused (t : State) := t.modOvenCounters i fun c =>
      { c with refused := min 65535 (c.refused + 1) }
    (Heard s 8 5 f i → let t := s.noticed i 5 f
      (∀ n : Fin 199, k = n.val + 1 →
        exec (.fault f) s = .next (t.raise (some i) k t.severity[n] .condition)) ∧
      ((k = 0 ∨ 199 < k) → exec (.fault f) s = .next (ignored t))) ∧
    (Heard s 8 6 f i → let t := s.noticed i 6 f
      (∀ p c, 1 ≤ k → k ≤ 199 → MergingLaw t → t.call p = some c → c.state ≠ .resolved →
        c.oven = some i → c.code = k →
        exec (.faultClear f) s = .next
          (if c.cleared then t
            else if c.state = .acknowledged then t.resolveCall p c
            else t.setCall p (some { c with cleared := true }))) ∧
      ((k = 0 ∨ 199 < k ∨ ∀ p c, t.call p = some c → c.oven = some i → c.code = k →
          c.state = .resolved) → exec (.faultClear f) s = .next (ignored t))) ∧
    (Heard s 8 9 f i → let t := s.noticed i 9 f
      ((t.update i).state = .applying → k = 1 →
        exec (.updateStatus f) s = .next (t.modUpdate i fun u => { u with begun := true })) ∧
      ((t.update i).state = .applying → k = 2 →
        exec (.updateStatus f) s = .next (t.endApply i .status ⟨0, 0⟩)) ∧
      (((t.update i).state ≠ .applying ∨ k = 0 ∨ 2 < k) → exec (.updateStatus f) s = .next t)) ∧
    (Heard s 8 10 f i → let t := s.noticed i 10 f
      (k = 1 → (t.oven i).service = true → exec (.serviceKey f) s = .next t) ∧
      (k = 1 → (t.oven i).service = false → (t.oven i).occupancy ≠ .free →
        exec (.serviceKey f) s = .next (refused t)) ∧
      (k = 1 → (t.oven i).service = false → (t.oven i).occupancy = .free →
        exec (.serviceKey f) s = .next ((t.modOven i fun e => { e with service := true }).setWatch i
          ((t.watch i).map fun w => { w with frozen := true }))) ∧
      (k = 2 → (t.oven i).service = false → exec (.serviceKey f) s = .next t) ∧
      (∀ r w, k = 2 → (t.oven i).service = true → t.watch i = some w → (t.oven i).record = some r →
        exec (.serviceKey f) s = .next (((t.modOven i fun e => { e with service := false }).setWatch i
          (some { counter := r.window, prescaler := r.scale, scale := r.scale,
                  frozen := (t.oven i).occupancy == .applying })).admissionPass)) ∧
      ((k = 0 ∨ 2 < k) → exec (.serviceKey f) s = .next (refused t)))

/-! ### The links' own sending (09, 10) -/

/-- R41, R143, R150: the free Line Transmitter takes one frame, of the first source in the arbiter's order that
holds one: class queue 0, the roll call, the PENDING slot next after the last one served, class queues 1, 2 and
3. Its bits go on the line. Nothing else changes but the roll call flag, the last slot served and the mark on
the slot taken. -/
def Obligations.LineArbiter : Prop :=
  ∀ s : State,
    let takes (source : LineSource) (frame : KFrame) (t : State) :=
      exec .lineTransmitterTake s = .next { t with down :=
        { t.down with
          tx := some { source := source, frame := frame, line := lineSignal frame } } }
    let pending (i : OvenId) (f : SlotFrame) := ∃ b, (s.slot i).slot = .pending f b
    let none' (k : Fin 4) := s.down.classes[k] = []
    let noSlot := ∀ i f, ¬ pending i f
    (∀ x, s.down.tx = some x → exec .lineTransmitterTake s = .next s) ∧
    (s.down.tx = none →
      (∀ h t, s.down.classes[(0 : Fin 4)] = h :: t → takes (.cls 0) h.frame s) ∧
      (none' 0 → s.down.rollCall = true → takes
        .rollCall { cls := 6, oven := 31, tag := 5, seq := 0, payload := [] }
        { s with down := { s.down with rollCall := false } }) ∧
      (∀ (i : OvenId) f, none' 0 → s.down.rollCall = false → pending i f →
        (∀ j g, pending j g → (i - s.down.lastSlot - 1).val ≤ (j - s.down.lastSlot - 1).val) →
        let t := s.setSlot i { slot := .pending f true, timer := (s.slot i).timer }
        takes (.slot i) (slotKFrame i f)
          { t with down := { s.down with lastSlot := i } }) ∧
      (∀ h t, none' 0 → s.down.rollCall = false → noSlot → s.down.classes[(1 : Fin 4)] = h :: t →
        takes (.cls 1) h.frame s) ∧
      (∀ h t, none' 0 → s.down.rollCall = false → noSlot → none' 1 →
        s.down.classes[(2 : Fin 4)] = h :: t → takes (.cls 2) h.frame s) ∧
      (∀ h t, none' 0 → s.down.rollCall = false → noSlot → none' 1 → none' 2 →
        s.down.classes[(3 : Fin 4)] = h :: t → takes (.cls 3) h.frame s) ∧
      (none' 0 → s.down.rollCall = false → noSlot → none' 1 → none' 2 → none' 3 →
        exec .lineTransmitterTake s = .next s))

/-- R41, R42, R43, R82, R114, R144: the end of a transmission frees the transmitter. A class frame leaves its
queue, a CHUNK counts down, a REQUEST sets the request sent flag while its cleaning is open, and a pass held
for a buffer runs; a STEP or END becomes SENT with its timer, a STOP or REFUSE leaves EMPTY, one replaced on
the line changes nothing. -/
def Obligations.TransmissionEnds : Prop :=
  ∀ (s : State) (x : LineTx), s.down.tx = some x →
    let a : State := { s with down := { s.down with tx := none } }
    let ends (t : State) := exec .transmissionEnd s = .next t
    (x.source = .rollCall → ends a) ∧
    (∀ i, x.source = .slot i →
      (∀ k n h, (s.slot i).slot = .pending (.step k n h) true →
        ends (a.setSlot i { slot := .sent (.step k n h), timer := some s.config.stepAckTimeout })) ∧
      (∀ k, (s.slot i).slot = .pending (.endCook k) true →
        ends (a.setSlot i { slot := .sent (.endCook k), timer := some s.config.stepAckTimeout })) ∧
      ((s.slot i).slot = .pending .stop true ∨ (∃ q y, (s.slot i).slot = .pending (.refuse q y) true) →
        ends (a.setSlot i { slot := .empty, timer := (s.slot i).timer })) ∧
      ((∀ f, (s.slot i).slot ≠ .pending f true) → ends a)) ∧
    (∀ (k : Fin 4) h rest, x.source = .cls k → s.down.classes[k] = h :: rest →
      let b : State := { a with down := { a.down with classes := a.down.classes.set k rest } }
      let chunk := h.frame.cls = 3 ∧ h.frame.tag = 2
      let request := h.frame.cls = 2 ∧ h.frame.tag = 1
      let freed (t : State) := if t.cleaning.passHeld = true then t.admissionPass else t
      (h.live = false ∨ ovenOf h.frame.oven.toNat = none ∨ ¬ chunk ∧ ¬ request → ends (freed b)) ∧
      (∀ i, h.live = true → ovenOf h.frame.oven.toNat = some i → chunk →
        ends (freed (b.modUpdate i fun u => { u with queued := u.queued - 1 }))) ∧
      (∀ i, h.live = true → ovenOf h.frame.oven.toNat = some i → request →
        ends (freed (if (s.cleanRecord i).isOpen = true then
          b.modCleanRecord i fun r => { r with requestSent := true } else b))))

/-- R102, R145, R146, R147, R149: a forwarded frame joins the tail of the Upward Queue below 24 entries and is
else counted in its oven's samples dropped for queue; a REPLY and a REPORT join below 32 and are else counted in
replies-lost and reports-lost. The Store Link sends the head of the Upward Queue in one Ethernet frame from the
station address to the gateway, padded to 46 bytes, with its FCS, unless it is sending or a pause is in force;
at the end the entry leaves and SERVICE frames are built, also while a soft reset is awaited and the entry is
another frame than its REPLY DONE (R163). -/
def Obligations.StoreLinkSends : Prop :=
  (∀ (s : State) (i : OvenId) (k : KFrame),
    let joins : State := { s with up := { s.up with frames := s.up.frames ++ [k] } }
    let n := s.up.frames.length
    s.offerForward i k = (if n < 24 then joins else s.modOvenCounters i fun c =>
      { c with dropped := min 65535 (c.dropped + 1) }) ∧
    s.offerReply k = (if n < 32 then joins else
      { s with up := { s.up with repliesLost := min 65535 (s.up.repliesLost + 1) } }) ∧
    s.offerReport k = (if n < 32 then joins else
      { s with up := { s.up with reportsLost := min 65535 (s.up.reportsLost + 1) } })) ∧
  ∀ (s : State) (k : KFrame) (rest : List KFrame), s.up.frames = k :: rest →
    let p := k.bytes ++ List.replicate (46 - k.bytes.length) 0
    let covered := be 6 s.gateway.toNat ++ be 6 Config.stationAddress.toNat ++
      be 2 s.config.kitchenType.toNat ++ p
    let frame : EthFrame :=
      { rxErr := false, dest := s.gateway, src := Config.stationAddress,
        etype := s.config.kitchenType, payload := p, fcs := crc32 covered }
    (s.up.tx = none → s.pause.remaining = 0 → exec .storeLinkSend s =
      .next { s with up := { s.up with tx := some frame } }) ∧
    (s.up.tx = none → 0 < s.pause.remaining → exec .storeLinkSend s = .next s) ∧
    (∀ e, s.up.tx = some e → exec .storeLinkSend s = .next s) ∧
    (∀ e, s.up.tx = some e →
      (s.softReset = none ∨ k.cls ≠ 9 ∨ k.payload.take 4 ≠ [5, 0, 6, 2]) →
      exec .storeLinkTransmissionEnd s = .next
      (State.buildService { s with up := { s.up with frames := rest, tx := none } }))

/-! ### Frames and bytes (10) -/

/-- R136, R152, R157: the bytes of the frame of every well-formed command of the links spell that command again,
also behind the zero padding of a short Ethernet frame. No class, tag, address, sequence, length or payload byte is
dropped. That an unknown tag stands with the first row of its class is the model's (log 8). R19, R48, R58, R82,
R84, R88, R123, R167: the eight REPORT frames carry the fields their rules list, in order, each in its width, named
values numbered from 1 in the order their rules list them. A presence change builds OVEN_STATE with the announced
serial for HELLO and MISMATCH, the expected one for the other causes. R49, R153, R155: a REPLY echoes class, tag,
oven and sequence and carries result code, CLAMPED flag, detail and data; a STEP, END, STOP and REFUSE carry the
fields of R153. The 24 result codes are the table's. That REPORT frames carry oven address 0 (log 9) and the widths
and numbers of fields R152 leaves open (log 10) are the model's. -/
def Obligations.FramesSpellTheirCommands : Prop :=
  (let report (tag : BitVec 16) (fields : List (Nat × Nat)) : KFrame :=
     { cls := 10, oven := 0, tag := tag, seq := 0, payload := spells fields }
   let flag (b : Bool) : Nat := if b then 1 else 0
   let addr (i : OvenId) : Nat := i.val + 1
   (∀ c r n (t : LineTime), reportStarted c r n t =
     report 1 [(1, c.code), (1, r.code), (2, n), (4, t.toNat)]) ∧
   (∀ i recipe version (x : Result) told (t : LineTime),
     reportCookStarted i recipe version x told t =
       report 2 [(1, addr i), (2, recipe), (1, version), (1, 2), (1, x.code), (1, flag told),
         (4, t.toNat)]) ∧
   (∀ i (c : CookCtx) (r : CookResult) (now : LineTime), reportCookEnd i c r now =
     report 3 [(1, addr i), (2, c.recipe), (1, c.version), (2, c.batch.toNat), (1, c.origin.code),
       (1, r.code), (1, c.stepsDone), (4, c.total), (4, c.doorOpen / 10), (2, c.gaps),
       (4, (now - c.started).toNat)]) ∧
   (∀ i (p : Programme) (q : Byte) (taken admitted : LineTime) n (r : Route),
     reportCleanAdmitted i p q taken admitted n r =
       report 4 [(1, addr i), (1, p.code), (1, q.toNat), (4, taken.toNat), (4, admitted.toNat), (1, n),
         (1, r.code)]) ∧
   (∀ i (c : CleanRecord) (r : CleanResult) (e : EndedBy) (now : LineTime) n,
     reportCleanEnd i c r e now n =
       report 5 [(1, addr i), (1, (c.programme.map (·.code)).getD 0), (1, r.code), (1, e.code),
         (1, c.phase), (1, flag c.overtime), (1, flag c.cancelSent), (4, (now - c.admitted).toNat),
         (1, n)]) ∧
   (∀ (w : WaitEntry) (r : DropReason) (now : LineTime), reportCleanDropped w r now =
     report 6 [(1, addr w.oven), (1, w.programme.code), (1, w.seq.toNat), (4, w.taken.toNat), (1, r.code),
       (4, now.toNat)]) ∧
   (∀ i (u : UpdateCtx) (r : UpdateEnd) (c : FailCause) (v : Version) (now : LineTime),
     reportUpdateEnd i u r c v now =
       report 7 [(1, addr i), (2, u.imageId), (1, r.code), (1, c.code), (1, u.version.major.toNat),
         (1, u.version.minor.toNat), (1, v.major.toNat), (1, v.minor.toNat), (4, u.length),
         (4, u.passed), (1, flag u.begun), (4, now.toNat)]) ∧
   (∀ (s : State) (i : OvenId) (p : Presence) (c : PresenceCause),
     let serial : BitVec 48 :=
       if c = .hello ∨ c = .mismatch then ((s.oven i).announced.map (·.serial)).getD 0
       else ((s.oven i).record.map (·.serial)).getD 0
     s.setPresence i p c = (s.modOven i fun e => { e with presence := p }).offerReport
       (report 8 [(1, addr i), (1, (s.oven i).presence.code), (1, p.code), (1, c.code),
         (6, serial.toNat), (4, s.lineTime.toNat)])) ∧
   (∀ (r : ReplyTo) (a : Reply), replyFrame r a =
     { cls := 9, oven := r.oven, tag := 0, seq := r.seq,
       payload := spells [(1, r.cls.toNat), (2, r.tag.toNat), (1, a.result.code), (1, flag a.clamped),
         (4, a.detail)] ++ a.data }) ∧
   (let step (i : OvenId) (tag : BitVec 16) (fields : List (Nat × Nat)) : KFrame :=
      { cls := 6, oven := BitVec.ofNat 8 (addr i), tag := tag, seq := 0, payload := spells fields }
    ∀ i : OvenId,
      (∀ n k h, slotKFrame i (.step n k h) = step i 1
        [(1, n), (1, k), (1, h.mode.code), (2, (BitVec.ofInt 16 h.cavity).toNat), (1, h.humidity),
         (1, h.fan), (1, h.endKind.code)]) ∧
      (∀ n, slotKFrame i (.endCook n) = step i 2 [(1, n)]) ∧ slotKFrame i .stop = step i 3 [] ∧
      ∀ q (x : Result), slotKFrame i (.refuse q x) = step i 4 [(2, q), (1, x.code)]) ∧
   [Result.accepted, .done, .queued].map (·.code) = [1, 2, 3] ∧
   [Result.unknownOven, .notActive, .locked, .service, .occupied, .cleanPending].map (·.code) =
     [10, 11, 12, 13, 14, 15] ∧
   [Result.daypart, .notPermitted, .capability, .noRecipe].map (·.code) = [20, 21, 22, 23] ∧
   [Result.duplicate, .busy, .state].map (·.code) = [30, 31, 32] ∧
   [Result.badField, .inUse, .incomplete, .draining].map (·.code) = [40, 41, 42, 43] ∧
   [Result.gap, .mismatch, .worn, .clearing].map (·.code) = [50, 51, 61, 62] ∧
   [Mode.convection, .steam, .combi].map (·.code) = [1, 2, 3] ∧
   [EndKind.time, .core].map (·.code) = [1, 2] ∧
   [Presence.vacant, .announced, .commissioned, .active, .silent].map (·.code) = [1, 2, 3, 4, 5] ∧
   [PresenceCause.hello, .mismatch, .commission, .silence, .return, .retire].map (·.code) =
     [1, 2, 3, 4, 5, 6] ∧
   [ResetCause.powerOn, .pin, .control].map (·.code) = [1, 2, 3] ∧
   [RestoreResult.restored, .empty, .lost].map (·.code) = [1, 2, 3] ∧
   [Origin.store, .panel].map (·.code) = [1, 2] ∧
   [CookResult.completed, .endedUnconfirmed, .stopped, .abortedNoAck, .abortedDeviation,
     .abortedCoreTimeout, .abortedLockout, .abortedSilent, .abortedRestart].map (·.code) =
     [1, 2, 3, 4, 5, 6, 7, 8, 9] ∧
   [Programme.rinse, .light, .medium, .heavy].map (·.code) = [1, 2, 3, 4] ∧
   [CleanResult.complete, .aborted, .fault].map (·.code) = [1, 2, 3] ∧
   [EndedBy.oven, .release, .reconcile].map (·.code) = [1, 2, 3] ∧
   [DropReason.cook, .adopted, .retired, .locked, .capability].map (·.code) = [1, 2, 3, 4, 5] ∧
   [Route.direct, .queue].map (·.code) = [1, 2] ∧
   [UpdateEnd.applied, .failed, .locked, .retired].map (·.code) = [1, 2, 3, 4] ∧
   [FailCause.noCause, .mismatch, .locked, .version, .status, .timeout, .serial].map (·.code) =
     [1, 2, 3, 4, 5, 6, 7]) ∧
  (∀ (c : Instr) (x : StoreForm) (n : Nat), storeForm c = some x → wellFormed c = true →
    decodeFrame x.frame.src (x.kframe.bytes ++ List.replicate n 0) = some c) ∧
  ∀ (c : Instr) (x : UpForm) (src : EthAddr), upForm c = some x → wellFormed c = true →
    decodeFrame src x.kframe.bytes = some c

/-! ### The laws, kept by every step from every state -/

/-- R139, R145: at most 48 frames stand in the class queues and at most 32 in the Upward Queue. -/
def Obligations.QueueBoundsKept : Prop :=
  ∀ s t : State, QueueBounds s → step s = .next t → QueueBounds t

/-- R14, R15, 01, R125, R130: no serial is expected twice; a record stands in COMMISSIONED, ACTIVE and SILENT, a
watch in ACTIVE and SILENT, frozen in service and while applying. -/
def Obligations.OvenTableLawsKept : Prop :=
  ∀ s t : State, step s = .next t → (SerialLaw s → SerialLaw t) ∧ (PresenceLaw s → PresenceLaw t)

/-- R11, R21, R33, R78, R81: occupancy is COOKING exactly while the cook context is not IDLE, and APPLYING
exactly while the update context is APPLYING. The slot count is the number of cleaning ovens; the wait queue
holds at most one entry for an oven and only FREE ovens. With the law of occupancy, step records stay owned by
the versions whose runs hold them, user counts stay the numbers of cooks, and the records of a running cook keep
their contents and their written flag. -/
def Obligations.OccupancyAndCleaningLawsKept : Prop :=
  ∀ s t : State, step s = .next t →
    (OccupancyLaw s → OccupancyLaw t) ∧ (CleaningLaw s → CleaningLaw t) ∧
    (OccupancyLaw s → RecipeLaw s → RecipeLaw t ∧
      ∀ i k, (t.cook i).state ≠ .idle → (t.cook i).first ≤ k → k < (t.cook i).first + (t.cook i).count →
        (t.stepRec k).params = (s.stepRec k).params ∧ (t.stepRec k).written = (s.stepRec k).written)

/-- R94, R97: at most one unresolved call for an oven and code, occurrences 1 to 255; no number twice, numbers 1
to 65,535, every call in the creation order. -/
def Obligations.CallTableLawsKept : Prop :=
  ∀ s t : State, step s = .next t → (MergingLaw s → MergingLaw t) ∧ (NumberLaw s → NumberLaw t)

/-- R105: an oven is locked exactly while it has an unresolved LOCKOUT call or its overflow bit, and a locked
oven cooks nothing. -/
def Obligations.LockLawKept : Prop :=
  ∀ s t : State, LockLaw s → step s = .next t → LockLaw t

/-- R109: bytes passed never exceed the image length, and a SEALED or APPLYING context holds a whole image whose
CRC-32 is the expected one. -/
def Obligations.UpdateLawKept : Prop :=
  ∀ s t : State, UpdateLaw s → step s = .next t → UpdateLaw t
end

