-- ==== Sys2Proof/Laws/State.lean ====
section
/-! SUPPORT. One lemma per field and update of the state, so that no proof unfolds a record update: what an
update leaves as it was, and what it writes. -/

namespace Sys2Proof.Machine.State

variable (s : State)

/-! ### modOven -/

section
variable (i : OvenId) (f : OvenEntry → OvenEntry)

@[simp] theorem modOven_pending : (s.modOven i f).pending = s.pending := rfl
@[simp] theorem modOven_phase : (s.modOven i f).phase = s.phase := rfl
@[simp] theorem modOven_resetCause : (s.modOven i f).resetCause = s.resetCause := rfl
@[simp] theorem modOven_restoreResult : (s.modOven i f).restoreResult = s.restoreResult := rfl
@[simp] theorem modOven_image : (s.modOven i f).image = s.image := rfl
@[simp] theorem modOven_saveCount : (s.modOven i f).saveCount = s.saveCount := rfl
@[simp] theorem modOven_saving : (s.modOven i f).saving = s.saving := rfl
@[simp] theorem modOven_clearing : (s.modOven i f).clearing = s.clearing := rfl
@[simp] theorem modOven_softReset : (s.modOven i f).softReset = s.softReset := rfl
@[simp] theorem modOven_lineTime : (s.modOven i f).lineTime = s.lineTime := rfl
@[simp] theorem modOven_tickPhase : (s.modOven i f).tickPhase = s.tickPhase := rfl
@[simp] theorem modOven_watches : (s.modOven i f).watches = s.watches := rfl
@[simp] theorem modOven_recipes : (s.modOven i f).recipes = s.recipes := rfl
@[simp] theorem modOven_steps : (s.modOven i f).steps = s.steps := rfl
@[simp] theorem modOven_cooks : (s.modOven i f).cooks = s.cooks := rfl
@[simp] theorem modOven_slots : (s.modOven i f).slots = s.slots := rfl
@[simp] theorem modOven_cleaning : (s.modOven i f).cleaning = s.cleaning := rfl
@[simp] theorem modOven_calls : (s.modOven i f).calls = s.calls := rfl
@[simp] theorem modOven_severity : (s.modOven i f).severity = s.severity := rfl
@[simp] theorem modOven_updates : (s.modOven i f).updates = s.updates := rfl
@[simp] theorem modOven_down : (s.modOven i f).down = s.down := rfl
@[simp] theorem modOven_classMap : (s.modOven i f).classMap = s.classMap := rfl
@[simp] theorem modOven_up : (s.modOven i f).up = s.up := rfl
@[simp] theorem modOven_gateway : (s.modOven i f).gateway = s.gateway := rfl
@[simp] theorem modOven_pause : (s.modOven i f).pause = s.pause := rfl
@[simp] theorem modOven_lineRx : (s.modOven i f).lineRx = s.lineRx := rfl
@[simp] theorem modOven_counters : (s.modOven i f).counters = s.counters := rfl
@[simp] theorem modOven_cursor : (s.modOven i f).cursor = s.cursor := rfl
@[simp] theorem modOven_config : (s.modOven i f).config = s.config := rfl
@[simp] theorem modOven_daypart : (s.modOven i f).daypart = s.daypart := rfl
@[simp] theorem modOven_watch (j : OvenId) : (s.modOven i f).watch j = s.watch j := rfl
@[simp] theorem modOven_cook (j : OvenId) : (s.modOven i f).cook j = s.cook j := rfl
@[simp] theorem modOven_slot (j : OvenId) : (s.modOven i f).slot j = s.slot j := rfl
@[simp] theorem modOven_cleanRecord (j : OvenId) : (s.modOven i f).cleanRecord j = s.cleanRecord j := rfl
@[simp] theorem modOven_update (j : OvenId) : (s.modOven i f).update j = s.update j := rfl
@[simp] theorem modOven_recipe (j : Fin 512) : (s.modOven i f).recipe j = s.recipe j := rfl
@[simp] theorem modOven_call (j : Fin 32) : (s.modOven i f).call j = s.call j := rfl
@[simp] theorem modOven_stepRec (j : Nat) : (s.modOven i f).stepRec j = s.stepRec j := rfl

end

/-! ### setWatch -/

section
variable (i : OvenId) (w : Option Watch)

@[simp] theorem setWatch_pending : (s.setWatch i w).pending = s.pending := rfl
@[simp] theorem setWatch_phase : (s.setWatch i w).phase = s.phase := rfl
@[simp] theorem setWatch_resetCause : (s.setWatch i w).resetCause = s.resetCause := rfl
@[simp] theorem setWatch_restoreResult : (s.setWatch i w).restoreResult = s.restoreResult := rfl
@[simp] theorem setWatch_image : (s.setWatch i w).image = s.image := rfl
@[simp] theorem setWatch_saveCount : (s.setWatch i w).saveCount = s.saveCount := rfl
@[simp] theorem setWatch_saving : (s.setWatch i w).saving = s.saving := rfl
@[simp] theorem setWatch_clearing : (s.setWatch i w).clearing = s.clearing := rfl
@[simp] theorem setWatch_softReset : (s.setWatch i w).softReset = s.softReset := rfl
@[simp] theorem setWatch_lineTime : (s.setWatch i w).lineTime = s.lineTime := rfl
@[simp] theorem setWatch_tickPhase : (s.setWatch i w).tickPhase = s.tickPhase := rfl
@[simp] theorem setWatch_ovens : (s.setWatch i w).ovens = s.ovens := rfl
@[simp] theorem setWatch_recipes : (s.setWatch i w).recipes = s.recipes := rfl
@[simp] theorem setWatch_steps : (s.setWatch i w).steps = s.steps := rfl
@[simp] theorem setWatch_cooks : (s.setWatch i w).cooks = s.cooks := rfl
@[simp] theorem setWatch_slots : (s.setWatch i w).slots = s.slots := rfl
@[simp] theorem setWatch_cleaning : (s.setWatch i w).cleaning = s.cleaning := rfl
@[simp] theorem setWatch_calls : (s.setWatch i w).calls = s.calls := rfl
@[simp] theorem setWatch_severity : (s.setWatch i w).severity = s.severity := rfl
@[simp] theorem setWatch_updates : (s.setWatch i w).updates = s.updates := rfl
@[simp] theorem setWatch_down : (s.setWatch i w).down = s.down := rfl
@[simp] theorem setWatch_classMap : (s.setWatch i w).classMap = s.classMap := rfl
@[simp] theorem setWatch_up : (s.setWatch i w).up = s.up := rfl
@[simp] theorem setWatch_gateway : (s.setWatch i w).gateway = s.gateway := rfl
@[simp] theorem setWatch_pause : (s.setWatch i w).pause = s.pause := rfl
@[simp] theorem setWatch_lineRx : (s.setWatch i w).lineRx = s.lineRx := rfl
@[simp] theorem setWatch_counters : (s.setWatch i w).counters = s.counters := rfl
@[simp] theorem setWatch_cursor : (s.setWatch i w).cursor = s.cursor := rfl
@[simp] theorem setWatch_config : (s.setWatch i w).config = s.config := rfl
@[simp] theorem setWatch_daypart : (s.setWatch i w).daypart = s.daypart := rfl
@[simp] theorem setWatch_oven (j : OvenId) : (s.setWatch i w).oven j = s.oven j := rfl
@[simp] theorem setWatch_cook (j : OvenId) : (s.setWatch i w).cook j = s.cook j := rfl
@[simp] theorem setWatch_slot (j : OvenId) : (s.setWatch i w).slot j = s.slot j := rfl
@[simp] theorem setWatch_cleanRecord (j : OvenId) : (s.setWatch i w).cleanRecord j = s.cleanRecord j := rfl
@[simp] theorem setWatch_update (j : OvenId) : (s.setWatch i w).update j = s.update j := rfl
@[simp] theorem setWatch_recipe (j : Fin 512) : (s.setWatch i w).recipe j = s.recipe j := rfl
@[simp] theorem setWatch_call (j : Fin 32) : (s.setWatch i w).call j = s.call j := rfl
@[simp] theorem setWatch_stepRec (j : Nat) : (s.setWatch i w).stepRec j = s.stepRec j := rfl

end

/-! ### modCook -/

section
variable (i : OvenId) (f : CookCtx → CookCtx)

@[simp] theorem modCook_pending : (s.modCook i f).pending = s.pending := rfl
@[simp] theorem modCook_phase : (s.modCook i f).phase = s.phase := rfl
@[simp] theorem modCook_resetCause : (s.modCook i f).resetCause = s.resetCause := rfl
@[simp] theorem modCook_restoreResult : (s.modCook i f).restoreResult = s.restoreResult := rfl
@[simp] theorem modCook_image : (s.modCook i f).image = s.image := rfl
@[simp] theorem modCook_saveCount : (s.modCook i f).saveCount = s.saveCount := rfl
@[simp] theorem modCook_saving : (s.modCook i f).saving = s.saving := rfl
@[simp] theorem modCook_clearing : (s.modCook i f).clearing = s.clearing := rfl
@[simp] theorem modCook_softReset : (s.modCook i f).softReset = s.softReset := rfl
@[simp] theorem modCook_lineTime : (s.modCook i f).lineTime = s.lineTime := rfl
@[simp] theorem modCook_tickPhase : (s.modCook i f).tickPhase = s.tickPhase := rfl
@[simp] theorem modCook_ovens : (s.modCook i f).ovens = s.ovens := rfl
@[simp] theorem modCook_watches : (s.modCook i f).watches = s.watches := rfl
@[simp] theorem modCook_recipes : (s.modCook i f).recipes = s.recipes := rfl
@[simp] theorem modCook_steps : (s.modCook i f).steps = s.steps := rfl
@[simp] theorem modCook_slots : (s.modCook i f).slots = s.slots := rfl
@[simp] theorem modCook_cleaning : (s.modCook i f).cleaning = s.cleaning := rfl
@[simp] theorem modCook_calls : (s.modCook i f).calls = s.calls := rfl
@[simp] theorem modCook_severity : (s.modCook i f).severity = s.severity := rfl
@[simp] theorem modCook_updates : (s.modCook i f).updates = s.updates := rfl
@[simp] theorem modCook_down : (s.modCook i f).down = s.down := rfl
@[simp] theorem modCook_classMap : (s.modCook i f).classMap = s.classMap := rfl
@[simp] theorem modCook_up : (s.modCook i f).up = s.up := rfl
@[simp] theorem modCook_gateway : (s.modCook i f).gateway = s.gateway := rfl
@[simp] theorem modCook_pause : (s.modCook i f).pause = s.pause := rfl
@[simp] theorem modCook_lineRx : (s.modCook i f).lineRx = s.lineRx := rfl
@[simp] theorem modCook_counters : (s.modCook i f).counters = s.counters := rfl
@[simp] theorem modCook_cursor : (s.modCook i f).cursor = s.cursor := rfl
@[simp] theorem modCook_config : (s.modCook i f).config = s.config := rfl
@[simp] theorem modCook_daypart : (s.modCook i f).daypart = s.daypart := rfl
@[simp] theorem modCook_oven (j : OvenId) : (s.modCook i f).oven j = s.oven j := rfl
@[simp] theorem modCook_watch (j : OvenId) : (s.modCook i f).watch j = s.watch j := rfl
@[simp] theorem modCook_slot (j : OvenId) : (s.modCook i f).slot j = s.slot j := rfl
@[simp] theorem modCook_cleanRecord (j : OvenId) : (s.modCook i f).cleanRecord j = s.cleanRecord j := rfl
@[simp] theorem modCook_update (j : OvenId) : (s.modCook i f).update j = s.update j := rfl
@[simp] theorem modCook_recipe (j : Fin 512) : (s.modCook i f).recipe j = s.recipe j := rfl
@[simp] theorem modCook_call (j : Fin 32) : (s.modCook i f).call j = s.call j := rfl
@[simp] theorem modCook_stepRec (j : Nat) : (s.modCook i f).stepRec j = s.stepRec j := rfl

end

/-! ### setSlot -/

section
variable (i : OvenId) (x : SlotState)

@[simp] theorem setSlot_pending : (s.setSlot i x).pending = s.pending := rfl
@[simp] theorem setSlot_phase : (s.setSlot i x).phase = s.phase := rfl
@[simp] theorem setSlot_resetCause : (s.setSlot i x).resetCause = s.resetCause := rfl
@[simp] theorem setSlot_restoreResult : (s.setSlot i x).restoreResult = s.restoreResult := rfl
@[simp] theorem setSlot_image : (s.setSlot i x).image = s.image := rfl
@[simp] theorem setSlot_saveCount : (s.setSlot i x).saveCount = s.saveCount := rfl
@[simp] theorem setSlot_saving : (s.setSlot i x).saving = s.saving := rfl
@[simp] theorem setSlot_clearing : (s.setSlot i x).clearing = s.clearing := rfl
@[simp] theorem setSlot_softReset : (s.setSlot i x).softReset = s.softReset := rfl
@[simp] theorem setSlot_lineTime : (s.setSlot i x).lineTime = s.lineTime := rfl
@[simp] theorem setSlot_tickPhase : (s.setSlot i x).tickPhase = s.tickPhase := rfl
@[simp] theorem setSlot_ovens : (s.setSlot i x).ovens = s.ovens := rfl
@[simp] theorem setSlot_watches : (s.setSlot i x).watches = s.watches := rfl
@[simp] theorem setSlot_recipes : (s.setSlot i x).recipes = s.recipes := rfl
@[simp] theorem setSlot_steps : (s.setSlot i x).steps = s.steps := rfl
@[simp] theorem setSlot_cooks : (s.setSlot i x).cooks = s.cooks := rfl
@[simp] theorem setSlot_cleaning : (s.setSlot i x).cleaning = s.cleaning := rfl
@[simp] theorem setSlot_calls : (s.setSlot i x).calls = s.calls := rfl
@[simp] theorem setSlot_severity : (s.setSlot i x).severity = s.severity := rfl
@[simp] theorem setSlot_updates : (s.setSlot i x).updates = s.updates := rfl
@[simp] theorem setSlot_down : (s.setSlot i x).down = s.down := rfl
@[simp] theorem setSlot_classMap : (s.setSlot i x).classMap = s.classMap := rfl
@[simp] theorem setSlot_up : (s.setSlot i x).up = s.up := rfl
@[simp] theorem setSlot_gateway : (s.setSlot i x).gateway = s.gateway := rfl
@[simp] theorem setSlot_pause : (s.setSlot i x).pause = s.pause := rfl
@[simp] theorem setSlot_lineRx : (s.setSlot i x).lineRx = s.lineRx := rfl
@[simp] theorem setSlot_counters : (s.setSlot i x).counters = s.counters := rfl
@[simp] theorem setSlot_cursor : (s.setSlot i x).cursor = s.cursor := rfl
@[simp] theorem setSlot_config : (s.setSlot i x).config = s.config := rfl
@[simp] theorem setSlot_daypart : (s.setSlot i x).daypart = s.daypart := rfl
@[simp] theorem setSlot_oven (j : OvenId) : (s.setSlot i x).oven j = s.oven j := rfl
@[simp] theorem setSlot_watch (j : OvenId) : (s.setSlot i x).watch j = s.watch j := rfl
@[simp] theorem setSlot_cook (j : OvenId) : (s.setSlot i x).cook j = s.cook j := rfl
@[simp] theorem setSlot_cleanRecord (j : OvenId) : (s.setSlot i x).cleanRecord j = s.cleanRecord j := rfl
@[simp] theorem setSlot_update (j : OvenId) : (s.setSlot i x).update j = s.update j := rfl
@[simp] theorem setSlot_recipe (j : Fin 512) : (s.setSlot i x).recipe j = s.recipe j := rfl
@[simp] theorem setSlot_call (j : Fin 32) : (s.setSlot i x).call j = s.call j := rfl
@[simp] theorem setSlot_stepRec (j : Nat) : (s.setSlot i x).stepRec j = s.stepRec j := rfl

end

/-! ### modCleanRecord -/

section
variable (i : OvenId) (f : CleanRecord → CleanRecord)

@[simp] theorem modCleanRecord_pending : (s.modCleanRecord i f).pending = s.pending := rfl
@[simp] theorem modCleanRecord_phase : (s.modCleanRecord i f).phase = s.phase := rfl
@[simp] theorem modCleanRecord_resetCause : (s.modCleanRecord i f).resetCause = s.resetCause := rfl
@[simp] theorem modCleanRecord_restoreResult : (s.modCleanRecord i f).restoreResult = s.restoreResult := rfl
@[simp] theorem modCleanRecord_image : (s.modCleanRecord i f).image = s.image := rfl
@[simp] theorem modCleanRecord_saveCount : (s.modCleanRecord i f).saveCount = s.saveCount := rfl
@[simp] theorem modCleanRecord_saving : (s.modCleanRecord i f).saving = s.saving := rfl
@[simp] theorem modCleanRecord_clearing : (s.modCleanRecord i f).clearing = s.clearing := rfl
@[simp] theorem modCleanRecord_softReset : (s.modCleanRecord i f).softReset = s.softReset := rfl
@[simp] theorem modCleanRecord_lineTime : (s.modCleanRecord i f).lineTime = s.lineTime := rfl
@[simp] theorem modCleanRecord_tickPhase : (s.modCleanRecord i f).tickPhase = s.tickPhase := rfl
@[simp] theorem modCleanRecord_ovens : (s.modCleanRecord i f).ovens = s.ovens := rfl
@[simp] theorem modCleanRecord_watches : (s.modCleanRecord i f).watches = s.watches := rfl
@[simp] theorem modCleanRecord_recipes : (s.modCleanRecord i f).recipes = s.recipes := rfl
@[simp] theorem modCleanRecord_steps : (s.modCleanRecord i f).steps = s.steps := rfl
@[simp] theorem modCleanRecord_cooks : (s.modCleanRecord i f).cooks = s.cooks := rfl
@[simp] theorem modCleanRecord_slots : (s.modCleanRecord i f).slots = s.slots := rfl
@[simp] theorem modCleanRecord_calls : (s.modCleanRecord i f).calls = s.calls := rfl
@[simp] theorem modCleanRecord_severity : (s.modCleanRecord i f).severity = s.severity := rfl
@[simp] theorem modCleanRecord_updates : (s.modCleanRecord i f).updates = s.updates := rfl
@[simp] theorem modCleanRecord_down : (s.modCleanRecord i f).down = s.down := rfl
@[simp] theorem modCleanRecord_classMap : (s.modCleanRecord i f).classMap = s.classMap := rfl
@[simp] theorem modCleanRecord_up : (s.modCleanRecord i f).up = s.up := rfl
@[simp] theorem modCleanRecord_gateway : (s.modCleanRecord i f).gateway = s.gateway := rfl
@[simp] theorem modCleanRecord_pause : (s.modCleanRecord i f).pause = s.pause := rfl
@[simp] theorem modCleanRecord_lineRx : (s.modCleanRecord i f).lineRx = s.lineRx := rfl
@[simp] theorem modCleanRecord_counters : (s.modCleanRecord i f).counters = s.counters := rfl
@[simp] theorem modCleanRecord_cursor : (s.modCleanRecord i f).cursor = s.cursor := rfl
@[simp] theorem modCleanRecord_config : (s.modCleanRecord i f).config = s.config := rfl
@[simp] theorem modCleanRecord_daypart : (s.modCleanRecord i f).daypart = s.daypart := rfl
@[simp] theorem modCleanRecord_oven (j : OvenId) : (s.modCleanRecord i f).oven j = s.oven j := rfl
@[simp] theorem modCleanRecord_watch (j : OvenId) : (s.modCleanRecord i f).watch j = s.watch j := rfl
@[simp] theorem modCleanRecord_cook (j : OvenId) : (s.modCleanRecord i f).cook j = s.cook j := rfl
@[simp] theorem modCleanRecord_slot (j : OvenId) : (s.modCleanRecord i f).slot j = s.slot j := rfl
@[simp] theorem modCleanRecord_update (j : OvenId) : (s.modCleanRecord i f).update j = s.update j := rfl
@[simp] theorem modCleanRecord_recipe (j : Fin 512) : (s.modCleanRecord i f).recipe j = s.recipe j := rfl
@[simp] theorem modCleanRecord_call (j : Fin 32) : (s.modCleanRecord i f).call j = s.call j := rfl
@[simp] theorem modCleanRecord_stepRec (j : Nat) : (s.modCleanRecord i f).stepRec j = s.stepRec j := rfl

end

/-! ### modUpdate -/

section
variable (i : OvenId) (f : UpdateCtx → UpdateCtx)

@[simp] theorem modUpdate_pending : (s.modUpdate i f).pending = s.pending := rfl
@[simp] theorem modUpdate_phase : (s.modUpdate i f).phase = s.phase := rfl
@[simp] theorem modUpdate_resetCause : (s.modUpdate i f).resetCause = s.resetCause := rfl
@[simp] theorem modUpdate_restoreResult : (s.modUpdate i f).restoreResult = s.restoreResult := rfl
@[simp] theorem modUpdate_image : (s.modUpdate i f).image = s.image := rfl
@[simp] theorem modUpdate_saveCount : (s.modUpdate i f).saveCount = s.saveCount := rfl
@[simp] theorem modUpdate_saving : (s.modUpdate i f).saving = s.saving := rfl
@[simp] theorem modUpdate_clearing : (s.modUpdate i f).clearing = s.clearing := rfl
@[simp] theorem modUpdate_softReset : (s.modUpdate i f).softReset = s.softReset := rfl
@[simp] theorem modUpdate_lineTime : (s.modUpdate i f).lineTime = s.lineTime := rfl
@[simp] theorem modUpdate_tickPhase : (s.modUpdate i f).tickPhase = s.tickPhase := rfl
@[simp] theorem modUpdate_ovens : (s.modUpdate i f).ovens = s.ovens := rfl
@[simp] theorem modUpdate_watches : (s.modUpdate i f).watches = s.watches := rfl
@[simp] theorem modUpdate_recipes : (s.modUpdate i f).recipes = s.recipes := rfl
@[simp] theorem modUpdate_steps : (s.modUpdate i f).steps = s.steps := rfl
@[simp] theorem modUpdate_cooks : (s.modUpdate i f).cooks = s.cooks := rfl
@[simp] theorem modUpdate_slots : (s.modUpdate i f).slots = s.slots := rfl
@[simp] theorem modUpdate_cleaning : (s.modUpdate i f).cleaning = s.cleaning := rfl
@[simp] theorem modUpdate_calls : (s.modUpdate i f).calls = s.calls := rfl
@[simp] theorem modUpdate_severity : (s.modUpdate i f).severity = s.severity := rfl
@[simp] theorem modUpdate_down : (s.modUpdate i f).down = s.down := rfl
@[simp] theorem modUpdate_classMap : (s.modUpdate i f).classMap = s.classMap := rfl
@[simp] theorem modUpdate_up : (s.modUpdate i f).up = s.up := rfl
@[simp] theorem modUpdate_gateway : (s.modUpdate i f).gateway = s.gateway := rfl
@[simp] theorem modUpdate_pause : (s.modUpdate i f).pause = s.pause := rfl
@[simp] theorem modUpdate_lineRx : (s.modUpdate i f).lineRx = s.lineRx := rfl
@[simp] theorem modUpdate_counters : (s.modUpdate i f).counters = s.counters := rfl
@[simp] theorem modUpdate_cursor : (s.modUpdate i f).cursor = s.cursor := rfl
@[simp] theorem modUpdate_config : (s.modUpdate i f).config = s.config := rfl
@[simp] theorem modUpdate_daypart : (s.modUpdate i f).daypart = s.daypart := rfl
@[simp] theorem modUpdate_oven (j : OvenId) : (s.modUpdate i f).oven j = s.oven j := rfl
@[simp] theorem modUpdate_watch (j : OvenId) : (s.modUpdate i f).watch j = s.watch j := rfl
@[simp] theorem modUpdate_cook (j : OvenId) : (s.modUpdate i f).cook j = s.cook j := rfl
@[simp] theorem modUpdate_slot (j : OvenId) : (s.modUpdate i f).slot j = s.slot j := rfl
@[simp] theorem modUpdate_cleanRecord (j : OvenId) : (s.modUpdate i f).cleanRecord j = s.cleanRecord j := rfl
@[simp] theorem modUpdate_recipe (j : Fin 512) : (s.modUpdate i f).recipe j = s.recipe j := rfl
@[simp] theorem modUpdate_call (j : Fin 32) : (s.modUpdate i f).call j = s.call j := rfl
@[simp] theorem modUpdate_stepRec (j : Nat) : (s.modUpdate i f).stepRec j = s.stepRec j := rfl

end

/-! ### modRecipe -/

section
variable (r : Fin 512) (f : RecipeEntry → RecipeEntry)

@[simp] theorem modRecipe_pending : (s.modRecipe r f).pending = s.pending := rfl
@[simp] theorem modRecipe_phase : (s.modRecipe r f).phase = s.phase := rfl
@[simp] theorem modRecipe_resetCause : (s.modRecipe r f).resetCause = s.resetCause := rfl
@[simp] theorem modRecipe_restoreResult : (s.modRecipe r f).restoreResult = s.restoreResult := rfl
@[simp] theorem modRecipe_image : (s.modRecipe r f).image = s.image := rfl
@[simp] theorem modRecipe_saveCount : (s.modRecipe r f).saveCount = s.saveCount := rfl
@[simp] theorem modRecipe_saving : (s.modRecipe r f).saving = s.saving := rfl
@[simp] theorem modRecipe_clearing : (s.modRecipe r f).clearing = s.clearing := rfl
@[simp] theorem modRecipe_softReset : (s.modRecipe r f).softReset = s.softReset := rfl
@[simp] theorem modRecipe_lineTime : (s.modRecipe r f).lineTime = s.lineTime := rfl
@[simp] theorem modRecipe_tickPhase : (s.modRecipe r f).tickPhase = s.tickPhase := rfl
@[simp] theorem modRecipe_ovens : (s.modRecipe r f).ovens = s.ovens := rfl
@[simp] theorem modRecipe_watches : (s.modRecipe r f).watches = s.watches := rfl
@[simp] theorem modRecipe_steps : (s.modRecipe r f).steps = s.steps := rfl
@[simp] theorem modRecipe_cooks : (s.modRecipe r f).cooks = s.cooks := rfl
@[simp] theorem modRecipe_slots : (s.modRecipe r f).slots = s.slots := rfl
@[simp] theorem modRecipe_cleaning : (s.modRecipe r f).cleaning = s.cleaning := rfl
@[simp] theorem modRecipe_calls : (s.modRecipe r f).calls = s.calls := rfl
@[simp] theorem modRecipe_severity : (s.modRecipe r f).severity = s.severity := rfl
@[simp] theorem modRecipe_updates : (s.modRecipe r f).updates = s.updates := rfl
@[simp] theorem modRecipe_down : (s.modRecipe r f).down = s.down := rfl
@[simp] theorem modRecipe_classMap : (s.modRecipe r f).classMap = s.classMap := rfl
@[simp] theorem modRecipe_up : (s.modRecipe r f).up = s.up := rfl
@[simp] theorem modRecipe_gateway : (s.modRecipe r f).gateway = s.gateway := rfl
@[simp] theorem modRecipe_pause : (s.modRecipe r f).pause = s.pause := rfl
@[simp] theorem modRecipe_lineRx : (s.modRecipe r f).lineRx = s.lineRx := rfl
@[simp] theorem modRecipe_counters : (s.modRecipe r f).counters = s.counters := rfl
@[simp] theorem modRecipe_cursor : (s.modRecipe r f).cursor = s.cursor := rfl
@[simp] theorem modRecipe_config : (s.modRecipe r f).config = s.config := rfl
@[simp] theorem modRecipe_daypart : (s.modRecipe r f).daypart = s.daypart := rfl
@[simp] theorem modRecipe_oven (j : OvenId) : (s.modRecipe r f).oven j = s.oven j := rfl
@[simp] theorem modRecipe_watch (j : OvenId) : (s.modRecipe r f).watch j = s.watch j := rfl
@[simp] theorem modRecipe_cook (j : OvenId) : (s.modRecipe r f).cook j = s.cook j := rfl
@[simp] theorem modRecipe_slot (j : OvenId) : (s.modRecipe r f).slot j = s.slot j := rfl
@[simp] theorem modRecipe_cleanRecord (j : OvenId) : (s.modRecipe r f).cleanRecord j = s.cleanRecord j := rfl
@[simp] theorem modRecipe_update (j : OvenId) : (s.modRecipe r f).update j = s.update j := rfl
@[simp] theorem modRecipe_call (j : Fin 32) : (s.modRecipe r f).call j = s.call j := rfl
@[simp] theorem modRecipe_stepRec (j : Nat) : (s.modRecipe r f).stepRec j = s.stepRec j := rfl

end

/-! ### pushUp -/

section
variable (k : KFrame)

@[simp] theorem pushUp_pending : (s.pushUp k).pending = s.pending := rfl
@[simp] theorem pushUp_phase : (s.pushUp k).phase = s.phase := rfl
@[simp] theorem pushUp_resetCause : (s.pushUp k).resetCause = s.resetCause := rfl
@[simp] theorem pushUp_restoreResult : (s.pushUp k).restoreResult = s.restoreResult := rfl
@[simp] theorem pushUp_image : (s.pushUp k).image = s.image := rfl
@[simp] theorem pushUp_saveCount : (s.pushUp k).saveCount = s.saveCount := rfl
@[simp] theorem pushUp_saving : (s.pushUp k).saving = s.saving := rfl
@[simp] theorem pushUp_clearing : (s.pushUp k).clearing = s.clearing := rfl
@[simp] theorem pushUp_softReset : (s.pushUp k).softReset = s.softReset := rfl
@[simp] theorem pushUp_lineTime : (s.pushUp k).lineTime = s.lineTime := rfl
@[simp] theorem pushUp_tickPhase : (s.pushUp k).tickPhase = s.tickPhase := rfl
@[simp] theorem pushUp_ovens : (s.pushUp k).ovens = s.ovens := rfl
@[simp] theorem pushUp_watches : (s.pushUp k).watches = s.watches := rfl
@[simp] theorem pushUp_recipes : (s.pushUp k).recipes = s.recipes := rfl
@[simp] theorem pushUp_steps : (s.pushUp k).steps = s.steps := rfl
@[simp] theorem pushUp_cooks : (s.pushUp k).cooks = s.cooks := rfl
@[simp] theorem pushUp_slots : (s.pushUp k).slots = s.slots := rfl
@[simp] theorem pushUp_cleaning : (s.pushUp k).cleaning = s.cleaning := rfl
@[simp] theorem pushUp_calls : (s.pushUp k).calls = s.calls := rfl
@[simp] theorem pushUp_severity : (s.pushUp k).severity = s.severity := rfl
@[simp] theorem pushUp_updates : (s.pushUp k).updates = s.updates := rfl
@[simp] theorem pushUp_down : (s.pushUp k).down = s.down := rfl
@[simp] theorem pushUp_classMap : (s.pushUp k).classMap = s.classMap := rfl
@[simp] theorem pushUp_gateway : (s.pushUp k).gateway = s.gateway := rfl
@[simp] theorem pushUp_pause : (s.pushUp k).pause = s.pause := rfl
@[simp] theorem pushUp_lineRx : (s.pushUp k).lineRx = s.lineRx := rfl
@[simp] theorem pushUp_counters : (s.pushUp k).counters = s.counters := rfl
@[simp] theorem pushUp_cursor : (s.pushUp k).cursor = s.cursor := rfl
@[simp] theorem pushUp_config : (s.pushUp k).config = s.config := rfl
@[simp] theorem pushUp_daypart : (s.pushUp k).daypart = s.daypart := rfl
@[simp] theorem pushUp_oven (j : OvenId) : (s.pushUp k).oven j = s.oven j := rfl
@[simp] theorem pushUp_watch (j : OvenId) : (s.pushUp k).watch j = s.watch j := rfl
@[simp] theorem pushUp_cook (j : OvenId) : (s.pushUp k).cook j = s.cook j := rfl
@[simp] theorem pushUp_slot (j : OvenId) : (s.pushUp k).slot j = s.slot j := rfl
@[simp] theorem pushUp_cleanRecord (j : OvenId) : (s.pushUp k).cleanRecord j = s.cleanRecord j := rfl
@[simp] theorem pushUp_update (j : OvenId) : (s.pushUp k).update j = s.update j := rfl
@[simp] theorem pushUp_recipe (j : Fin 512) : (s.pushUp k).recipe j = s.recipe j := rfl
@[simp] theorem pushUp_call (j : Fin 32) : (s.pushUp k).call j = s.call j := rfl
@[simp] theorem pushUp_stepRec (j : Nat) : (s.pushUp k).stepRec j = s.stepRec j := rfl

end

/-! ### pushDown -/

section
variable (k : Fin 4) (f : DownFrame)

@[simp] theorem pushDown_pending : (s.pushDown k f).pending = s.pending := rfl
@[simp] theorem pushDown_phase : (s.pushDown k f).phase = s.phase := rfl
@[simp] theorem pushDown_resetCause : (s.pushDown k f).resetCause = s.resetCause := rfl
@[simp] theorem pushDown_restoreResult : (s.pushDown k f).restoreResult = s.restoreResult := rfl
@[simp] theorem pushDown_image : (s.pushDown k f).image = s.image := rfl
@[simp] theorem pushDown_saveCount : (s.pushDown k f).saveCount = s.saveCount := rfl
@[simp] theorem pushDown_saving : (s.pushDown k f).saving = s.saving := rfl
@[simp] theorem pushDown_clearing : (s.pushDown k f).clearing = s.clearing := rfl
@[simp] theorem pushDown_softReset : (s.pushDown k f).softReset = s.softReset := rfl
@[simp] theorem pushDown_lineTime : (s.pushDown k f).lineTime = s.lineTime := rfl
@[simp] theorem pushDown_tickPhase : (s.pushDown k f).tickPhase = s.tickPhase := rfl
@[simp] theorem pushDown_ovens : (s.pushDown k f).ovens = s.ovens := rfl
@[simp] theorem pushDown_watches : (s.pushDown k f).watches = s.watches := rfl
@[simp] theorem pushDown_recipes : (s.pushDown k f).recipes = s.recipes := rfl
@[simp] theorem pushDown_steps : (s.pushDown k f).steps = s.steps := rfl
@[simp] theorem pushDown_cooks : (s.pushDown k f).cooks = s.cooks := rfl
@[simp] theorem pushDown_slots : (s.pushDown k f).slots = s.slots := rfl
@[simp] theorem pushDown_cleaning : (s.pushDown k f).cleaning = s.cleaning := rfl
@[simp] theorem pushDown_calls : (s.pushDown k f).calls = s.calls := rfl
@[simp] theorem pushDown_severity : (s.pushDown k f).severity = s.severity := rfl
@[simp] theorem pushDown_updates : (s.pushDown k f).updates = s.updates := rfl
@[simp] theorem pushDown_classMap : (s.pushDown k f).classMap = s.classMap := rfl
@[simp] theorem pushDown_up : (s.pushDown k f).up = s.up := rfl
@[simp] theorem pushDown_gateway : (s.pushDown k f).gateway = s.gateway := rfl
@[simp] theorem pushDown_pause : (s.pushDown k f).pause = s.pause := rfl
@[simp] theorem pushDown_lineRx : (s.pushDown k f).lineRx = s.lineRx := rfl
@[simp] theorem pushDown_counters : (s.pushDown k f).counters = s.counters := rfl
@[simp] theorem pushDown_cursor : (s.pushDown k f).cursor = s.cursor := rfl
@[simp] theorem pushDown_config : (s.pushDown k f).config = s.config := rfl
@[simp] theorem pushDown_daypart : (s.pushDown k f).daypart = s.daypart := rfl
@[simp] theorem pushDown_oven (j : OvenId) : (s.pushDown k f).oven j = s.oven j := rfl
@[simp] theorem pushDown_watch (j : OvenId) : (s.pushDown k f).watch j = s.watch j := rfl
@[simp] theorem pushDown_cook (j : OvenId) : (s.pushDown k f).cook j = s.cook j := rfl
@[simp] theorem pushDown_slot (j : OvenId) : (s.pushDown k f).slot j = s.slot j := rfl
@[simp] theorem pushDown_cleanRecord (j : OvenId) : (s.pushDown k f).cleanRecord j = s.cleanRecord j := rfl
@[simp] theorem pushDown_update (j : OvenId) : (s.pushDown k f).update j = s.update j := rfl
@[simp] theorem pushDown_recipe (j : Fin 512) : (s.pushDown k f).recipe j = s.recipe j := rfl
@[simp] theorem pushDown_call (j : Fin 32) : (s.pushDown k f).call j = s.call j := rfl
@[simp] theorem pushDown_stepRec (j : Nat) : (s.pushDown k f).stepRec j = s.stepRec j := rfl

end

/-! ### setCall -/

section
variable (p : Fin 32) (c : Option Call)

@[simp] theorem setCall_pending : (s.setCall p c).pending = s.pending := rfl
@[simp] theorem setCall_phase : (s.setCall p c).phase = s.phase := rfl
@[simp] theorem setCall_resetCause : (s.setCall p c).resetCause = s.resetCause := rfl
@[simp] theorem setCall_restoreResult : (s.setCall p c).restoreResult = s.restoreResult := rfl
@[simp] theorem setCall_image : (s.setCall p c).image = s.image := rfl
@[simp] theorem setCall_saveCount : (s.setCall p c).saveCount = s.saveCount := rfl
@[simp] theorem setCall_saving : (s.setCall p c).saving = s.saving := rfl
@[simp] theorem setCall_clearing : (s.setCall p c).clearing = s.clearing := rfl
@[simp] theorem setCall_softReset : (s.setCall p c).softReset = s.softReset := rfl
@[simp] theorem setCall_lineTime : (s.setCall p c).lineTime = s.lineTime := rfl
@[simp] theorem setCall_tickPhase : (s.setCall p c).tickPhase = s.tickPhase := rfl
@[simp] theorem setCall_ovens : (s.setCall p c).ovens = s.ovens := rfl
@[simp] theorem setCall_watches : (s.setCall p c).watches = s.watches := rfl
@[simp] theorem setCall_recipes : (s.setCall p c).recipes = s.recipes := rfl
@[simp] theorem setCall_steps : (s.setCall p c).steps = s.steps := rfl
@[simp] theorem setCall_cooks : (s.setCall p c).cooks = s.cooks := rfl
@[simp] theorem setCall_slots : (s.setCall p c).slots = s.slots := rfl
@[simp] theorem setCall_cleaning : (s.setCall p c).cleaning = s.cleaning := rfl
@[simp] theorem setCall_severity : (s.setCall p c).severity = s.severity := rfl
@[simp] theorem setCall_updates : (s.setCall p c).updates = s.updates := rfl
@[simp] theorem setCall_down : (s.setCall p c).down = s.down := rfl
@[simp] theorem setCall_classMap : (s.setCall p c).classMap = s.classMap := rfl
@[simp] theorem setCall_up : (s.setCall p c).up = s.up := rfl
@[simp] theorem setCall_gateway : (s.setCall p c).gateway = s.gateway := rfl
@[simp] theorem setCall_pause : (s.setCall p c).pause = s.pause := rfl
@[simp] theorem setCall_lineRx : (s.setCall p c).lineRx = s.lineRx := rfl
@[simp] theorem setCall_counters : (s.setCall p c).counters = s.counters := rfl
@[simp] theorem setCall_cursor : (s.setCall p c).cursor = s.cursor := rfl
@[simp] theorem setCall_config : (s.setCall p c).config = s.config := rfl
@[simp] theorem setCall_daypart : (s.setCall p c).daypart = s.daypart := rfl
@[simp] theorem setCall_oven (j : OvenId) : (s.setCall p c).oven j = s.oven j := rfl
@[simp] theorem setCall_watch (j : OvenId) : (s.setCall p c).watch j = s.watch j := rfl
@[simp] theorem setCall_cook (j : OvenId) : (s.setCall p c).cook j = s.cook j := rfl
@[simp] theorem setCall_slot (j : OvenId) : (s.setCall p c).slot j = s.slot j := rfl
@[simp] theorem setCall_cleanRecord (j : OvenId) : (s.setCall p c).cleanRecord j = s.cleanRecord j := rfl
@[simp] theorem setCall_update (j : OvenId) : (s.setCall p c).update j = s.update j := rfl
@[simp] theorem setCall_recipe (j : Fin 512) : (s.setCall p c).recipe j = s.recipe j := rfl
@[simp] theorem setCall_stepRec (j : Nat) : (s.setCall p c).stepRec j = s.stepRec j := rfl

end

/-! ### setOverflow -/

section
variable (i : OvenId) (b : Bool)

@[simp] theorem setOverflow_pending : (s.setOverflow i b).pending = s.pending := rfl
@[simp] theorem setOverflow_phase : (s.setOverflow i b).phase = s.phase := rfl
@[simp] theorem setOverflow_resetCause : (s.setOverflow i b).resetCause = s.resetCause := rfl
@[simp] theorem setOverflow_restoreResult : (s.setOverflow i b).restoreResult = s.restoreResult := rfl
@[simp] theorem setOverflow_image : (s.setOverflow i b).image = s.image := rfl
@[simp] theorem setOverflow_saveCount : (s.setOverflow i b).saveCount = s.saveCount := rfl
@[simp] theorem setOverflow_saving : (s.setOverflow i b).saving = s.saving := rfl
@[simp] theorem setOverflow_clearing : (s.setOverflow i b).clearing = s.clearing := rfl
@[simp] theorem setOverflow_softReset : (s.setOverflow i b).softReset = s.softReset := rfl
@[simp] theorem setOverflow_lineTime : (s.setOverflow i b).lineTime = s.lineTime := rfl
@[simp] theorem setOverflow_tickPhase : (s.setOverflow i b).tickPhase = s.tickPhase := rfl
@[simp] theorem setOverflow_ovens : (s.setOverflow i b).ovens = s.ovens := rfl
@[simp] theorem setOverflow_watches : (s.setOverflow i b).watches = s.watches := rfl
@[simp] theorem setOverflow_recipes : (s.setOverflow i b).recipes = s.recipes := rfl
@[simp] theorem setOverflow_steps : (s.setOverflow i b).steps = s.steps := rfl
@[simp] theorem setOverflow_cooks : (s.setOverflow i b).cooks = s.cooks := rfl
@[simp] theorem setOverflow_slots : (s.setOverflow i b).slots = s.slots := rfl
@[simp] theorem setOverflow_cleaning : (s.setOverflow i b).cleaning = s.cleaning := rfl
@[simp] theorem setOverflow_severity : (s.setOverflow i b).severity = s.severity := rfl
@[simp] theorem setOverflow_updates : (s.setOverflow i b).updates = s.updates := rfl
@[simp] theorem setOverflow_down : (s.setOverflow i b).down = s.down := rfl
@[simp] theorem setOverflow_classMap : (s.setOverflow i b).classMap = s.classMap := rfl
@[simp] theorem setOverflow_up : (s.setOverflow i b).up = s.up := rfl
@[simp] theorem setOverflow_gateway : (s.setOverflow i b).gateway = s.gateway := rfl
@[simp] theorem setOverflow_pause : (s.setOverflow i b).pause = s.pause := rfl
@[simp] theorem setOverflow_lineRx : (s.setOverflow i b).lineRx = s.lineRx := rfl
@[simp] theorem setOverflow_counters : (s.setOverflow i b).counters = s.counters := rfl
@[simp] theorem setOverflow_cursor : (s.setOverflow i b).cursor = s.cursor := rfl
@[simp] theorem setOverflow_config : (s.setOverflow i b).config = s.config := rfl
@[simp] theorem setOverflow_daypart : (s.setOverflow i b).daypart = s.daypart := rfl
@[simp] theorem setOverflow_oven (j : OvenId) : (s.setOverflow i b).oven j = s.oven j := rfl
@[simp] theorem setOverflow_watch (j : OvenId) : (s.setOverflow i b).watch j = s.watch j := rfl
@[simp] theorem setOverflow_cook (j : OvenId) : (s.setOverflow i b).cook j = s.cook j := rfl
@[simp] theorem setOverflow_slot (j : OvenId) : (s.setOverflow i b).slot j = s.slot j := rfl
@[simp] theorem setOverflow_cleanRecord (j : OvenId) : (s.setOverflow i b).cleanRecord j = s.cleanRecord j := rfl
@[simp] theorem setOverflow_update (j : OvenId) : (s.setOverflow i b).update j = s.update j := rfl
@[simp] theorem setOverflow_recipe (j : Fin 512) : (s.setOverflow i b).recipe j = s.recipe j := rfl
@[simp] theorem setOverflow_stepRec (j : Nat) : (s.setOverflow i b).stepRec j = s.stepRec j := rfl

end

/-! ### moveCursor -/

section
variable (t : TableId) (k : Nat)

@[simp] theorem moveCursor_pending : (s.moveCursor t k).pending = s.pending := rfl
@[simp] theorem moveCursor_phase : (s.moveCursor t k).phase = s.phase := rfl
@[simp] theorem moveCursor_resetCause : (s.moveCursor t k).resetCause = s.resetCause := rfl
@[simp] theorem moveCursor_restoreResult : (s.moveCursor t k).restoreResult = s.restoreResult := rfl
@[simp] theorem moveCursor_image : (s.moveCursor t k).image = s.image := rfl
@[simp] theorem moveCursor_saveCount : (s.moveCursor t k).saveCount = s.saveCount := rfl
@[simp] theorem moveCursor_saving : (s.moveCursor t k).saving = s.saving := rfl
@[simp] theorem moveCursor_clearing : (s.moveCursor t k).clearing = s.clearing := rfl
@[simp] theorem moveCursor_softReset : (s.moveCursor t k).softReset = s.softReset := rfl
@[simp] theorem moveCursor_lineTime : (s.moveCursor t k).lineTime = s.lineTime := rfl
@[simp] theorem moveCursor_tickPhase : (s.moveCursor t k).tickPhase = s.tickPhase := rfl
@[simp] theorem moveCursor_ovens : (s.moveCursor t k).ovens = s.ovens := rfl
@[simp] theorem moveCursor_watches : (s.moveCursor t k).watches = s.watches := rfl
@[simp] theorem moveCursor_recipes : (s.moveCursor t k).recipes = s.recipes := rfl
@[simp] theorem moveCursor_steps : (s.moveCursor t k).steps = s.steps := rfl
@[simp] theorem moveCursor_cooks : (s.moveCursor t k).cooks = s.cooks := rfl
@[simp] theorem moveCursor_slots : (s.moveCursor t k).slots = s.slots := rfl
@[simp] theorem moveCursor_cleaning : (s.moveCursor t k).cleaning = s.cleaning := rfl
@[simp] theorem moveCursor_calls : (s.moveCursor t k).calls = s.calls := rfl
@[simp] theorem moveCursor_severity : (s.moveCursor t k).severity = s.severity := rfl
@[simp] theorem moveCursor_updates : (s.moveCursor t k).updates = s.updates := rfl
@[simp] theorem moveCursor_down : (s.moveCursor t k).down = s.down := rfl
@[simp] theorem moveCursor_classMap : (s.moveCursor t k).classMap = s.classMap := rfl
@[simp] theorem moveCursor_up : (s.moveCursor t k).up = s.up := rfl
@[simp] theorem moveCursor_gateway : (s.moveCursor t k).gateway = s.gateway := rfl
@[simp] theorem moveCursor_pause : (s.moveCursor t k).pause = s.pause := rfl
@[simp] theorem moveCursor_lineRx : (s.moveCursor t k).lineRx = s.lineRx := rfl
@[simp] theorem moveCursor_counters : (s.moveCursor t k).counters = s.counters := rfl
@[simp] theorem moveCursor_config : (s.moveCursor t k).config = s.config := rfl
@[simp] theorem moveCursor_daypart : (s.moveCursor t k).daypart = s.daypart := rfl
@[simp] theorem moveCursor_oven (j : OvenId) : (s.moveCursor t k).oven j = s.oven j := rfl
@[simp] theorem moveCursor_watch (j : OvenId) : (s.moveCursor t k).watch j = s.watch j := rfl
@[simp] theorem moveCursor_cook (j : OvenId) : (s.moveCursor t k).cook j = s.cook j := rfl
@[simp] theorem moveCursor_slot (j : OvenId) : (s.moveCursor t k).slot j = s.slot j := rfl
@[simp] theorem moveCursor_cleanRecord (j : OvenId) : (s.moveCursor t k).cleanRecord j = s.cleanRecord j := rfl
@[simp] theorem moveCursor_update (j : OvenId) : (s.moveCursor t k).update j = s.update j := rfl
@[simp] theorem moveCursor_recipe (j : Fin 512) : (s.moveCursor t k).recipe j = s.recipe j := rfl
@[simp] theorem moveCursor_call (j : Fin 32) : (s.moveCursor t k).call j = s.call j := rfl
@[simp] theorem moveCursor_stepRec (j : Nat) : (s.moveCursor t k).stepRec j = s.stepRec j := rfl

end

/-! ### modDiscards -/

section
variable (f : Discards → Discards)

@[simp] theorem modDiscards_pending : (s.modDiscards f).pending = s.pending := rfl
@[simp] theorem modDiscards_phase : (s.modDiscards f).phase = s.phase := rfl
@[simp] theorem modDiscards_resetCause : (s.modDiscards f).resetCause = s.resetCause := rfl
@[simp] theorem modDiscards_restoreResult : (s.modDiscards f).restoreResult = s.restoreResult := rfl
@[simp] theorem modDiscards_image : (s.modDiscards f).image = s.image := rfl
@[simp] theorem modDiscards_saveCount : (s.modDiscards f).saveCount = s.saveCount := rfl
@[simp] theorem modDiscards_saving : (s.modDiscards f).saving = s.saving := rfl
@[simp] theorem modDiscards_clearing : (s.modDiscards f).clearing = s.clearing := rfl
@[simp] theorem modDiscards_softReset : (s.modDiscards f).softReset = s.softReset := rfl
@[simp] theorem modDiscards_lineTime : (s.modDiscards f).lineTime = s.lineTime := rfl
@[simp] theorem modDiscards_tickPhase : (s.modDiscards f).tickPhase = s.tickPhase := rfl
@[simp] theorem modDiscards_ovens : (s.modDiscards f).ovens = s.ovens := rfl
@[simp] theorem modDiscards_watches : (s.modDiscards f).watches = s.watches := rfl
@[simp] theorem modDiscards_recipes : (s.modDiscards f).recipes = s.recipes := rfl
@[simp] theorem modDiscards_steps : (s.modDiscards f).steps = s.steps := rfl
@[simp] theorem modDiscards_cooks : (s.modDiscards f).cooks = s.cooks := rfl
@[simp] theorem modDiscards_slots : (s.modDiscards f).slots = s.slots := rfl
@[simp] theorem modDiscards_cleaning : (s.modDiscards f).cleaning = s.cleaning := rfl
@[simp] theorem modDiscards_calls : (s.modDiscards f).calls = s.calls := rfl
@[simp] theorem modDiscards_severity : (s.modDiscards f).severity = s.severity := rfl
@[simp] theorem modDiscards_updates : (s.modDiscards f).updates = s.updates := rfl
@[simp] theorem modDiscards_down : (s.modDiscards f).down = s.down := rfl
@[simp] theorem modDiscards_classMap : (s.modDiscards f).classMap = s.classMap := rfl
@[simp] theorem modDiscards_up : (s.modDiscards f).up = s.up := rfl
@[simp] theorem modDiscards_gateway : (s.modDiscards f).gateway = s.gateway := rfl
@[simp] theorem modDiscards_pause : (s.modDiscards f).pause = s.pause := rfl
@[simp] theorem modDiscards_lineRx : (s.modDiscards f).lineRx = s.lineRx := rfl
@[simp] theorem modDiscards_cursor : (s.modDiscards f).cursor = s.cursor := rfl
@[simp] theorem modDiscards_config : (s.modDiscards f).config = s.config := rfl
@[simp] theorem modDiscards_daypart : (s.modDiscards f).daypart = s.daypart := rfl
@[simp] theorem modDiscards_oven (j : OvenId) : (s.modDiscards f).oven j = s.oven j := rfl
@[simp] theorem modDiscards_watch (j : OvenId) : (s.modDiscards f).watch j = s.watch j := rfl
@[simp] theorem modDiscards_cook (j : OvenId) : (s.modDiscards f).cook j = s.cook j := rfl
@[simp] theorem modDiscards_slot (j : OvenId) : (s.modDiscards f).slot j = s.slot j := rfl
@[simp] theorem modDiscards_cleanRecord (j : OvenId) : (s.modDiscards f).cleanRecord j = s.cleanRecord j := rfl
@[simp] theorem modDiscards_update (j : OvenId) : (s.modDiscards f).update j = s.update j := rfl
@[simp] theorem modDiscards_recipe (j : Fin 512) : (s.modDiscards f).recipe j = s.recipe j := rfl
@[simp] theorem modDiscards_call (j : Fin 32) : (s.modDiscards f).call j = s.call j := rfl
@[simp] theorem modDiscards_stepRec (j : Nat) : (s.modDiscards f).stepRec j = s.stepRec j := rfl

end

/-! ### What an update writes -/

@[simp] theorem modOven_self (i : OvenId) (f : OvenEntry → OvenEntry) : (s.modOven i f).oven i = f (s.oven i) := by
  simp [modOven, oven]

theorem modOven_other (i j : OvenId) (f : OvenEntry → OvenEntry) (h : i ≠ j) :
    (s.modOven i f).oven j = s.oven j := by
  have : i.val ≠ j.val := fun e => h (Fin.ext e)
  simp [modOven, oven, this]

@[simp] theorem modCook_self (i : OvenId) (f : CookCtx → CookCtx) : (s.modCook i f).cook i = f (s.cook i) := by
  simp [modCook, cook]

theorem modCook_other (i j : OvenId) (f : CookCtx → CookCtx) (h : i ≠ j) :
    (s.modCook i f).cook j = s.cook j := by
  have : i.val ≠ j.val := fun e => h (Fin.ext e)
  simp [modCook, cook, this]

@[simp] theorem modUpdate_self (i : OvenId) (f : UpdateCtx → UpdateCtx) : (s.modUpdate i f).update i = f (s.update i) := by
  simp [modUpdate, update]

theorem modUpdate_other (i j : OvenId) (f : UpdateCtx → UpdateCtx) (h : i ≠ j) :
    (s.modUpdate i f).update j = s.update j := by
  have : i.val ≠ j.val := fun e => h (Fin.ext e)
  simp [modUpdate, update, this]

@[simp] theorem modCleanRecord_self (i : OvenId) (f : CleanRecord → CleanRecord) : (s.modCleanRecord i f).cleanRecord i = f (s.cleanRecord i) := by
  simp [modCleanRecord, cleanRecord]

theorem modCleanRecord_other (i j : OvenId) (f : CleanRecord → CleanRecord) (h : i ≠ j) :
    (s.modCleanRecord i f).cleanRecord j = s.cleanRecord j := by
  have : i.val ≠ j.val := fun e => h (Fin.ext e)
  simp [modCleanRecord, cleanRecord, this]

@[simp] theorem setWatch_self (i : OvenId) (x : Option Watch) : (s.setWatch i x).watch i = x := by
  simp [setWatch, watch]

theorem setWatch_other (i j : OvenId) (x : Option Watch) (h : i ≠ j) : (s.setWatch i x).watch j = s.watch j := by
  have : i.val ≠ j.val := fun e => h (Fin.ext e)
  simp [setWatch, watch, this]

@[simp] theorem setSlot_self (i : OvenId) (x : SlotState) : (s.setSlot i x).slot i = x := by
  simp [setSlot, slot]

theorem setSlot_other (i j : OvenId) (x : SlotState) (h : i ≠ j) : (s.setSlot i x).slot j = s.slot j := by
  have : i.val ≠ j.val := fun e => h (Fin.ext e)
  simp [setSlot, slot, this]

@[simp] theorem modRecipe_self (r : Fin 512) (f : RecipeEntry → RecipeEntry) :
    (s.modRecipe r f).recipe r = f (s.recipe r) := by
  simp [modRecipe, recipe]

theorem modRecipe_other (r q : Fin 512) (f : RecipeEntry → RecipeEntry) (h : r ≠ q) :
    (s.modRecipe r f).recipe q = s.recipe q := by
  have : r.val ≠ q.val := fun e => h (Fin.ext e)
  simp [modRecipe, recipe, this]

@[simp] theorem setCall_self (p : Fin 32) (c : Option Call) : (s.setCall p c).call p = c := by
  simp [setCall, call]

theorem setCall_other (p q : Fin 32) (c : Option Call) (h : p ≠ q) :
    (s.setCall p c).call q = s.call q := by
  have : p.val ≠ q.val := fun e => h (Fin.ext e)
  simp [setCall, call, this]

@[simp] theorem pushUp_frames (k : KFrame) : (s.pushUp k).up.frames = s.up.frames ++ [k] := rfl

@[simp] theorem moveCursor_cursor (t : TableId) (k : Nat) :
    (s.moveCursor t k).cursor = some { table := t, index := k } := rfl

@[simp] theorem modCleanRecord_queue (i : OvenId) (f : CleanRecord → CleanRecord) :
    (s.modCleanRecord i f).cleaning.queue = s.cleaning.queue := rfl

@[simp] theorem modCleanRecord_slotCount (i : OvenId) (f : CleanRecord → CleanRecord) :
    (s.modCleanRecord i f).cleaning.slotCount = s.cleaning.slotCount := rfl

/-! ### The three offers to the Upward Queue change it alone, and a forwarded frame its counter -/

section
variable (k : KFrame)

@[simp] theorem offerReply_pending : (s.offerReply k).pending = s.pending := by
  unfold offerReply; split <;> rfl
@[simp] theorem offerReport_pending : (s.offerReport k).pending = s.pending := by
  unfold offerReport; split <;> rfl
@[simp] theorem offerReply_phase : (s.offerReply k).phase = s.phase := by
  unfold offerReply; split <;> rfl
@[simp] theorem offerReport_phase : (s.offerReport k).phase = s.phase := by
  unfold offerReport; split <;> rfl
@[simp] theorem offerReply_resetCause : (s.offerReply k).resetCause = s.resetCause := by
  unfold offerReply; split <;> rfl
@[simp] theorem offerReport_resetCause : (s.offerReport k).resetCause = s.resetCause := by
  unfold offerReport; split <;> rfl
@[simp] theorem offerReply_restoreResult : (s.offerReply k).restoreResult = s.restoreResult := by
  unfold offerReply; split <;> rfl
@[simp] theorem offerReport_restoreResult : (s.offerReport k).restoreResult = s.restoreResult := by
  unfold offerReport; split <;> rfl
@[simp] theorem offerReply_image : (s.offerReply k).image = s.image := by
  unfold offerReply; split <;> rfl
@[simp] theorem offerReport_image : (s.offerReport k).image = s.image := by
  unfold offerReport; split <;> rfl
@[simp] theorem offerReply_saveCount : (s.offerReply k).saveCount = s.saveCount := by
  unfold offerReply; split <;> rfl
@[simp] theorem offerReport_saveCount : (s.offerReport k).saveCount = s.saveCount := by
  unfold offerReport; split <;> rfl
@[simp] theorem offerReply_saving : (s.offerReply k).saving = s.saving := by
  unfold offerReply; split <;> rfl
@[simp] theorem offerReport_saving : (s.offerReport k).saving = s.saving := by
  unfold offerReport; split <;> rfl
@[simp] theorem offerReply_clearing : (s.offerReply k).clearing = s.clearing := by
  unfold offerReply; split <;> rfl
@[simp] theorem offerReport_clearing : (s.offerReport k).clearing = s.clearing := by
  unfold offerReport; split <;> rfl
@[simp] theorem offerReply_softReset : (s.offerReply k).softReset = s.softReset := by
  unfold offerReply; split <;> rfl
@[simp] theorem offerReport_softReset : (s.offerReport k).softReset = s.softReset := by
  unfold offerReport; split <;> rfl
@[simp] theorem offerReply_lineTime : (s.offerReply k).lineTime = s.lineTime := by
  unfold offerReply; split <;> rfl
@[simp] theorem offerReport_lineTime : (s.offerReport k).lineTime = s.lineTime := by
  unfold offerReport; split <;> rfl
@[simp] theorem offerReply_tickPhase : (s.offerReply k).tickPhase = s.tickPhase := by
  unfold offerReply; split <;> rfl
@[simp] theorem offerReport_tickPhase : (s.offerReport k).tickPhase = s.tickPhase := by
  unfold offerReport; split <;> rfl
@[simp] theorem offerReply_ovens : (s.offerReply k).ovens = s.ovens := by
  unfold offerReply; split <;> rfl
@[simp] theorem offerReport_ovens : (s.offerReport k).ovens = s.ovens := by
  unfold offerReport; split <;> rfl
@[simp] theorem offerReply_watches : (s.offerReply k).watches = s.watches := by
  unfold offerReply; split <;> rfl
@[simp] theorem offerReport_watches : (s.offerReport k).watches = s.watches := by
  unfold offerReport; split <;> rfl
@[simp] theorem offerReply_recipes : (s.offerReply k).recipes = s.recipes := by
  unfold offerReply; split <;> rfl
@[simp] theorem offerReport_recipes : (s.offerReport k).recipes = s.recipes := by
  unfold offerReport; split <;> rfl
@[simp] theorem offerReply_steps : (s.offerReply k).steps = s.steps := by
  unfold offerReply; split <;> rfl
@[simp] theorem offerReport_steps : (s.offerReport k).steps = s.steps := by
  unfold offerReport; split <;> rfl
@[simp] theorem offerReply_cooks : (s.offerReply k).cooks = s.cooks := by
  unfold offerReply; split <;> rfl
@[simp] theorem offerReport_cooks : (s.offerReport k).cooks = s.cooks := by
  unfold offerReport; split <;> rfl
@[simp] theorem offerReply_slots : (s.offerReply k).slots = s.slots := by
  unfold offerReply; split <;> rfl
@[simp] theorem offerReport_slots : (s.offerReport k).slots = s.slots := by
  unfold offerReport; split <;> rfl
@[simp] theorem offerReply_cleaning : (s.offerReply k).cleaning = s.cleaning := by
  unfold offerReply; split <;> rfl
@[simp] theorem offerReport_cleaning : (s.offerReport k).cleaning = s.cleaning := by
  unfold offerReport; split <;> rfl
@[simp] theorem offerReply_calls : (s.offerReply k).calls = s.calls := by
  unfold offerReply; split <;> rfl
@[simp] theorem offerReport_calls : (s.offerReport k).calls = s.calls := by
  unfold offerReport; split <;> rfl
@[simp] theorem offerReply_severity : (s.offerReply k).severity = s.severity := by
  unfold offerReply; split <;> rfl
@[simp] theorem offerReport_severity : (s.offerReport k).severity = s.severity := by
  unfold offerReport; split <;> rfl
@[simp] theorem offerReply_updates : (s.offerReply k).updates = s.updates := by
  unfold offerReply; split <;> rfl
@[simp] theorem offerReport_updates : (s.offerReport k).updates = s.updates := by
  unfold offerReport; split <;> rfl
@[simp] theorem offerReply_down : (s.offerReply k).down = s.down := by
  unfold offerReply; split <;> rfl
@[simp] theorem offerReport_down : (s.offerReport k).down = s.down := by
  unfold offerReport; split <;> rfl
@[simp] theorem offerReply_classMap : (s.offerReply k).classMap = s.classMap := by
  unfold offerReply; split <;> rfl
@[simp] theorem offerReport_classMap : (s.offerReport k).classMap = s.classMap := by
  unfold offerReport; split <;> rfl
@[simp] theorem offerReply_gateway : (s.offerReply k).gateway = s.gateway := by
  unfold offerReply; split <;> rfl
@[simp] theorem offerReport_gateway : (s.offerReport k).gateway = s.gateway := by
  unfold offerReport; split <;> rfl
@[simp] theorem offerReply_pause : (s.offerReply k).pause = s.pause := by
  unfold offerReply; split <;> rfl
@[simp] theorem offerReport_pause : (s.offerReport k).pause = s.pause := by
  unfold offerReport; split <;> rfl
@[simp] theorem offerReply_lineRx : (s.offerReply k).lineRx = s.lineRx := by
  unfold offerReply; split <;> rfl
@[simp] theorem offerReport_lineRx : (s.offerReport k).lineRx = s.lineRx := by
  unfold offerReport; split <;> rfl
@[simp] theorem offerReply_counters : (s.offerReply k).counters = s.counters := by
  unfold offerReply; split <;> rfl
@[simp] theorem offerReport_counters : (s.offerReport k).counters = s.counters := by
  unfold offerReport; split <;> rfl
@[simp] theorem offerReply_cursor : (s.offerReply k).cursor = s.cursor := by
  unfold offerReply; split <;> rfl
@[simp] theorem offerReport_cursor : (s.offerReport k).cursor = s.cursor := by
  unfold offerReport; split <;> rfl
@[simp] theorem offerReply_config : (s.offerReply k).config = s.config := by
  unfold offerReply; split <;> rfl
@[simp] theorem offerReport_config : (s.offerReport k).config = s.config := by
  unfold offerReport; split <;> rfl
@[simp] theorem offerReply_daypart : (s.offerReply k).daypart = s.daypart := by
  unfold offerReply; split <;> rfl
@[simp] theorem offerReport_daypart : (s.offerReport k).daypart = s.daypart := by
  unfold offerReport; split <;> rfl
@[simp] theorem offerForward_pending (i : OvenId) : (s.offerForward i k).pending = s.pending := by
  unfold offerForward; split <;> rfl
@[simp] theorem offerForward_phase (i : OvenId) : (s.offerForward i k).phase = s.phase := by
  unfold offerForward; split <;> rfl
@[simp] theorem offerForward_resetCause (i : OvenId) : (s.offerForward i k).resetCause = s.resetCause := by
  unfold offerForward; split <;> rfl
@[simp] theorem offerForward_restoreResult (i : OvenId) : (s.offerForward i k).restoreResult = s.restoreResult := by
  unfold offerForward; split <;> rfl
@[simp] theorem offerForward_image (i : OvenId) : (s.offerForward i k).image = s.image := by
  unfold offerForward; split <;> rfl
@[simp] theorem offerForward_saveCount (i : OvenId) : (s.offerForward i k).saveCount = s.saveCount := by
  unfold offerForward; split <;> rfl
@[simp] theorem offerForward_saving (i : OvenId) : (s.offerForward i k).saving = s.saving := by
  unfold offerForward; split <;> rfl
@[simp] theorem offerForward_clearing (i : OvenId) : (s.offerForward i k).clearing = s.clearing := by
  unfold offerForward; split <;> rfl
@[simp] theorem offerForward_softReset (i : OvenId) : (s.offerForward i k).softReset = s.softReset := by
  unfold offerForward; split <;> rfl
@[simp] theorem offerForward_lineTime (i : OvenId) : (s.offerForward i k).lineTime = s.lineTime := by
  unfold offerForward; split <;> rfl
@[simp] theorem offerForward_tickPhase (i : OvenId) : (s.offerForward i k).tickPhase = s.tickPhase := by
  unfold offerForward; split <;> rfl
@[simp] theorem offerForward_watches (i : OvenId) : (s.offerForward i k).watches = s.watches := by
  unfold offerForward; split <;> rfl
@[simp] theorem offerForward_recipes (i : OvenId) : (s.offerForward i k).recipes = s.recipes := by
  unfold offerForward; split <;> rfl
@[simp] theorem offerForward_steps (i : OvenId) : (s.offerForward i k).steps = s.steps := by
  unfold offerForward; split <;> rfl
@[simp] theorem offerForward_cooks (i : OvenId) : (s.offerForward i k).cooks = s.cooks := by
  unfold offerForward; split <;> rfl
@[simp] theorem offerForward_slots (i : OvenId) : (s.offerForward i k).slots = s.slots := by
  unfold offerForward; split <;> rfl
@[simp] theorem offerForward_cleaning (i : OvenId) : (s.offerForward i k).cleaning = s.cleaning := by
  unfold offerForward; split <;> rfl
@[simp] theorem offerForward_calls (i : OvenId) : (s.offerForward i k).calls = s.calls := by
  unfold offerForward; split <;> rfl
@[simp] theorem offerForward_severity (i : OvenId) : (s.offerForward i k).severity = s.severity := by
  unfold offerForward; split <;> rfl
@[simp] theorem offerForward_updates (i : OvenId) : (s.offerForward i k).updates = s.updates := by
  unfold offerForward; split <;> rfl
@[simp] theorem offerForward_down (i : OvenId) : (s.offerForward i k).down = s.down := by
  unfold offerForward; split <;> rfl
@[simp] theorem offerForward_classMap (i : OvenId) : (s.offerForward i k).classMap = s.classMap := by
  unfold offerForward; split <;> rfl
@[simp] theorem offerForward_gateway (i : OvenId) : (s.offerForward i k).gateway = s.gateway := by
  unfold offerForward; split <;> rfl
@[simp] theorem offerForward_pause (i : OvenId) : (s.offerForward i k).pause = s.pause := by
  unfold offerForward; split <;> rfl
@[simp] theorem offerForward_lineRx (i : OvenId) : (s.offerForward i k).lineRx = s.lineRx := by
  unfold offerForward; split <;> rfl
@[simp] theorem offerForward_counters (i : OvenId) : (s.offerForward i k).counters = s.counters := by
  unfold offerForward; split <;> rfl
@[simp] theorem offerForward_cursor (i : OvenId) : (s.offerForward i k).cursor = s.cursor := by
  unfold offerForward; split <;> rfl
@[simp] theorem offerForward_config (i : OvenId) : (s.offerForward i k).config = s.config := by
  unfold offerForward; split <;> rfl
@[simp] theorem offerForward_daypart (i : OvenId) : (s.offerForward i k).daypart = s.daypart := by
  unfold offerForward; split <;> rfl

theorem offerReply_room (h : s.upRoom = true) : s.offerReply k = s.pushUp k := by
  simp [offerReply, h]

theorem offerReply_full (h : s.upRoom = false) :
    s.offerReply k = { s with up := { s.up with repliesLost := sat16 s.up.repliesLost } } := by
  simp [offerReply, h]

theorem offerReport_room (h : s.upRoom = true) : s.offerReport k = s.pushUp k := by
  simp [offerReport, h]

theorem offerReport_full (h : s.upRoom = false) :
    s.offerReport k = { s with up := { s.up with reportsLost := sat16 s.up.reportsLost } } := by
  simp [offerReport, h]

theorem offerForward_room (i : OvenId) (h : s.up.frames.length < 24) :
    s.offerForward i k = s.pushUp k := by
  simp [offerForward, h]

theorem offerForward_full (i : OvenId) (h : 24 ≤ s.up.frames.length) :
    s.offerForward i k = s.modOvenCounters i fun c => { c with dropped := sat16 c.dropped } := by
  simp [offerForward, Nat.not_lt.mpr h]

end

end Sys2Proof.Machine.State
end

