-- ==== Sys2Proof/Laws/Ops.lean ====
section
/-! SUPPORT. What each shared operation can do, said once: searches and what they find, operations with their
cases, and the induction that belongs to each walk. -/

namespace Sys2Proof.Machine

variable {s : State}

/-! ### Searches of the Call Table -/

/-- The position found holds the unresolved call of the pair (R97). -/
theorem findCall_some {sub : Option OvenId} {code : Nat} {p : Fin 32} (h : s.findCall sub code = some p) :
    ∃ c, s.call p = some c ∧ c.state ≠ .resolved ∧ c.oven = sub ∧ c.code = code := by
  have := List.find?_some h
  cases hc : s.call p with
  | none => simp [hc] at this
  | some c =>
    simp only [hc, Bool.and_eq_true, beq_iff_eq, Call.unresolved, bne_iff_ne] at this
    exact ⟨c, rfl, this.1.1, this.1.2, this.2⟩

/-- Nothing is found exactly where no unresolved call has the pair (R97). -/
theorem findCall_none {sub : Option OvenId} {code : Nat} :
    s.findCall sub code = none ↔
      ∀ p c, s.call p = some c → c.oven = sub → c.code = code → c.state = .resolved := by
  unfold State.findCall
  rw [List.find?_eq_none]
  constructor
  · intro h p c hc ho hk
    have := h p (List.mem_finRange p)
    simp only [hc, Call.unresolved, Bool.and_eq_true, bne_iff_ne, beq_iff_eq] at this
    by_contra hr
    exact this ⟨⟨hr, ho⟩, hk⟩
  · intro h p _
    cases hc : s.call p with
    | none => simp
    | some c =>
      simp only [Call.unresolved, Bool.and_eq_true, bne_iff_ne, beq_iff_eq]
      rintro ⟨⟨hr, ho⟩, hk⟩
      exact hr (h p c hc ho hk)

/-- The lowest free position is free (R93). -/
theorem lowestFree_some {p : Fin 32} (h : s.lowestFree = some p) : s.call p = none := by
  simpa using List.find?_some h

/-- No position is free exactly where each holds a call. -/
theorem lowestFree_none : s.lowestFree = none ↔ ∀ p, (s.call p).isSome = true := by
  unfold State.lowestFree allPositions
  rw [List.find?_eq_none]
  constructor
  · intro h p
    have := h p (List.mem_finRange p)
    cases hc : s.call p <;> simp_all
  · intro h p _
    have := h p
    cases hc : s.call p <;> simp_all

/-- The next entry to be reported waits on the report list and stands in the table (R102). -/
theorem nextReport_some {p : Fin 32} (h : s.nextReport = some p) :
    p ∈ s.calls.reports ∧ ∃ c, s.call p = some c := by
  unfold State.nextReport at h
  obtain ⟨sev, -, hf⟩ := List.exists_of_findSome?_eq_some h
  refine ⟨List.mem_of_find?_eq_some hf, ?_⟩
  have := List.find?_some hf
  cases hc : s.call p with
  | none => simp [hc] at this
  | some c => exact ⟨c, rfl⟩

/-! ### Walks: one induction each -/

/-- What every SERVICE frame keeps, the building keeps (R102). -/
theorem buildService_induct (P : State → Prop)
    (step : ∀ t p, P t → t.upRoom = true → t.nextReport = some p → P (t.reportCall p)) (h : P s) :
    P s.buildService := by
  have go : ∀ n t, P t → P (buildServiceN n t) := by
    intro n
    induction n with
    | zero => exact fun _ h => h
    | succ n ih =>
      intro t ht
      unfold buildServiceN
      split
      · split
        · exact ih _ (step _ _ ht ‹_› ‹_›)
        · exact ht
      · exact ht
  exact go _ s h

/-- What dropping, admitting and holding keep, an admission pass keeps (R85). -/
theorem admissionPass_induct (P : State → Prop)
    (flag : ∀ t b, P t → P { t with cleaning := { t.cleaning with passHeld := b } })
    (drop : ∀ t i r, P t → P (t.dropWait i r))
    (hadmit : ∀ t (w : WaitEntry), P t → t.slotOpen = true → (t.oven w.oven).locked = false →
      (t.oven w.oven).capabilities.autoClean = true → (t.oven w.oven).occupancy = .free →
      (t.oven w.oven).presence ≠ .silent → (t.oven w.oven).service = false → t.bufferFree = true →
      P ((t.admitOven w.oven w.programme w.seq w.taken .queue).removeWait w.oven)) (h : P s) :
    P s.admissionPass := by
  have go : ∀ q t, P t → P (passWalk q t) := by
    intro q
    induction q with
    | nil => exact fun _ h => h
    | cons w rest ih =>
      intro t ht
      unfold passWalk
      split
      · exact ht
      split
      · exact ih _ (drop _ _ _ ht)
      split
      · exact ih _ (drop _ _ _ ht)
      split
      · exact ih _ ht
      split
      · rename_i h1 h2 h3 h4 h5
        simp only [Bool.not_eq_true, Bool.not_eq_false, Bool.or_eq_true, not_or, beq_iff_eq,
          Bool.not_eq_true', State.occupancyFree] at h1 h2 h3 h4
        exact ih _ (hadmit _ _ ht h1 h2 h3 (by simpa using h4.2) h4.1.1 h4.1.2 h5)
      · exact flag _ _ ht
  exact go _ _ (flag _ _ h)

/-- What each oven's part keeps, the whole keeps. -/
theorem forOvens_induct (P : State → Prop) (f : OvenId → State → State) (step : ∀ i t, P t → P (f i t))
    (h : P s) : P (forOvens f s) := by
  unfold forOvens
  generalize allOvens = l
  induction l generalizing s with
  | nil => exact h
  | cons i rest ih => exact ih (step i s h)

/-! ### Operations and their cases -/

/-- A wait entry is taken out with its report, or there is none (R84). -/
theorem dropWait_cases (i : OvenId) (r : DropReason) :
    ((∀ w ∈ s.cleaning.queue, w.oven ≠ i) ∧ s.dropWait i r = s) ∨
      ∃ w ∈ s.cleaning.queue, w.oven = i ∧
        s.dropWait i r = (s.removeWait i).offerReport (reportCleanDropped w r s.lineTime) := by
  unfold State.dropWait
  split
  · rename_i w h
    exact .inr ⟨w, List.mem_of_find?_eq_some h, by simpa using List.find?_some h, rfl⟩
  · rename_i h
    exact .inl ⟨by simpa using h, rfl⟩

/-- A reload needs a watch and a record, and keeps the frozen flag (R127). -/
theorem reloadWatch_loaded {i : OvenId} {w : Watch} {r : CommRecord} (hw : s.watch i = some w)
    (hr : (s.oven i).record = some r) :
    s.reloadWatch i = s.setWatch i (some (Watch.loaded r w.frozen)) := by
  simp [State.reloadWatch, hw, hr]

theorem reloadWatch_none {i : OvenId} (hw : s.watch i = none) : s.reloadWatch i = s := by
  simp [State.reloadWatch, hw]

/-- The frozen flag follows service and occupancy (R130). -/
theorem refreeze_some {i : OvenId} {w : Watch} (hw : s.watch i = some w) :
    s.refreeze i = s.setWatch i (some { w with frozen := (s.oven i).freezes }) := by
  simp [State.refreeze, hw]

theorem refreeze_none {i : OvenId} (hw : s.watch i = none) : s.refreeze i = s := by
  simp [State.refreeze, hw]

/-- FREE is taken from the block whose job the occupancy names, and from no other (R11). -/
theorem releaseOccupancy_same {i : OvenId} {job : Occupancy} (h : (s.oven i).occupancy = job) :
    s.releaseOccupancy i job = s.setOccupancy i .free := by simp [State.releaseOccupancy, h]

theorem releaseOccupancy_other {i : OvenId} {job : Occupancy} (h : (s.oven i).occupancy ≠ job) :
    s.releaseOccupancy i job = s := by simp [State.releaseOccupancy, h]

/-- A clearing event changes nothing, marks an unresolved call, or resolves an acknowledged one
(R98, R99). -/
theorem clearAtSource_cases (sub : Option OvenId) (code : Nat) :
    s.clearAtSource sub code = s ∨
      ∃ p c, s.call p = some c ∧ c.oven = sub ∧ c.code = code ∧ c.state ≠ .resolved ∧ c.cleared = false ∧
        ((c.state = .acknowledged ∧ s.clearAtSource sub code = s.resolveCall p c) ∨
          (c.state ≠ .acknowledged ∧
            s.clearAtSource sub code = s.setCall p (some { c with cleared := true }))) := by
  unfold State.clearAtSource
  split
  · rename_i p h
    obtain ⟨c, hc, hr, ho, hk⟩ := findCall_some h
    unfold State.clearCall
    rw [hc]
    cases hl : c.cleared with
    | true => exact .inl (by simp [hl])
    | false =>
      refine .inr ⟨p, c, hc, ho, hk, hr, hl, ?_⟩
      by_cases ha : c.state = .acknowledged
      · exact .inl ⟨ha, by simp [hl, ha]⟩
      · exact .inr ⟨ha, by simp [hl, ha]⟩
  · exact .inl rfl

/-- An occurrence merges, creates, displaces, overflows or is lost (R97, R100, R101). -/
theorem raise_cases (sub : Option OvenId) (code : Nat) (sev : Severity) (kind : CallKind) :
    (∃ p c, s.findCall sub code = some p ∧ s.call p = some c ∧ s.raise sub code sev kind = s.mergeCall p) ∨
    (s.findCall sub code = none ∧
      ((sev ≠ .lockout ∧ s.raise sub code sev kind = s.loseCall) ∨
       (∃ p, sev ≠ .lockout ∧ s.callsInUse < 28 ∧ s.lowestFree = some p ∧
          s.raise sub code sev kind = s.createCall p sub code sev kind) ∨
       (∃ p, sev = .lockout ∧ s.lowestFree = some p ∧
          s.raise sub code sev kind = (s.createCall p sub code sev kind).lockSubject sub) ∨
       (∃ p, sev = .lockout ∧ s.lowestFree = none ∧ s.newestLesser = some p ∧
          s.raise sub code sev kind =
            (((s.freeCall p).loseCall).createCall p sub code sev kind).lockSubject sub) ∨
       (sev = .lockout ∧ s.lowestFree = none ∧ s.newestLesser = none ∧
          s.raise sub code sev kind = ((s.overflowSubject sub).loseCall).lockSubject sub))) := by
  unfold State.raise
  split
  · rename_i p h
    obtain ⟨c, hc, -⟩ := findCall_some h
    exact .inl ⟨p, c, h, hc, rfl⟩
  · rename_i h
    refine .inr ⟨h, ?_⟩
    split
    · rename_i hs
      split
      · exact .inr (.inr (.inl ⟨_, hs, ‹_›, rfl⟩))
      · exact .inr (.inr (.inr (.inl ⟨_, hs, ‹_›, ‹_›, rfl⟩)))
      · exact .inr (.inr (.inr (.inr ⟨hs, ‹_›, ‹_›, rfl⟩)))
    · rename_i hs
      split
      · split
        · exact .inr (.inl ⟨_, hs, ‹_›, ‹_›, rfl⟩)
        · exact .inl ⟨hs, rfl⟩
      · exact .inl ⟨hs, rfl⟩

/-- The lock is left, or cleared with an admission pass (R105). -/
theorem relock_cases (i : OvenId) :
    s.relock i = s ∨ ((s.oven i).locked = true ∧ s.lockDerived i = false ∧
      s.relock i = (s.modOven i fun e => { e with locked := false }).admissionPass) := by
  unfold State.relock
  split
  · rename_i h
    simp only [Bool.and_eq_true, Bool.not_eq_true'] at h
    exact .inr ⟨h.1, h.2, rfl⟩
  · exact .inl rfl

/-- A locked oven's lock effects do not run again (R105, R106). -/
theorem lockOven_locked {i : OvenId} (h : (s.oven i).locked = true) : s.lockOven i = s := by
  simp [State.lockOven, h]

/-- An IDLE context finds no cook to stop (R54, R56). -/
theorem stopCook_idle {i : OvenId} (r : CookResult) (h : (s.cook i).state = .idle) : s.stopCook i r = s := by
  simp [State.stopCook, h]

theorem stopCook_running {i : OvenId} (r : CookResult) (h : (s.cook i).state ≠ .idle) :
    s.stopCook i r = (s.cookGoIdle i r).putStop i := by simp [State.stopCook, h]

/-! ### The Oven Line's transmitter -/

/-- A byte takes 10 bit-times (R150). -/
@[simp] theorem byteBits_length (b : Byte) : (byteBits b).length = 10 := rfl

/-- A take puts the arbiter's frame and its bits on the free line, or changes nothing (R143, R150). -/
theorem lineTransmitterTake_cases :
    (∃ x k, s.down.tx = none ∧ s.nextLine = some (x, k) ∧ doLineTransmitterTake s =
      { s.markTaken x with down :=
          { (s.markTaken x).down with tx := some { source := x, frame := k, line := lineSignal k } } }) ∨
    (s.down.tx.isSome = true ∨ s.nextLine = none) ∧ doLineTransmitterTake s = s := by
  unfold doLineTransmitterTake
  cases hx : s.down.tx with
  | some _ => simp
  | none =>
    cases hn : s.nextLine with
    | none => simp
    | some y => exact .inl ⟨y.1, y.2, rfl, rfl, rfl⟩

end Sys2Proof.Machine
end

