-- ==== Sys2Proof/Laws/Ways.lean ====
section
/-! SUPPORT. The ways a frame takes to its owner, once: what the common checks let through. -/

namespace Sys2Proof.Machine

variable {s : State} {f : StoreFrame}

/-- A frame that passes the Classifier after the restore reaches its owner (R136, R166). -/
theorem arriveStore_pass (cls : Byte) (act : State → State) (hp : s.phase = .ready)
    (hl : f.len.toNat = f.payload.length) (hm : f.payload.length ≤ maxPayload)
    (ha : storeAddressOk cls f.oven = true) : s.arriveStore cls f act = act s := by
  have h : ¬ maxPayload < f.payload.length := by omega
  simp [State.arriveStore, hp, hl, h, ha]

/-- The common checks pass (R158, R163). -/
theorem gateRefusal_none (g : Gate) (hr : s.softReset = none) (ho : f.oven = 0) (ht : f.tag = g.code)
    (hs : g.saved = true → s.saving = none) (hc : g.clear ≠ .taken → s.clearing = none)
    (hl : f.payload.length ∈ g.lengths) : s.gateRefusal g f = none := by
  have h1 : ¬ (s.saving.isSome = true ∧ g.saved = true) := fun ⟨a, b⟩ => by simp [hs b] at a
  have h2 : ¬ (s.clearing.isSome = true ∧ g.clear ≠ .taken) := fun ⟨a, b⟩ => by simp [hc b] at a
  unfold State.gateRefusal
  rw [if_neg (by simp [hr]), if_neg (by simp [ho, ht]), if_neg h1, if_neg h2,
    if_neg (by simp [hl])]

/-- A CONTROL request that passes the common checks acts on the state with the gateway address set
(R146, R157, R158). -/
theorem control_pass (g : Gate) (act : State → Answered) (hp : s.phase = .ready)
    (hr : s.softReset = none) (ho : f.oven = 0) (ht : f.tag = g.code)
    (hn : f.len.toNat = f.payload.length) (hl : f.payload.length ∈ g.lengths)
    (hm : f.payload.length ≤ maxPayload)
    (hs : g.saved = true → s.saving = none) (hc : g.clear ≠ .taken → s.clearing = none) :
    s.control g f act = (act (s.fromGateway f)).finish (replyTo clsControl f) := by
  have ha : storeAddressOk clsControl f.oven = true := by simp [ho, storeAddressOk]
  have hg : State.gateRefusal (s.fromGateway f) g f = none := gateRefusal_none g hr ho ht hs hc hl
  unfold State.control
  rw [arriveStore_pass clsControl _ hp hn hm ha]
  simp only []
  rw [hg]

/-- A COOK, CLEAN, UPDATE or DIRECT frame for an oven reaches its owner (R136). -/
theorem owned_pass (cls : Byte) (act : State → Answered) (i : OvenId) (hp : s.phase = .ready)
    (ho : ovenOf f.oven.toNat = some i) (hn : f.len.toNat = f.payload.length)
    (hm : f.payload.length ≤ maxPayload) :
    s.owned cls f act = (act s).finish (replyTo cls f) := by
  have ha : storeAddressOk cls f.oven = true := by
    unfold ovenOf at ho
    split at ho
    · rename_i h; simp [storeAddressOk, h.2]
    · cases ho
  exact arriveStore_pass cls _ hp hn hm ha

/-- The form checks of a COOK, CLEAN or UPDATE frame pass (R44, R79, R110). -/
theorem forOven_pass (tag : BitVec 16) (ok : Bool) (act : OvenId → Answered) (i : OvenId)
    (ht : f.tag = tag) (hok : ok = true) (ho : ovenOf f.oven.toNat = some i) :
    s.forOven f tag ok act = act i := by
  simp [State.forOven, ht, hok, ho]

/-- A frame from an ACTIVE oven reaches its owner after watch, count and copy (R3, R127, R137). -/
theorem dispatchUp_active (i : OvenId) (forward owner : State → State)
    (h : (s.oven i).presence = .active) :
    s.dispatchUp i forward owner = owner (forward ((s.reloadWatch i).countReceived i)) := by
  simp [State.dispatchUp, h]

end Sys2Proof.Machine
end

