-- ==== Sys2Proof/Tests/Slice0.lean ====
section
/-! SUPPORT. The model's own tests: ill-formed commands, worked values of the manual, one step of each kind,
and for each statement with hypotheses a state and operands that meet them (`witness_<name>`), clause by
clause. Expected values come from the manual's tables and rules, named at each test. -/

namespace Sys2Proof.Tests

/- The tests are evaluated by the kernel one after another. -/
set_option Elab.async false

open Sys2Proof.Machine

/-! ### Small states -/

/-- The part right after READY with nothing set up. -/
def ready : State := { State.reset with phase := .ready }

/-- A Store Link frame with a matching length. -/
def sf (oven tag : Nat) (p : List Byte) : StoreFrame :=
  { src := 0x0200000000AA, oven := BitVec.ofNat 8 oven, tag := BitVec.ofNat 16 tag, seq := 7,
    len := BitVec.ofNat 16 p.length, payload := p }

/-- An upward frame. -/
def uf (oven : Nat) (p : List Byte) : UpFrame := { oven := BitVec.ofNat 8 oven, seq := 3, payload := p }

/-- A commissioning record with a serial. -/
def rec1 (n : Nat) : CommRecord :=
  { serial := BitVec.ofNat 48 n, modelClass := 1, caps := ⟨true, true, true⟩, window := 30, scale := 1,
    decimation := 10 }

/-- An announcement with a serial. -/
def ann (n : Nat) (a : Activity) : Announced :=
  { serial := BitVec.ofNat 48 n, modelClass := 1, caps := ⟨true, true, true⟩, version := ⟨1, 0⟩,
    activity := a }

/-- A watch as a record loads it. -/
def watch1 : Watch := Watch.loaded (rec1 1) false

/-- `ready` with one oven at a presence, its record and watch. -/
def withOven (i : OvenId) (p : Presence) (s : State := ready) : State :=
  (s.modOven i fun e => { e with presence := p, record := some (rec1 (i.val + 1)) }).setWatch i
    (if p = .active ∨ p = .silent then some watch1 else none)

/-- Ovens 1 and 16 ACTIVE. -/
def kitchen : State := withOven 15 .active (withOven 0 .active)

/-- The same with oven 1 in some occupancy. -/
def occupied (o : Occupancy) : State := kitchen.modOven 0 fun e => { e with occupancy := o }

/-- The same with a cook on oven 1. -/
def cooking (c : CookState) : State :=
  (occupied .cooking).modCook 0 fun x => { x with state := c, recipe := 1, version := 1, count := 1 }

/-- The same with oven 1 cleaning. -/
def cleaning : State :=
  let s := (occupied .cleaning).modCleanRecord 0 fun r => { r with isOpen := true }
  { s with cleaning := { s.cleaning with slotCount := 1 } }

/-- The same with oven 1 waiting for a cleaning. -/
def waiting : State :=
  { kitchen with
      cleaning :=
        { kitchen.cleaning with queue := [{ oven := 0, programme := .rinse, taken := 0, seq := 0 }] } }

/-- The same with a transfer of oven 1 in some state. -/
def transfer (u : UpdateState) (passed : Nat) : State :=
  kitchen.modUpdate 0 fun x => { x with state := u, length := 4, passed := passed }

/-- An update in progress on oven 1. -/
def applying : State :=
  (occupied .applying).modUpdate 0 fun x => { x with state := .applying, timer := .due }

/-- A frame of no account. -/
def someFrame : KFrame := { cls := 4, oven := 1, tag := 0, seq := 0, payload := [] }

/-- All 48 downward buffers in use. -/
def poolFull (s : State) : State :=
  let q := s.down.classes.set 2 (List.replicate 48 { frame := someFrame, live := true })
  { s with down := { s.down with classes := q } }

/-- The Upward Queue full. -/
def upFull (s : State) : State := { s with up := { s.up with frames := List.replicate 32 someFrame } }

/-- A frame of no account from a source, with its bits. -/
def sends (x : LineSource) : LineTx := { source := x, frame := someFrame, line := lineSignal someFrame }

/-- The Line Transmitter sends from a source. -/
def onAir (x : LineSource) (s : State) : State :=
  { s with down := { s.down with tx := some (sends x) } }

/-- Class queue 1 holds a frame of oven 1 with a class and tag. -/
def queuedFrame (cls : Byte) (tag : BitVec 16) : State :=
  kitchen.pushDown 1 { frame := { someFrame with cls := cls, tag := tag }, live := true }

/-- A call. -/
def call1 (oven : Option OvenId) (code : Nat) (sev : Severity) (st : CallState) : Call :=
  { number := 1, oven := oven, code := code, severity := sev, kind := .condition, state := st,
    cleared := false, occurrences := 1, firstSeen := 0, lastSeen := 0 }

/-- `kitchen` with one call, in position 1 and waiting on the report list. -/
def called (c : Call) : State :=
  { kitchen with
      calls :=
        { CallTable.reset with
            slots := CallTable.reset.slots.set 0 (some c), order := [0], reports := [0], next := 2 } }

/-- A table with the first `n` positions held by calls of one severity for the part. -/
def crowded (n : Nat) (sev : Severity) : State :=
  { kitchen with
      calls :=
        { CallTable.reset with
          slots := Vector.ofFn fun p : Fin 32 =>
            if p.val < n then some { call1 none (p.val + 1) sev .reported with number := p.val + 1 }
            else none
          order := (List.finRange 32).filter fun p => p.val < n
          next := n + 1 } }

/-- Oven 1 locked by a call. -/
def locked1 : State :=
  (called (call1 (some 0) 1 .lockout .reported)).modOven 0 fun e => { e with locked := true }

/-- A run of the Step Store. -/
def run1 : Run := { version := 1, first := 0, count := 1 }

/-- `kitchen` with a written record 0 owned by recipe 1 in a role. -/
def stored (role : Role) (written : Bool := true) (s : State := kitchen) : State :=
  let o : Owner := { recipe := 1, version := 1, role := role }
  { s with steps := s.steps.set 0 { StepRec.blank with written := written, owner := some o } }

/-- Recipe 1 with a staged version. -/
def staged (written : Bool := true) (s : State := kitchen) : State :=
  (stored .staged written s).modRecipe 0 fun e => { e with staged := some run1 }

/-- Recipe 1 with a live version. -/
def live (users : Nat) (s : State := kitchen) : State :=
  (stored .live true s).modRecipe 0 fun e =>
    { e with live := some { run := { run1 with version := 2 }, needs := ⟨false, false⟩, users := users } }

/-- Recipe 1 with a draining version. -/
def draining (users : Nat) (s : State) : State :=
  s.modRecipe 0 fun e =>
    { e with draining := some { run := { version := 3, first := 767, count := 1 }, users := users } }

/-- A SAVE in progress. -/
def saving (count : Nat) : State :=
  { ready with
      saving := some { cls := 5, oven := 0, tag := 7, seq := 7 }, saveCount := count,
      image := some { content := ready.savedContent, complete := false, crc := 0 } }

/-- `Heard` in a form that evaluates. -/
theorem heard {s : State} {cls : Byte} {tag : BitVec 16} {f : UpFrame} {i : OvenId} (lo hi : Nat)
    (h : s.phase = .ready ∧ ovenOf f.oven.toNat = some i ∧
      ((s.oven i).presence = .active ∨ (s.oven i).presence = .silent) ∧
      upwardLengths cls tag = some (lo, hi) ∧ lo ≤ f.payload.length ∧ f.payload.length ≤ hi) :
    Heard s cls tag f i := ⟨h.1, h.2.1, h.2.2.1, lo, hi, h.2.2.2⟩

/-! ### Ill-formed commands (R136, R148, R151, R154) -/

theorem smoke_length : wellFormed (.rollCall { sf 0 5 [] with len := 1 }) = false := by decide +kernel
theorem smoke_length_480 :
    wellFormed (.direct { sf 1 0 (List.replicate 481 0) with len := 481 }) = false := by decide +kernel
theorem smoke_address : wellFormed (.cookStop (sf 17 2 [])) = false := by decide +kernel
theorem smoke_tag : wellFormed (.cookStop (sf 1 1 [])) = false := by decide +kernel
theorem smoke_source : wellFormed (.panelStop (uf 17 [])) = false := by decide +kernel
theorem smoke_up_length : wellFormed (.fault (uf 1 [])) = false := by decide +kernel
theorem smoke_pause : wellFormed (.pauseFrame ethBroadcast 1) = false :=
  show pauseDest ethBroadcast = false by
    have h : (ethBroadcast == Config.stationAddress) = false := by
      rw [beq_eq_false_iff_ne]
      intro h
      have := congrArg (fun a => a.getLsbD 40) h
      simp [Config.stationAddress] at this
    unfold pauseDest
    rw [h]
    decide
/-- A pause frame of five quanta for the reserved multicast address (R148, R149). -/
def pauseEth : EthFrame :=
  { rxErr := false, dest := 0x0180C2000001, src := 0, etype := 0x8808,
    payload := [0, 1, 0, 5] ++ List.replicate 42 0, fcs := 2323857520 }
theorem smoke_droppable : wellFormed (.storeFrameDropped pauseEth) = false := by
  have h : EthFrame.badReception pauseEth = false := by decide +kernel
  have o : EthFrame.macOpcode pauseEth = 1 := by decide +kernel
  have d : pauseDest pauseEth.dest = true := by simp [pauseDest, show pauseEth.dest = pauseMulticast from rfl]
  have e : EthFrame.sort pauseEth.etype pauseEth = .pause := by
    unfold EthFrame.sort
    rw [if_neg (by simp [h]), if_pos (show pauseEth.etype = macControlType from rfl), if_pos ⟨o, d⟩]
  simp [wellFormed, storeForm, upForm, eventFits, droppable, e]
theorem smoke_discardable :
    wellFormed (.storeClassifierDiscard
      { rxErr := false, dest := ethBroadcast, src := 0, etype := 0x9A4C, payload := [], fcs := 0 }) =
      false := by decide +kernel
theorem smoke_events : wellFormed (.lineFrameDiscard []) = false := by decide +kernel
theorem smoke_good : wellFormed (.cookStop (sf 16 2 [])) = true ∧ wellFormed (.hello (uf 1 [])) = false ∧
    wellFormed (.ovenNote (uf 16 [])) = true := by decide +kernel

/-! ### Witnesses: states and operands that meet the hypotheses of the statements, one conjunct a clause. Here
`c ∈ o` for an option `o` reads `o = some c`. -/

theorem mergingLaw_of {s : State}
    (h : (∀ p q, ∀ c ∈ s.call p, ∀ d ∈ s.call q, c.state ≠ .resolved → d.state ≠ .resolved →
      c.oven = d.oven → c.code = d.code → p = q) ∧
      ∀ p, ∀ c ∈ s.call p, 1 ≤ c.occurrences ∧ c.occurrences ≤ 255) : MergingLaw s :=
  ⟨fun p q c d hc hd => h.1 p q c hc d hd, h.2⟩

theorem numberLaw_of {s : State}
    (h : (1 ≤ s.calls.next ∧ s.calls.next ≤ 65535) ∧
      (∀ p, ∀ c ∈ s.call p, 1 ≤ c.number ∧ c.number ≤ 65535) ∧
      (∀ p q, ∀ c ∈ s.call p, ∀ d ∈ s.call q, c.number = d.number → p = q) ∧
      ∀ p, ∀ c ∈ s.call p, p ∈ s.calls.order) : NumberLaw s :=
  ⟨h.1, h.2.1, fun p q c d hc hd => h.2.2.1 p q c hc d hd, h.2.2.2⟩

theorem kitchen_noSlot (i : OvenId) (f : SlotFrame) (b : Bool) : (kitchen.slot i).slot ≠ .pending f b := by
  have h : ∀ i, (kitchen.slot i).slot = .empty := by decide +kernel
  simp [h i]

theorem witness_EveryCommandCompletes :
    ({ ready with pending := [.watchTick, .saveEnd] } : State).pending = .watchTick :: [.saveEnd] := rfl

theorem witness_ReadyRestoresOrDefaults :
    (∃ (s : State) (m : Image), s.phase = .restoring ∧ s.image = some m ∧ m.complete = true ∧
      m.crc = crc32 (Config.imageLayout m.content)) ∧
    (State.reset.phase = .restoring ∧ State.reset.image = none ∧ State.reset.saveCount = 0) ∧
    ∃ (s : State) (m : Image), s.phase = .restoring ∧ s.image = some m ∧ m.complete = false ∧
      0 < s.saveCount :=
  ⟨⟨{ State.reset with
        image := some { content := ready.savedContent, complete := true,
                        crc := crc32 (Config.imageLayout ready.savedContent) } }, _, rfl, rfl, rfl, rfl⟩,
    ⟨rfl, rfl, rfl⟩, ⟨(saving 1).restart .pin, _, rfl, rfl, rfl, by decide +kernel⟩⟩

theorem witness_RestoreTakesNoFrames :
    State.reset.phase = .restoring ∧ storeForm (.cookStop (sf 1 2 [])) = some ⟨1, 2, sf 1 2 []⟩ ∧
      upForm (.panelStop (uf 1 [])) = some ⟨8, 4, uf 1 []⟩ := ⟨rfl, rfl, rfl⟩

theorem witness_SaveBeginsAndEnds :
    (RequestedTable { ready with saveCount := 19999 } (sf 0 7 []) 7 [0] ∧
      ({ ready with saveCount := 19999 } : State).saveCount < 20000) ∧
    (RequestedTable { ready with saveCount := 20000 } (sf 0 7 []) 7 [0] ∧
      20000 ≤ ({ ready with saveCount := 20000 } : State).saveCount) ∧
    (saving 0).saving.isSome = true ∧ (saving 0).image.isSome = true := by decide +kernel

theorem witness_SaveThenRestartGivesBack :
    RequestedTable { ready with saveCount := 19999 } (sf 0 7 []) 7 [0] ∧
      ({ ready with saveCount := 19999 } : State).saveCount < 20000 := by decide +kernel

theorem witness_ResetDuringASaveLosesTheImage :
    ((saving 0).saving.isSome = true ∧ ∀ m ∈ (saving 0).image, m.complete = false) ∧
    0 < (saving 1).saveCount ∧ ({ saving 1 with softReset := some 0 } : State).softReset = some 0 ∧
    (Requested (upFull (saving 0)) (sf 0 6 []) 6 [0] ∧ 32 ≤ (upFull (saving 0)).up.frames.length) := by
  decide +kernel

theorem witness_SoftResetWaitsForItsReply :
    (Requested ready (sf 0 6 []) 6 [0] ∧ ready.up.frames.length < 32) ∧
    (Requested (upFull ready) (sf 0 6 []) 6 [0] ∧ 32 ≤ (upFull ready).up.frames.length) ∧
    ∃ (s : State) (e : EthFrame), s.softReset = some 0 ∧ s.up.tx = some e ∧
      s.up.frames = replyFrame { cls := clsControl, oven := 0, tag := 6, seq := (sf 0 6 []).seq }
        { result := .done } :: [] :=
  ⟨by decide +kernel, by decide +kernel,
    { ready with
        softReset := some 0
        up := { frames := [replyFrame { cls := clsControl, oven := 0, tag := 6, seq := 7 }
                  { result := .done }], repliesLost := 0, reportsLost := 0, tx := some pauseEth } },
    pauseEth, rfl, rfl, rfl⟩

theorem witness_WatchTickCounts :
    ({ ready with tickPhase := 8 } : State).tickPhase < 9 ∧
      9 ≤ ({ ready with tickPhase := 9 } : State).tickPhase := by decide +kernel

/-- Oven 1's watch has run out. -/
def expired (p : Presence) : State := (withOven 0 p).setWatch 0 (some { watch1 with counter := 0 })

/-- Oven 1's acknowledgement timer has run out. -/
def unacked (c : CookState) : State := (cooking c).setSlot 0 { slot := .sent (.endCook 1), timer := some 0 }

theorem witness_WatchAndAckExpiries :
    (∀ p ∈ [Presence.active, .silent], (expired p).watch 0 = some { watch1 with counter := 0 } ∧
      ((expired p).oven 0).record = some (rec1 1) ∧ ((expired p).oven 0).presence = p) ∧
    (∀ c ∈ [CookState.idle, .starting, .running, .advancing, .ending],
      (unacked c).slot 0 = { slot := .sent (.endCook 1), timer := some 0 } ∧
      ((unacked c).cook 0).state = c) ∧ watch1.frozen = false := by decide +kernel

theorem witness_LineTimeExpiriesAndLineErrors :
    ((cleaning.modCleanRecord 0 fun r => { r with timer := .due }).cleanRecord 0).timer = .due ∧
    ((applying.update 0).timer = .due ∧ (applying.update 0).state = .applying) ∧
    min 65535 (18 + 1) < ready.config.lineErrorThreshold ∧
    (ready.config.lineErrorThreshold ≤ min 65535 (19 + 1) ∧ ready.calls.window.raised = false) := by
  decide +kernel

theorem witness_PauseCounts :
    ((Config.stationAddress = Config.stationAddress ∨ pauseMulticast = 0x0180C2000001#48) ∧
      ready.phase = .ready) ∧
    ({ ready with pause := { remaining := 1, paused := 0 } } : State).pause.remaining > 0 ∧
    (ready.pending = [] ∧ ready.pause.remaining = 0) ∧
    (0xFFFFFFFFFFFF#48 ≠ Config.stationAddress ∧ 0xFFFFFFFFFFFF#48 ≠ 0x0180C2000001#48) :=
  ⟨⟨Or.inl rfl, rfl⟩, by decide +kernel, ⟨rfl, rfl⟩, fun h => by
    have := congrArg (fun a => a.getLsbD 40) h
    simp [Config.stationAddress] at this, by decide⟩

/-- A COOK STOP for oven 1 in an Ethernet frame, with any destination and its FCS. -/
def ethTo (dest : EthAddr) (p : List Byte) : EthFrame :=
  let e : EthFrame := { rxErr := false, dest := dest, src := 5, etype := 0x9A4C, payload := p, fcs := 0 }
  { e with fcs := crc32 (EthFrame.covered e) }

/-- A 46-byte payload of a header and padding. -/
def padded (cls oven : Byte) (len : Byte) : List Byte := [cls, oven, 0, 2, 7, 0, len] ++ List.replicate 39 0

theorem kitchen_sort (p : List Byte) (h : EthFrame.badReception (ethTo ethBroadcast p) = false) :
    EthFrame.sort ready.config.kitchenType (ethTo ethBroadcast p) = .kitchen := by
  unfold EthFrame.sort
  rw [if_neg (by rw [h]; decide), if_neg (by show ¬ (0x9A4C#16 = 0x8808#16); decide),
    if_neg (fun x => x.2 rfl), if_neg (fun x => x rfl)]

theorem witness_MacAndClassifierDiscards :
    ({ ethTo 5 [] with rxErr := true } : EthFrame).rxErr = true ∧ EthFrame.size (ethTo 5 []) < 64 ∧
    1518 < EthFrame.size (ethTo 5 (List.replicate 1501 0)) ∧
    (let e := ethTo 0x0300000000AA (padded 1 1 0)
     ¬ (e.rxErr = true ∨ EthFrame.size e < 64 ∨ 1518 < EthFrame.size e ∨
        e.fcs ≠ crc32 (EthFrame.covered e)) ∧ e.etype ≠ 0x8808#16 ∧
      e.dest ≠ Config.stationAddress ∧ e.dest ≠ 0xFFFFFFFFFFFF#48) ∧
    (EthFrame.sort ready.config.kitchenType (ethTo ethBroadcast (padded 1 1 40)) = .kitchen ∧
      ¬ 7 + headerLen (padded 1 1 40) ≤ 46) ∧
    (EthFrame.sort ready.config.kitchenType (ethTo ethBroadcast (padded 6 1 39)) = .kitchen ∧
      7 + headerLen (padded 6 1 39) ≤ 46) ∧
    (EthFrame.sort ready.config.kitchenType (ethTo ethBroadcast (padded 1 31 0)) = .kitchen ∧
      16 < ((padded 1 31 0).getD 1 0).toNat) ∧
    (State.reset.phase = .restoring ∧
      EthFrame.sort State.reset.config.kitchenType (ethTo ethBroadcast (padded 1 1 0)) = .kitchen) := by
  refine ⟨rfl, by decide +kernel, by decide +kernel, ⟨by decide +kernel, by decide, fun h => ?_, by decide⟩,
    ⟨kitchen_sort _ (by decide +kernel), by decide +kernel⟩,
    ⟨kitchen_sort _ (by decide +kernel), by decide +kernel⟩,
    ⟨kitchen_sort _ (by decide +kernel), by decide +kernel⟩,
    ⟨rfl, kitchen_sort _ (by decide +kernel)⟩⟩
  have := congrArg (fun a => a.getLsbD 40) h
  simp [Config.stationAddress, ethTo] at this

theorem witness_ReceiverDeliversLineFrames :
    ({ someFrame with payload := List.replicate 480 0 } : KFrame).payload.length ≤ 480 := by decide +kernel

theorem witness_OvenLineDiscards :
    (({ ready with lineRx := .hunt true } : State).phase = .ready) ∧
    (crc16 someFrame.bytes + 1 ≠ crc16 someFrame.bytes) ∧
    (∀ a ∈ [0, 17], ovenOf a = none) ∧
    ((ovenOf someFrame.oven.toNat).isSome = true ∧ upwardLengths someFrame.cls someFrame.tag = none) ∧
    (upwardLengths 7 0 = some (7, 23) ∧ 6 < 7 ∧ 23 < 24) ∧ 8 < 9 + someFrame.payload.length ∧
    (0x7F : Byte) ≠ 0x7E ∧
    (let bs := (someFrame.bytes ++ beWord 2 0#16).map fun b => (b, false)
     bs.map (·.1) = someFrame.bytes ++ beWord 2 0#16 ∧ (∃ b ∈ bs, b.2 = false) ∧
      (bs.take 1).map (·.1) = (someFrame.bytes ++ beWord 2 0#16).take 1 ∧ ∃ b ∈ bs.take 1, b.2 = false) ∧
    (∀ stop : Bool, (([8, 1, 0, 5, 0, 1, 0xE1] : List Byte).map fun b => (b, stop)).length = 7) ∧
    480 < field [8, 1, 0, 5, 0, 1, 0xE1] 5 2 := by decide +kernel

theorem witness_CommonChecks :
    let f := sf 0 7 []
    (storeForm (.save f) = some ⟨5, 7, f⟩ ∧ (⟨5, 7, f⟩ : StoreForm).cls = clsControl) ∧
    (f.oven.toNat ≤ 16 ∧ (sf 31 7 []).oven = 31) ∧
    (({ ready with softReset := some 3 } : State).softReset.isSome = true) ∧
    ((sf 0 8 []).tag ≠ 7 ∧ (sf 16 7 []).oven ≠ 0) ∧
    ((saving 0).saving.isSome = true ∧ changesSaved (.save f) = true) ∧
    ((({ ready with clearing := some { cls := 5, oven := 0, tag := 31, seq := 0 } } : State).clearing.isSome
      = true) ∧ clearRefuses (.save f) = some .busy) ∧
    (sf 0 7 [0]).payload.length ∉ controlLengths (.save f) := by
  refine ⟨⟨rfl, rfl⟩, ?_⟩
  decide +kernel

theorem witness_ReadsChangeNothing :
    (∀ n ∈ [(0 : Byte), 1, 2, 3], Requested ready (sf 0 1 [n]) 1 [1]) ∧ Requested ready (sf 0 3 []) 3 [0] ∧
    (∀ n ∈ [(0 : Byte), 1, 14, 15], Requested ready (sf 0 3 [n]) 3 [1]) ∧
    (RequestedFor ready (sf 0 12 [1]) 12 [1] 0 ∧ RequestedFor ready (sf 0 12 [16]) 12 [1] 15) ∧
    (∀ n ∈ [(0 : Byte), 17], Requested ready (sf 0 12 [n]) 12 [1]) ∧
    ∀ n ∈ [(0 : Byte), 31, 32], Requested ready (sf 0 44 [n]) 44 [1] := by
  refine ⟨?_, ?_, ?_, ?_, ?_, ?_⟩ <;> decide +kernel

theorem witness_ConfigWriteClamps :
    (∀ n ∈ [(0 : Byte), 1, 2, 3, 4, 5, 6, 7, 8, 9, 10, 11, 12, 13, 14, 15],
      Requested ready (sf 0 2 [n, 0, 0]) 2 [3]) ∧ ready.saving = none ∧
    (Requested ready (sf 0 2 [1, 0x88, 8]) 2 [3] ∧ field (sf 0 2 [1, 0x88, 8]).payload 1 2 = 0x8808) := by
  decide +kernel

theorem witness_DaypartAndRollCall :
    (∀ n ∈ [(0 : Byte), 3, 4], Requested ready (sf 0 4 [n]) 4 [1]) ∧ ready.saving = none ∧
    3 < byteAt [4] 0 ∧ Requested ready (sf 0 5 []) 5 [0] := by decide +kernel

/-- Oven 2 has announced a serial. -/
def announced (n : Nat) : State :=
  kitchen.modOven 1 fun e => { e with presence := .announced, announced := some (ann n .idle) }

theorem witness_OvenCommission :
    (∀ m ∈ [(1 : Byte), 15], RequestedFor (announced 7) (sf 0 10 [2, 0, 0, 0, 0, 0, 7, m, 7]) 10 [9, 12] 1) ∧
    ((announced 7).saving = none ∧ ((announced 7).oven 1).presence = .announced ∧
      ((announced 7).oven 1).announced = some (ann 7 .idle) ∧ (ann 7 .idle).serial = 7 ∧
      (ann 8 .idle).serial ≠ 7) ∧
    (∀ j, j ≠ 1 → ∀ q ∈ ((announced 7).oven j).record, q.serial ≠ 7) ∧
    (RequestedFor kitchen (sf 0 10 [3, 0, 0, 0, 0, 0, 7, 1, 7, 0, 9, 61]) 10 [9, 12] 2 ∧
      (kitchen.oven 2).presence = .vacant) ∧
    (∀ n ∈ [(0 : Byte), 17], Requested kitchen (sf 0 10 [n, 0, 0, 0, 0, 0, 7, 1, 7]) 10 [9, 12]) ∧
    (∀ m ∈ [(0 : Byte), 16], Requested kitchen (sf 0 10 [1, 0, 0, 0, 0, 0, 7, m, 7]) 10 [9, 12]) ∧
    ((kitchen.oven 0).presence = .active ∧ ((withOven 0 .silent).oven 0).presence = .silent ∧
      ((withOven 0 .commissioned).oven 0).presence = .commissioned) ∧
    ((kitchen.oven 15).record = some (rec1 16) ∧
      (rec1 16).serial = BitVec.ofNat 48 (field [2, 0, 0, 0, 0, 0, 16, 1, 7] 1 6)) := by
  refine ⟨?_, ?_, ?_, ?_, ?_, ?_, ?_, ?_⟩ <;> decide +kernel

theorem witness_OvenRetire :
    let s := called (call1 (some 0) 1 .major .reported)
    RequestedFor s (sf 0 11 [1]) 11 [1] 0 ∧ s.saving = none ∧ NumberLaw s ∧
    ((s.oven 2).presence = .vacant ∧ (s.oven 0).presence ≠ .vacant ∧ (s.oven 0).occupancy = .free ∧
      (cleaning.oven 0).occupancy ≠ .free) ∧
    (∀ n ∈ [(0 : Byte), 17], Requested s (sf 0 11 [n]) 11 [1] ∧ NoOven (sf 0 11 [n])) ∧
    (let t := onAir (.cls 1) (queuedFrame 3 2)
     t.down.tx = some (sends (.cls 1)) ∧ (t.oven 0).occupancy = .free ∧ ∃ h, t.down.classes[(1 : Fin 4)] =
      h :: [] ∧ h.frame.oven = ovenByte 0) ∧
    (kitchen.down.tx = none ∧ ∃ w, waiting.cleaning.queue = [] ++ w :: [] ∧ w.oven = 0) ∧
    (((transfer .opened 0).update 0).state ≠ .idle ∧ kitchen.up.frames.length < 31) :=
  ⟨by decide +kernel, rfl, numberLaw_of (by decide +kernel), by decide +kernel, by decide +kernel,
    ⟨rfl, by decide +kernel, _, rfl, by decide +kernel⟩, ⟨by decide +kernel, _, rfl, rfl⟩,
    by decide +kernel⟩

theorem witness_OvenSetAndWatchReload :
    (RequestedFor kitchen (sf 0 13 [1, 0, 0, 0]) 13 [4] 0 ∧ (kitchen.oven 0).record = some (rec1 1)) ∧
    (RequestedFor kitchen (sf 0 13 [2, 0, 0, 0]) 13 [4] 1 ∧ (kitchen.oven 1).record = none) ∧
    (RequestedFor kitchen (sf 0 16 [16]) 16 [1] 15 ∧ kitchen.watch 15 = some watch1) ∧
    (RequestedFor kitchen (sf 0 16 [2]) 16 [1] 1 ∧ (kitchen.oven 1).presence ≠ .active ∧
      (kitchen.oven 1).presence ≠ .silent) ∧ kitchen.saving = none ∧
    ∀ n ∈ [(0 : Byte), 17], Requested kitchen (sf 0 13 [n, 0, 0, 0]) 13 [4] ∧
      NoOven (sf 0 13 [n, 0, 0, 0]) ∧ Requested kitchen (sf 0 16 [n]) 16 [1] ∧ NoOven (sf 0 16 [n]) :=
  ⟨by decide +kernel, by decide +kernel, by decide +kernel, by decide +kernel, by decide +kernel, by decide +kernel⟩

theorem witness_ServiceMode :
    let served := kitchen.modOven 0 fun e => { e with service := true }
    RequestedFor kitchen (sf 0 14 [1]) 14 [1] 0 ∧
    ((kitchen.oven 1).record = none ∧ (kitchen.oven 0).record.isSome = true) ∧
    (cleaning.oven 0).occupancy ≠ .free ∧ (kitchen.oven 0).occupancy = .free ∧
    ((served.oven 0).service = true ∧ (kitchen.oven 0).service = false) ∧
    RequestedFor served (sf 0 15 [1]) 15 [1] 0 ∧
    (served.watch 0 = some watch1 ∧ (served.setWatch 0 none).watch 0 = none) ∧
    ∀ n ∈ [(0 : Byte), 17], Requested kitchen (sf 0 14 [n]) 14 [1] ∧ NoOven (sf 0 14 [n]) ∧
      Requested kitchen (sf 0 15 [n]) 15 [1] ∧ NoOven (sf 0 15 [n]) :=
  ⟨by decide +kernel, by decide +kernel, by decide +kernel, by decide +kernel, by decide +kernel, by decide +kernel,
    by decide +kernel, by decide +kernel⟩

theorem witness_MapStage :
    (RequestedTable kitchen (sf 0 20 [2, 0, 1, 2, 0xFF, 1]) 20 [6] ∧
      recipeOf (field [2, 0, 1, 2, 0xFF, 1] 0 2) = some 511) ∧
    ((kitchen.stepRec 767).owner = none ∧ (kitchen.recipe 511).live = none ∧
      (kitchen.recipe 511).draining = none) ∧
    (∀ p ∈ [([0, 1, 0, 0, 0, 1] : List Byte), [0, 1, 1, 0, 0, 0], [0, 1, 1, 0, 0, 25], [0, 1, 1, 3, 0, 1]],
      RequestedTable kitchen (sf 0 20 p) 20 [6]) ∧
    (RequestedTable (stored .live) (sf 0 20 [0, 2, 1, 0, 0, 2]) 20 [6] ∧
      (stored .live).stepRec 0 = { StepRec.blank with
        written := true, owner := some { recipe := 1, version := 1, role := .live } }) ∧
    ∀ p ∈ [([0, 0, 1, 0, 0, 1] : List Byte), [2, 1, 1, 0, 0, 1]],
      RequestedTable kitchen (sf 0 20 p) 20 [6] ∧ NoRecipe (sf 0 20 p) := by
  decide +kernel

theorem witness_DiscardStaged :
    let f := sf 0 26 [0, 1]
    ((staged).phase = .ready ∧ f.oven = 0 ∧ f.tag = 26 ∧ f.len.toNat = f.payload.length) ∧
    ((saving 0).saving.isSome = true ∧ (saving 0).clearing = none) ∧
    ({ kitchen with clearing := some { cls := 5, oven := 0, tag := 31, seq := 0 } } : State).clearing.isSome
      = true ∧
    (∀ n ∈ [0, 513], recipeOf n = none) ∧ recipeOf (field f.payload 0 2) = some 0 ∧
    (kitchen.recipe 0).staged = none ∧ ((staged).recipe 0).staged = some run1 := by decide +kernel

theorem witness_MasksAndMaps :
    (RequestedTable kitchen (sf 0 21 [2, 0, 15, 0, 1, 0xFF, 0xFE]) 21 [7] ∧
      recipeOf (field [2, 0, 15, 0, 1, 0xFF, 0xFE] 0 2) = some 511 ∧
      field [2, 0, 15, 0, 1, 0xFF, 0xFE] 3 4 < 131072) ∧
    (16 ≤ byteAt [0, 1, 16, 0, 0, 0, 0] 2 ∧ field [0, 1, 0, 0, 0, 0, 1] 3 4 % 2 = 1 ∧
      131072 ≤ field [0, 1, 0, 0, 2, 0, 0] 3 4) ∧
    (Requested kitchen (sf 0 40 [63, 3]) 40 [2] ∧ Requested kitchen (sf 0 40 [64, 0]) 40 [2] ∧
      Requested kitchen (sf 0 40 [0, 4]) 40 [2]) ∧
    (Requested kitchen (sf 0 42 [199, 3]) 42 [2] ∧ Requested kitchen (sf 0 42 [1, 0]) 42 [2] ∧
      Requested kitchen (sf 0 42 [0, 0]) 42 [2] ∧ Requested kitchen (sf 0 42 [200, 0]) 42 [2]) ∧
    (∀ p ∈ [([0, 0, 1, 0, 0, 0, 0] : List Byte), [2, 1, 1, 0, 0, 0, 0]],
      RequestedTable kitchen (sf 0 21 p) 21 [7] ∧ NoRecipe (sf 0 21 p)) := by
  refine ⟨?_, ?_, ?_, ?_, ?_⟩ <;> decide +kernel

theorem witness_ReleaseAndWithdraw :
    (RequestedTable (staged) (sf 0 24 [0, 1]) 24 [2] ∧ ((staged).recipe 0).staged = some run1 ∧
      ((staged).stepRec 0).written = true ∧ ((staged).stepRec 0).params.endKind ≠ .core) ∧
    ((staged false).stepRec 0).written = false ∧ (kitchen.recipe 0).staged = none ∧
    (((draining 1 (live 1)).recipe 0).draining.isSome = true ∧
      ∀ v ∈ ((draining 1 (live 1)).recipe 0).live, 0 < v.users) ∧
    (RequestedTable (live 0) (sf 0 25 [0, 1]) 25 [2] ∧ (∀ v ∈ ((live 0).recipe 0).live, v.users = 0)) ∧
    ((∀ v ∈ ((live 1).recipe 0).live, 0 < v.users) ∧ ((live 1).recipe 0).draining = none) ∧
    (kitchen.recipe 0).live = none ∧
    ∀ p ∈ [([0, 0] : List Byte), [2, 1]], RequestedTable kitchen (sf 0 24 p) 24 [2] ∧
      RequestedTable kitchen (sf 0 25 p) 25 [2] ∧ NoRecipe (sf 0 24 p) := by decide +kernel

/-- The nineteen field bytes of a step record. -/
def fields : List Byte := [1, 1, 44, 0, 1, 1, 0, 1, 0, 0, 0, 0, 0, 0, 0, 0, 0, 0, 1]

theorem witness_StepWrites :
    (RequestedTable kitchen (sf 0 27 ([2, 0xFF] ++ fields)) 27 [21] ∧ 767 = field ([2, 0xFF] ++ fields) 0 2) ∧
    (RequestedTable { kitchen with cursor := some { table := .stepStore, index := 767 } }
      (sf 0 28 fields) 28 [19]) ∧
    (Mode.ofCode (byteAt fields 0) = some .convection ∧ EndKind.ofCode (byteAt fields 5) = some .time ∧
      Overrun.ofCode (byteAt fields 18) = some .note) ∧
    ((stored .live).stepRec 0).owner = some { recipe := 1, version := 1, role := .live } ∧
    ((stored .staged).stepRec 0).owner = some { recipe := 1, version := 1, role := .staged } ∧
    (RequestedTable kitchen (sf 0 27 ([3, 0] ++ fields)) 27 [21] ∧ 768 ≤ field ([3, 0] ++ fields) 0 2) ∧
    (RequestedTable { kitchen with cursor := some { table := .stepStore, index := 767 } }
      (sf 0 28 (List.replicate 19 0)) 28 [19] ∧ byteAt (List.replicate 19 0) 0 ∉ [1, 2, 3]) ∧
    (RequestedTable kitchen (sf 0 28 fields) 28 [19] ∧ kitchen.cursor = none) := by
  decide +kernel

theorem witness_TableReads :
    (Requested kitchen (sf 0 22 [2, 0]) 22 [2] ∧ recipeOf (field [2, 0] 0 2) = some 511) ∧
    (Requested { kitchen with cursor := some { table := .recipeMap, index := 512 } } (sf 0 23 []) 23 [0]) ∧
    (Requested kitchen (sf 0 23 []) 23 [0] ∧ kitchen.cursor = none) ∧ 512 < 513 ∧
    (Requested kitchen (sf 0 29 [2, 0xFF]) 29 [2] ∧ field [2, 0xFF] 0 2 < 768) ∧
    (Requested kitchen (sf 0 29 [3, 0]) 29 [2] ∧ 768 ≤ field [3, 0] 0 2) ∧
    (Requested { kitchen with cursor := some { table := .stepStore, index := 767 } } (sf 0 30 []) 30 [0]) ∧
    (Requested { kitchen with cursor := some { table := .stepStore, index := 768 } } (sf 0 30 []) 30 [0]) ∧
    Requested kitchen (sf 0 41 [63]) 41 [1] ∧ Requested kitchen (sf 0 43 [199]) 43 [1] ∧
    kitchen.clearing = none ∧
    (∀ p ∈ [([0, 0] : List Byte), [2, 1]], Requested kitchen (sf 0 22 p) 22 [2] ∧ NoRecipe (sf 0 22 p)) ∧
    Requested kitchen (sf 0 41 [64]) 41 [1] ∧
    (∀ n ∈ [(0 : Byte), 200], Requested kitchen (sf 0 43 [n]) 43 [1]) := by
  refine ⟨?_, ?_, ?_, ?_, ?_, ?_, ?_, ?_, ?_, ?_, ?_, ?_, ?_, ?_⟩ <;> decide +kernel

theorem witness_TableClear :
    RequestedTable kitchen (sf 0 31 []) 31 [0] ∧ (∀ i, (kitchen.cook i).state = .idle) ∧
    (RequestedTable (cooking .running) (sf 0 31 []) 31 [0] ∧ ((cooking .running).cook 0).state ≠ .idle) ∧
    ({ kitchen with clearing := some { cls := 5, oven := 0, tag := 31, seq := 0 } } : State).clearing.isSome
      = true := by decide +kernel

theorem witness_Occurrences :
    (MergingLaw (called (call1 (some 0) 1 .major .reported)) ∧
      (called (call1 (some 0) 1 .major .reported)).call 0 = some (call1 (some 0) 1 .major .reported)) ∧
    ((∀ p, ∀ c ∈ (crowded 27 .minor).call p, c.oven ≠ some 0) ∧ (crowded 27 .minor).callsInUse < 28 ∧
      (crowded 27 .minor).call 27 = none ∧ ∀ q, q < (27 : Fin 32) → ((crowded 27 .minor).call q).isSome) ∧
    28 ≤ (crowded 28 .minor).callsInUse ∧ ((crowded 31 .minor).call 31 = none) ∧
    ((∀ q, ((crowded 32 .minor).call q).isSome = true) ∧
      (crowded 32 .minor).calls.order = (List.finRange 32).take 31 ++ 31 :: [] ∧
      (∀ c ∈ (crowded 32 .minor).call 31, c.severity ≠ .lockout)) ∧
    (∀ q, ∀ d ∈ (crowded 32 .lockout).call q, d.severity = .lockout) ∧
    ((locked1.oven 0).locked = true ∧ (kitchen.oven 0).locked = false ∧ (kitchen.update 0).state = .idle ∧
      ∀ u ∈ [UpdateState.opened, .receiving, .sealed], ((transfer u 0).oven 0).locked = false ∧
        ((transfer u 0).update 0).state = u) :=
  ⟨⟨mergingLaw_of (by decide +kernel), by decide +kernel⟩, by decide +kernel⟩

theorem witness_ServiceFrames :
    let s := called (call1 (some 0) 1 .major .opened)
    (∀ p ∈ s.calls.reports, (s.call p).isSome = true) ∧ s.nextReport = some 0 ∧
    s.up.frames.length < 32 ∧ 32 ≤ (upFull s).up.frames.length ∧ kitchen.nextReport = none ∧
    s.call 0 = some (call1 (some 0) 1 .major .opened) ∧
    (called (call1 (some 0) 1 .major .resolved)).call 0 = some (call1 (some 0) 1 .major .resolved) := by
  decide +kernel

theorem witness_CallAckAndClearOverflow :
    let s (st : CallState) := called (call1 (some 0) 1 .lockout st)
    (∀ st ∈ [CallState.opened, .reported, .acknowledged, .resolved],
      Requested (s st) (sf 0 45 [0, 1]) 45 [2] ∧ (s st).call 0 = some (call1 (some 0) 1 .lockout st)) ∧
    NumberLaw (s .reported) ∧ Requested (s .reported) (sf 0 45 [0, 0]) 45 [2] ∧
    (Requested (s .reported) (sf 0 45 [0, 2]) 45 [2] ∧
      ∀ p, ∀ c ∈ (s .reported).call p, c.number ≠ 2) ∧
    RequestedFor kitchen (sf 0 46 [1]) 46 [1] 0 ∧ kitchen.calls.overflow[(0 : Fin 16)] = false ∧
    (kitchen.setOverflow 0 true).calls.overflow[(0 : Fin 16)] = true ∧
    (∀ p, (kitchen.call p).isNone) ∧
    (∀ n ∈ [(0 : Byte), 17], Requested kitchen (sf 0 46 [n]) 46 [1] ∧ NoOven (sf 0 46 [n])) ∧
    (∀ st ∈ [CallState.reported, .acknowledged], ∀ b, let c := { call1 (some 0) 1 .lockout st with cleared := b }
      MergingLaw (called c) ∧ (called c).call 0 = some c ∧ c.state ≠ .resolved) ∧
    (locked1.lockHeld 0 ∧ ¬ (kitchen.modOven 0 fun e => { e with locked := true }).lockHeld 0 ∧
      ((kitchen.modOven 0 fun e => { e with locked := true }).oven 0).locked = true) :=
  ⟨by decide +kernel, numberLaw_of (by decide +kernel), by decide +kernel, by decide +kernel,
    by decide +kernel, by decide +kernel, by decide +kernel, by decide +kernel, by decide +kernel,
    fun st _ b => ⟨mergingLaw_of (by revert st b; decide +kernel), by revert st b; decide +kernel,
      by revert st b; decide +kernel⟩,
    .inr ⟨0, call1 (some 0) 1 .lockout .reported, by decide +kernel⟩, by
      rintro (h | ⟨p, c, h, -⟩)
      · exact absurd h (by decide +kernel)
      · exact absurd h (by
          have : (kitchen.modOven 0 fun e => { e with locked := true }).call p = none := by
            clear h; revert p; decide +kernel
          simp [this]), by decide +kernel⟩

/-- Clean requests are admitted in daypart 0. -/
def cleanDay (s : State) : State := { s with config := { s.config with cleanMask := 1 } }

theorem witness_CleanRequest :
    (∀ p ∈ [(1 : Byte), 4], Sent kitchen (sf 1 1 [p]) 1 0 1 ∧ (Programme.ofCode p.toNat).isSome = true) ∧
    (CleanAllowed (cleanDay kitchen) 0 ∧
      (cleanDay kitchen).cleaning.slotCount < (cleanDay kitchen).config.slotLimit ∧
      (cleanDay kitchen).config.cleanMask.getLsbD (cleanDay kitchen).daypart.val = true ∧
      (cleanDay kitchen).down.inUse < 48) ∧
    (CleanAllowed (poolFull (cleanDay kitchen)) 0 ∧ 48 ≤ (poolFull (cleanDay kitchen)).down.inUse) ∧
    (CleanAllowed kitchen 0 ∧ kitchen.config.cleanMask.getLsbD kitchen.daypart.val = false) ∧
    ((kitchen.oven 1).record = none ∧ ((withOven 0 .silent).oven 0).presence ≠ .active) ∧
    ((cleaning.oven 0).occupancy ≠ .free ∧ ∃ w ∈ waiting.cleaning.queue, w.oven = 0) ∧
    (Misformed kitchen (sf 0 1 [1]) 1 1 1 ∧ Misformed kitchen (sf 16 3 [1]) 1 1 1 ∧
      Misformed kitchen (sf 16 1 [1, 1]) 1 1 1) ∧
    ∀ n ∈ [(0 : Byte), 5], Sent kitchen (sf 1 1 [n]) 1 0 1 ∧ (n.toNat = 0 ∨ 4 < n.toNat) := by
  refine ⟨?_, ?_, ?_, ?_, ?_, ?_, ?_, ?_⟩ <;> decide +kernel

theorem witness_CleanCancel :
    Sent kitchen (sf 16 2 []) 2 15 0 ∧ (∃ w ∈ waiting.cleaning.queue, w.oven = 0) ∧
    ((kitchen.oven 0).occupancy ≠ .cleaning ∧ (cleaning.oven 0).occupancy = .cleaning) ∧
    (cleaning.cleanRecord 0).requestSent = false ∧
    ((cleaning.modCleanRecord 0 fun r => { r with requestSent := true }).cleanRecord 0).requestSent = true ∧
    48 ≤ (poolFull cleaning).down.inUse ∧ cleaning.down.inUse < 48 ∧
    (Misformed kitchen (sf 0 2 []) 2 0 0 ∧ Misformed kitchen (sf 16 2 [0]) 2 0 0) := by decide +kernel

/-- Ovens 1 and 16 wait, oven 1 SILENT, in the cleaning daypart; oven 16 with its lock and AUTO_CLEAN given. -/
def twoWait (locked autoClean : Bool) : State :=
  let s := ((cleanDay waiting).modOven 0 fun e => { e with presence := .silent }).modOven 15 fun e =>
    { e with locked := locked, record := some { rec1 16 with caps := ⟨true, true, autoClean⟩ } }
  { s with cleaning :=
      { s.cleaning with queue := s.cleaning.queue ++ [{ oven := 15, programme := .light, taken := 5, seq := 9 }] } }

theorem witness_AdmissionPass :
    CleaningLaw waiting ∧ (cleanDay waiting).admissionPass.slotOpen = true ∧ waiting.slotOpen = false ∧
      ((poolFull (cleanDay waiting)).admissionPass).cleaning.passHeld = true ∧
      (∀ l a, CleaningLaw (twoWait l a) ∧ (twoWait l a).slotOpen = true ∧
        ((twoWait l a).oven 0).presence = .silent ∧ ((twoWait l a).oven 0).locked = false ∧
        ((twoWait l a).oven 0).capabilities.autoClean = true ∧
        ((twoWait l a).oven 15).locked = l ∧ ((twoWait l a).oven 15).capabilities.autoClean = a ∧
        ((twoWait l a).oven 15).presence = .active ∧ ((twoWait l a).oven 15).service = false ∧
        (twoWait l a).down.inUse < 48) ∧
      CleaningLaw (poolFull (twoWait false true)) ∧ 48 ≤ (poolFull (twoWait false true)).down.inUse :=
  ⟨by unfold CleaningLaw State.cleaningOvens; decide +kernel, by decide +kernel, by decide +kernel,
    by decide +kernel, by unfold CleaningLaw State.cleaningOvens; decide +kernel,
    by unfold CleaningLaw State.cleaningOvens; decide +kernel, by decide +kernel⟩

/-- R85: the SILENT oven is skipped, the next is admitted with its own programme and sequence by route QUEUE. -/
theorem test_pass_order : let t := (twoWait false true).admissionPass
    t.cleaning.queue.map (·.oven) = [0] ∧ (t.oven 15).occupancy = .cleaning ∧
      ((t.cleanRecord 15).programme, (t.cleanRecord 15).seq) = (some .light, 9) ∧
      t.up.frames.map (·.payload) = [[16, 2, 9, 0, 0, 0, 5, 0, 0, 0, 0, 1, 2]] := by decide +kernel

theorem witness_CleaningEnds :
    (cleaning.oven 0).occupancy = .cleaning ∧
    (Heard cleaning 8 8 (uf 1 [3]) 0 ∧ CleanResult.ofCode (byteAt [3] 0) = some .fault ∧
      ((cleaning.noticed 0 8 (uf 1 [3])).oven 0).occupancy = .cleaning) ∧
    (Heard cleaning 8 8 (uf 1 [4]) 0 ∧ Heard kitchen 8 8 (uf 16 [1]) 15) ∧
    (Heard cleaning 8 7 (uf 1 [6]) 0 ∧ Heard cleaning 8 7 (uf 1 [7]) 0) ∧
    (RequestedFor cleaning (sf 0 47 [1]) 47 [1] 0 ∧
      ((cleaning.modOven 0 fun e => { e with presence := .silent }).oven 0).presence = .silent) ∧
    (∀ n ∈ [(0 : Byte), 17], Requested kitchen (sf 0 47 [n]) 47 [1] ∧ NoOven (sf 0 47 [n])) :=
  ⟨by decide +kernel, ⟨heard 1 1 (by decide +kernel), by decide +kernel⟩,
    ⟨heard 1 1 (by decide +kernel), heard 1 1 (by decide +kernel)⟩,
    ⟨heard 1 1 (by decide +kernel), heard 1 1 (by decide +kernel)⟩, by decide +kernel,
    by decide +kernel⟩

theorem witness_CookStarts :
    (∃ v, Sent (live 0) (sf 1 1 [0, 1, 0, 9]) 1 0 4 ∧ recipeOf (field [0, 1, 0, 9] 0 2) = some 0 ∧
      StartAllowed (live 0) 0 0 v) ∧
    (∃ v, Heard (live 0) 8 3 (uf 1 [0, 1]) 0 ∧
      StartAllowed ((live 0).noticed 0 3 (uf 1 [0, 1])) 0 0 v) ∧
    (StartFails kitchen 1 0 { result := .unknownOven } ∧ StartFails kitchen 0 511 { result := .noRecipe } ∧
      StartFails (cooking .starting) 0 0 { result := .busy, detail := 20 }) ∧
    (∀ n ∈ [0, 513], recipeOf n = none) ∧
    (Heard kitchen 8 3 (uf 1 [0, 0]) 0 ∧ Heard kitchen 8 3 (uf 1 [2, 0]) 0) ∧
    (∃ w, waiting.cleaning.queue = [] ++ w :: [] ∧ w.oven = 0) ∧
    (Misformed kitchen (sf 0 1 [0, 1, 0, 9]) 1 4 4 ∧ Misformed kitchen (sf 16 3 []) 1 4 4 ∧
      Misformed kitchen (sf 16 1 [0, 1, 0]) 1 4 4) :=
  ⟨⟨_, by decide +kernel, by decide +kernel, by
      unfold StartAllowed
      refine ⟨?_, ?_, ?_, ?_, ?_, ?_, ?_, ?_, rfl, ?_, ?_, nofun, nofun⟩ <;> decide +kernel⟩,
    ⟨_, heard 2 2 (by decide +kernel), by
      unfold StartAllowed
      refine ⟨?_, ?_, ?_, ?_, ?_, ?_, ?_, ?_, rfl, ?_, ?_, nofun, nofun⟩ <;> decide +kernel⟩,
    ⟨Or.inl (by decide +kernel), by
      refine Or.inr (Or.inr (Or.inr (Or.inr (Or.inr (Or.inr (Or.inr (Or.inr (Or.inl ?_))))))))
      refine ⟨⟨⟨?_, ?_, ?_, ?_⟩, ?_⟩, ?_, ?_⟩ <;> decide +kernel, by
      refine Or.inr (Or.inr (Or.inr (Or.inr (Or.inl ?_))))
      decide +kernel⟩,
    by decide +kernel, ⟨heard 2 2 (by decide +kernel), heard 2 2 (by decide +kernel)⟩, ⟨_, rfl, rfl⟩,
    by decide +kernel⟩

theorem witness_CookStops :
    (Sent kitchen (sf 16 2 []) 2 15 0 ∧ (kitchen.cook 15).state = .idle) ∧
    (Sent (cooking .ending) (sf 1 2 []) 2 0 0 ∧ ((cooking .ending).cook 0).state ≠ .idle) ∧
    (Heard (cooking .ending) 8 4 (uf 1 []) 0 ∧ Heard kitchen 8 4 (uf 1 []) 0) ∧
    ((kitchen.setSlot 0 { slot := .pending .stop true, timer := none }).slot 0).slot = .pending .stop true ∧
    (Misformed kitchen (sf 0 2 []) 2 0 0 ∧ Misformed kitchen (sf 16 2 [0]) 2 0 0) :=
  ⟨by decide +kernel, by decide +kernel, ⟨heard 0 0 (by decide +kernel), heard 0 0 (by decide +kernel)⟩,
    by decide +kernel, by decide +kernel⟩

theorem witness_CooksAndAppliesEnd :
    (recipeOf 1 = some 0 ∧ recipeOf 512 = some 511) ∧
    (∀ v ∈ ((live 1).recipe 0).live, v.run.version = 2) ∧
    (∀ n ∈ [0, 1, 2], ∀ w ∈ ((draining n (live 1)).recipe 0).draining,
      w.run.version = 3 ∧ w.users = n) ∧
    ((applying.oven 0).occupancy = .applying ∧ applying.watch 0 = some watch1 ∧
      (applying.oven 0).record = some (rec1 1) ∧ (applying.setWatch 0 none).watch 0 = none) := by
  decide +kernel

/-- The acknowledged step of a cook on oven 1. -/
def sentStep (c : CookState) : State :=
  (cooking c).setSlot 0
    { slot := .sent (if c = .ending then .endCook 1 else .step 1 2 StepRec.blank.params.head), timer := some 3 }

theorem witness_StepsAdvance :
    (∀ c ∈ [CookState.starting, .advancing, .ending],
      (((sentStep c).dispatched 0).cook 0).state = c ∧
      ((((sentStep c).dispatched 0).slot 0).slot = .sent (.step 1 2 StepRec.blank.params.head) ∨
        (((sentStep c).dispatched 0).slot 0).slot = .sent (.endCook 1))) ∧
    (Heard (sentStep .starting) 8 2 (uf 1 [1]) 0 ∧ byteAt (uf 1 [1]).payload 0 = 1) ∧
    (Heard kitchen 8 2 (uf 1 [1]) 0 ∧ ((kitchen.dispatched 0).cook 0).state = .idle) ∧
    (0 + 1 < 2 ∧ 1 ≤ 0 + 1) :=
  ⟨by decide +kernel, ⟨heard 1 1 (by decide +kernel), rfl⟩, ⟨heard 1 1 (by decide +kernel),
    by decide +kernel⟩, by decide⟩

theorem witness_SamplesAndCookWatch :
    let c := { CookCtx.reset with state := .running, baseline := false, dev := 100 }
    let p := { StepRec.blank.params with budget := 1, overrun := .abort }
    let x (t : BitVec 16) (door : Bool) : Sample :=
      { stamp := t, cavity := 300, core := -32768, door := door, probe := false }
    (Heard kitchen 7 0 (uf 1 [0, 1, 1, 44, 0x80, 0, 0]) 0 ∧
      Heard kitchen 7 0 (uf 16 (List.replicate 23 0)) 15) ∧
    (((kitchen.dispatched 0).oven 0).record.map (·.decimation) = some 10 ∧
      ((kitchen.dispatched 0).oven 0).counters.phase ≠ 10 - 1) ∧
    (((x 0 false).stamp - c.lastStamp).toNat = 0 ∧ 32768 ≤ ((x 32768 false).stamp - c.lastStamp).toNat) ∧
    (0 < ((x 32767 true).stamp - c.lastStamp).toNat ∧ ((x 32767 true).stamp - c.lastStamp).toNat < 32768 ∧
      (x 32767 true).door = true) ∧
    (0 < p.budget ∧ p.budget * 100 ≤ c.dev ∧ c.tripped = false ∧ p.overrun = .abort) ∧
    (StepRec.blank.params.budget = 0 ∧ StepRec.blank.params.endKind = .time ∧
      ({ p with endKind := .core } : StepParams).endKind = .core) :=
  ⟨⟨heard 7 23 (by decide +kernel), heard 7 23 (by decide +kernel)⟩, by decide +kernel⟩

theorem witness_UpdateTransfer :
    (Sent kitchen (sf 1 1 [0, 1, 0, 0x80, 0, 0, 0, 0, 0, 0, 1, 0]) 1 0 12 ∧
      field [0, 1, 0, 0x80, 0, 0, 0, 0, 0, 0, 1, 0] 2 4 = 8388608 ∧ (kitchen.update 0).state = .idle ∧
      (kitchen.update 0).queued = 0 ∧ kitchen.down.inUse < 48 ∧ 48 ≤ (poolFull kitchen).down.inUse) ∧
    (field [0, 0, 0, 0, 0, 1, 0, 0, 0, 0, 1, 0] 0 2 = 0 ∧
      8388608 < field [0, 1, 0, 0x80, 0, 1, 0, 0, 0, 0, 1, 0] 2 4) ∧
    ((kitchen.oven 1).record = none ∧ ((withOven 0 .silent).oven 0).presence ≠ .active) ∧
    (0 < ((kitchen.modUpdate 0 fun u => { u with queued := 1 }).update 0).queued) ∧
    (Sent (transfer .opened 0) (sf 1 2 [0, 0, 0, 0, 9, 9, 9, 9]) 2 0 8 ∧
      ((transfer .opened 0).update 0).state = .opened ∧ ((transfer .opened 0).update 0).passed = 0 ∧
      0 + 4 ≤ ((transfer .opened 0).update 0).length) ∧
    (0 < ((transfer .receiving 1).update 0).passed ∧ ((transfer .receiving 1).update 0).passed < 2) ∧
    (((transfer .receiving 1).update 0).length < 1 + 4) ∧
    (({ (transfer .opened 0) with config := { kitchen.config with bulkLimit := 0 } } : State).config.bulkLimit
      ≤ (transfer .opened 0).down.classes[3].length) ∧
    (Misformed kitchen (sf 0 1 (List.replicate 12 1)) 1 12 12 ∧ Misformed kitchen (sf 16 6 []) 1 12 12 ∧
      Misformed kitchen (sf 16 1 (List.replicate 13 1)) 1 12 12) ∧
    (Misformed kitchen (sf 16 2 (List.replicate 4 0)) 2 5 452 ∧
      Misformed kitchen (sf 16 2 (List.replicate 453 0)) 2 5 452) := by
  refine ⟨?_, ?_, ?_, ?_, ?_, ?_, ?_, ?_, ?_, ?_⟩ <;> decide +kernel

theorem witness_UpdateSealApplyAbort :
    (Sent (transfer .receiving 4) (sf 1 3 []) 3 0 0 ∧ Sent (transfer .sealed 4) (sf 1 4 []) 4 0 0 ∧
      Sent (transfer .failed 4) (sf 1 5 []) 5 0 0) ∧
    (((transfer .receiving 3).update 0).passed ≠ ((transfer .receiving 3).update 0).length) ∧
    (let u := ((transfer .receiving 4).modUpdate 0 fun u => { u with expectedCrc := 0#32 }).update 0
     u.passed = u.length ∧ ~~~u.crc = u.expectedCrc ∧ u.queued = 0) ∧
    (((transfer .sealed 4).update 0).state = .sealed ∧ ((transfer .sealed 4).oven 0).occupancy = .free) ∧
    ((∃ w ∈ waiting.cleaning.queue, w.oven = 0) ∧
      kitchen.config.updateMask.getLsbD kitchen.daypart.val = false ∧
      ({ kitchen with daypart := 3 } : State).config.updateMask.getLsbD 3 = true) ∧
    ((kitchen.update 0).state = .idle ∧ 48 ≤ (poolFull kitchen).down.inUse) ∧
    (Misformed kitchen (sf 0 3 []) 3 0 0 ∧ Misformed kitchen (sf 16 4 [0]) 4 0 0 ∧
      Misformed kitchen (sf 0 5 []) 5 0 0) := by decide +kernel

theorem witness_Direct :
    let f := sf 16 63 []
    (kitchen.phase = .ready ∧ f.len.toNat = f.payload.length ∧ f.oven.toNat ≤ 16 ∧
      ovenOf f.oven.toNat = some 15 ∧ f.tag.toNat = (63 : Fin 64).val ∧
      (kitchen.oven 15).record.isSome = true ∧ (kitchen.oven 15).presence = .active ∧
      kitchen.down.inUse < 48) ∧
    ((sf 0 63 []).oven = 0 ∧ 63 < (sf 1 64 []).tag.toNat ∧ (kitchen.oven 1).record = none) ∧
    (((withOven 0 .silent).oven 0).presence ≠ .active ∧ 48 ≤ (poolFull kitchen).down.inUse) := by
  decide +kernel

theorem witness_UpwardDispatch :
    (∀ n ∈ [0, 64], (uf 16 (List.replicate n 0)).payload.length ≤ 64) ∧
    (kitchen.phase = .ready ∧ ovenOf (uf 16 []).oven.toNat = some 15) ∧
    ((kitchen.oven 1).presence = .vacant ∧ ((announced 7).oven 1).presence = .announced ∧
      ((withOven 0 .commissioned).oven 0).presence = .commissioned) ∧
    ((kitchen.oven 15).presence = .active ∧ (kitchen.oven 15).record = some (rec1 16) ∧
      kitchen.watch 15 = some watch1 ∧ ((withOven 0 .silent).oven 0).presence = .silent) ∧
    kitchen.lineRx.partialFrame = none ∧
    (upForm (.sample 0 (uf 2 (List.replicate 7 0))) = some ⟨7, 0, uf 2 (List.replicate 7 0)⟩ ∧
      (∀ f, Instr.sample 0 (uf 2 (List.replicate 7 0)) ≠ .hello f) ∧ upwardLengths 7 0 = some (7, 23)) :=
  ⟨by decide +kernel, by decide +kernel, by decide +kernel, by decide +kernel, by decide +kernel, rfl, nofun,
    by decide +kernel⟩

/-- A HELLO's payload with a serial, a model class and an activity. -/
def helloOf (n m a : Byte) : List Byte := [0, 0, 0, 0, 0, n, m, 7, 1, 0, a]

theorem witness_HelloAndReconciliation :
    (kitchen.phase = .ready ∧ ovenOf (uf 1 (helloOf 1 1 0)).oven.toNat = some 0 ∧
      (helloOf 1 1 0).length = 11) ∧
    (byteAt (helloOf 1 0 0) 6 = 0 ∧ 3 < byteAt (helloOf 1 1 4) 10) ∧
    (¬ (byteAt (helloOf 1 1 3) 6 = 0 ∨ 3 < byteAt (helloOf 1 1 3) 10) ∧
      Activity.ofByte ((helloOf 1 1 3).getD 10 0) = some .updating) ∧
    ((kitchen.oven 1).presence = .vacant ∧ ((announced 7).oven 1).presence = .announced) ∧
    (∀ p ∈ [Presence.commissioned, .active, .silent], ((withOven 0 p).oven 0).presence = p ∧
      ((withOven 0 p).oven 0).record = some (rec1 1)) ∧
    ((rec1 1).serial = BitVec.ofNat 48 (field (helloOf 1 1 0) 0 6) ∧
      (rec1 1).serial ≠ BitVec.ofNat 48 (field (helloOf 2 1 0) 0 6)) ∧
    ((kitchen.oven 0).occupancy = .free ∧ (cleaning.oven 0).occupancy = .cleaning ∧
      (applying.oven 0).occupancy = .applying ∧ (applying.update 0).state = .applying) := by decide +kernel

theorem witness_OwnedNotices :
    (Heard kitchen 8 5 (uf 1 [199]) 0 ∧ Heard kitchen 8 5 (uf 1 [200]) 0) ∧
    (let s := called (call1 (some 0) 1 .major .reported)
     Heard s 8 6 (uf 1 [1]) 0 ∧ MergingLaw (s.noticed 0 6 (uf 1 [1])) ∧
      (s.noticed 0 6 (uf 1 [1])).call 0 = some (call1 (some 0) 1 .major .reported)) ∧
    (Heard kitchen 8 6 (uf 1 [199]) 0 ∧ ∀ p, ((kitchen.noticed 0 6 (uf 1 [199])).call p).isNone) ∧
    (∀ k ∈ [(1 : Byte), 2, 3], Heard applying 8 9 (uf 1 [k]) 0 ∧
      ((applying.noticed 0 9 (uf 1 [k])).update 0).state = .applying) ∧
    (∀ k ∈ [(1 : Byte), 2, 3], Heard kitchen 8 10 (uf 1 [k]) 0 ∧
      ((kitchen.noticed 0 10 (uf 1 [k])).oven 0).service = false ∧
      ((kitchen.noticed 0 10 (uf 1 [k])).oven 0).occupancy = .free) ∧
    (let t := (kitchen.modOven 0 fun e => { e with service := true }).noticed 0 10 (uf 1 [2])
     (t.oven 0).service = true ∧ t.watch 0 = some watch1 ∧ (t.oven 0).record = some (rec1 1)) := by
  refine ⟨⟨heard 1 1 (by decide +kernel), heard 1 1 (by decide +kernel)⟩,
    ⟨heard 1 1 (by decide +kernel), mergingLaw_of (by decide +kernel), by decide +kernel⟩,
    ⟨heard 1 1 (by decide +kernel), by decide +kernel⟩, ?_, ?_, by decide +kernel⟩
  all_goals
    intro k hk
    simp only [List.mem_cons, List.not_mem_nil, or_false] at hk
    rcases hk with rfl | rfl | rfl <;>
      exact ⟨heard 1 1 (by decide +kernel), by decide +kernel⟩

/-- Class queue `k` holds one frame. -/
def queued (k : Fin 4) : State := kitchen.pushDown k { frame := someFrame, live := true }

theorem witness_LineArbiter :
    (kitchen.down.tx = none ∧ ∀ k : Fin 4, (queued k).down.classes[k] = [{ frame := someFrame, live := true }]) ∧
    ({ kitchen with down := { kitchen.down with rollCall := true } } : State).down.rollCall = true ∧
    ((kitchen.setSlot 0 { slot := .pending .stop false, timer := none }).slot 0).slot =
      .pending .stop false ∧
    ((∀ k : Fin 4, kitchen.down.classes[k] = []) ∧ kitchen.down.rollCall = false) ∧
    ∀ i f b, (kitchen.slot i).slot ≠ .pending f b :=
  ⟨by decide +kernel, by decide +kernel, by decide +kernel, by decide +kernel, kitchen_noSlot⟩

theorem witness_TransmissionEnds :
    (∀ x, (onAir x kitchen).down.tx = some (sends x)) ∧
    (∀ f, ((kitchen.setSlot 15 { slot := .pending f true, timer := none }).slot 15).slot =
      .pending f true) ∧
    (∀ c t, (queuedFrame c t).down.classes[(1 : Fin 4)] =
      { frame := { someFrame with cls := c, tag := t }, live := true } :: []) ∧
    ovenOf someFrame.oven.toNat = some 0 :=
  ⟨fun _ => rfl, fun _ => rfl, fun _ _ => rfl, by decide +kernel⟩

theorem witness_StoreLinkSends :
    (upFull ready).up.frames = someFrame :: List.replicate 31 someFrame ∧ (upFull ready).up.tx = none ∧
    (upFull ready).pause.remaining = 0 ∧ 0 < ({ ready with pause := ⟨65535, 0⟩ } : State).pause.remaining ∧
    (upFull ready).softReset = none ∧ someFrame.cls ≠ 9 ∧
    ({ upFull ready with softReset := some 5 } : State).up.frames ≠ [] := by decide +kernel

theorem witness_FramesSpellTheirCommands :
    (storeForm (.cookStop (sf 16 2 [])) = some ⟨1, 2, sf 16 2 []⟩ ∧
      wellFormed (.cookStop (sf 16 2 [])) = true) ∧
    (upForm (.ovenNote (uf 16 [])) = some ⟨8, 11, uf 16 []⟩ ∧ wellFormed (.ovenNote (uf 16 [])) = true) :=
  ⟨⟨rfl, by decide +kernel⟩, ⟨rfl, by decide +kernel⟩⟩

/-- A step of a full part: both queues at their bounds. -/
theorem witness_QueueBoundsKept :
    QueueBounds (upFull (poolFull kitchen)) ∧ ∃ t, step (upFull (poolFull kitchen)) = .next t :=
  ⟨by unfold QueueBounds; decide +kernel, _, rfl⟩

theorem witness_OvenTableLawsKept :
    SerialLaw kitchen ∧ PresenceLaw kitchen ∧ ∃ t, step kitchen = .next t := by
  have r : ∀ i j, ∀ a ∈ (kitchen.oven i).record, ∀ b ∈ (kitchen.oven j).record, a.serial = b.serial →
      i = j := by decide +kernel
  have w : ∀ i : OvenId, ((kitchen.oven i).record.isSome = true ↔
      (kitchen.oven i).presence ≠ .vacant ∧ (kitchen.oven i).presence ≠ .announced) ∧
      ((kitchen.watch i).isSome = true ↔
        (kitchen.oven i).presence = .active ∨ (kitchen.oven i).presence = .silent) ∧
      (∀ w ∈ kitchen.watch i, (w.frozen = true ↔
        (kitchen.oven i).service = true ∨ (kitchen.oven i).occupancy = .applying)) ∧
      (kitchen.phase = .restoring → kitchen.watch i = none) := by decide +kernel
  exact ⟨⟨fun i j a b ha hb => r i j a ha b hb, nofun⟩, w, _, rfl⟩

/-- One cook runs the live version of recipe 1. -/
def brewing : State :=
  { State.reset with
      phase := .ready
      ovens := State.reset.ovens.set 0 { OvenEntry.reset with
        presence := .active, record := some (rec1 1), occupancy := .cooking }
      recipes := State.reset.recipes.set 0 { RecipeEntry.reset with
        live := some { run := { version := 2, first := 0, count := 1 }, needs := ⟨false, false⟩, users := 1 } }
      steps := State.reset.steps.set 0 { StepRec.blank with
        written := true, owner := some { recipe := 1, version := 2, role := .live } }
      cooks := State.reset.cooks.set 0 { CookCtx.reset with
        state := .running, recipe := 1, version := 2, count := 1 } }

theorem brewing_steps (k : Fin 768) :
    brewing.steps[k].owner = if k = 0 then some { recipe := 1, version := 2, role := .live } else none := by
  have h : ∀ j (hj : j < 768), brewing.steps[j].owner =
      if j = 0 then some { recipe := 1, version := 2, role := .live } else none := by
    intro j hj
    simp only [brewing, State.reset, Vector.getElem_set, Vector.getElem_replicate]
    rcases j with _ | j <;> simp [StepRec.blank]
  rw [Fin.getElem_fin, h k.val k.isLt]
  exact if_congr (by rw [Fin.ext_iff]; rfl) rfl rfl

theorem brewing_recipes (r : Fin 512) : brewing.recipe r =
    if r = 0 then { RecipeEntry.reset with
        live := some { run := { version := 2, first := 0, count := 1 }, needs := ⟨false, false⟩, users := 1 } }
    else RecipeEntry.reset := by
  have h : ∀ j (hj : j < 512), brewing.recipes[j] =
      if j = 0 then { RecipeEntry.reset with
        live := some { run := { version := 2, first := 0, count := 1 }, needs := ⟨false, false⟩, users := 1 } }
      else RecipeEntry.reset := by
    intro j hj
    simp only [brewing, State.reset, Vector.getElem_set, Vector.getElem_replicate]
    rcases j with _ | j <;> simp
  rw [State.recipe, Fin.getElem_fin, h r.val r.isLt]
  exact if_congr (by rw [Fin.ext_iff]; rfl) rfl rfl

theorem brewing_runs (r : Fin 512) (a : Role) : (brewing.recipe r).runOf a =
    if r = 0 ∧ a = .live then some { version := 2, first := 0, count := 1 } else none := by
  rw [brewing_recipes]
  by_cases h : r = 0 <;> cases a <;> simp [RecipeEntry.runOf, RecipeEntry.reset, h]

/-- The laws of step records and of user counts where one cook runs. -/
theorem brewing_law : RecipeLaw brewing := by
  have run (r : Fin 512) (a : Role) : brewing.recipes[r].runOf a = _ := brewing_runs r a
  refine ⟨⟨fun k o => ?_, fun r a x h => ?_, fun r a b x y hx hy _ => ?_⟩, nofun, fun r v h => ?_,
    fun r v h => ?_, fun i h => ?_, nofun⟩
  · rw [brewing_steps]
    constructor
    · intro h
      split at h
      · rename_i hk
        cases h; subst hk
        exact ⟨0, _, by decide, run 0 .live, rfl, by decide, by decide⟩
      · cases h
    · rintro ⟨r, x, hr, hx, hv, hf, hc⟩
      rw [run] at hx
      split at hx
      · rename_i h
        obtain ⟨n, v, a⟩ := o
        obtain ⟨rfl, rfl⟩ := h
        cases hx
        have hn : n = 1 := by
          unfold recipeOf at hr
          split at hr
          · have := congrArg (fun o => o.map Fin.val) hr
            simp only [Option.map_some, Fin.val_zero, Option.some.injEq] at this
            rename_i h; simp only at h; omega
          · cases hr
        have hk : k = 0 := Fin.ext (by simpa using hc)
        simp only at hv
        simp [hn, ← hv, hk]
      · cases hx
  · rw [run] at h
    split at h
    · cases h; decide
    · cases h
  · rw [run] at hx hy
    split at hx <;> split at hy <;> simp_all
  · rw [brewing_recipes] at h
    split at h
    · rename_i hr
      cases h; subst hr; decide +kernel
    · cases h
  · rw [brewing_recipes] at h
    split at h <;> cases h
  · have : ∀ i, (brewing.cook i).state ≠ .idle → i = 0 := by decide +kernel
    cases this i h
    exact ⟨0, .live, by decide +kernel, by decide, by decide +kernel⟩
theorem witness_OccupancyAndCleaningLawsKept :
    OccupancyLaw brewing ∧ RecipeLaw brewing ∧ (brewing.cook 0).state ≠ .idle ∧ CleaningLaw cleaning ∧
      ∃ t, step cleaning = .next t :=
  ⟨by unfold OccupancyLaw; decide +kernel, brewing_law, by decide +kernel,
    by unfold CleaningLaw State.cleaningOvens; decide +kernel, _, rfl⟩

theorem witness_CallTableLawsKept :
    MergingLaw (crowded 32 .minor) ∧ NumberLaw (crowded 32 .minor) ∧ ∃ t, step (crowded 32 .minor) = .next t :=
  ⟨mergingLaw_of (by decide +kernel), numberLaw_of (by decide +kernel), _, rfl⟩

theorem witness_LockLawKept : LockLaw locked1 ∧ ∃ t, step locked1 = .next t := by
  have h : ∀ i, ((locked1.oven i).locked = true ↔ (locked1.calls.overflow[i] = true ∨
      ∃ p, ∃ c ∈ locked1.call p, c.state ≠ .resolved ∧ c.oven = some i ∧ c.severity = .lockout)) ∧
      ((locked1.oven i).locked = true → (locked1.cook i).state = .idle) ∧
      (locked1.phase = .restoring → (locked1.oven i).locked = false) := by decide +kernel
  exact ⟨h, _, rfl⟩

theorem witness_UpdateLawKept :
    UpdateLaw ((transfer .sealed 4).modUpdate 0 fun u => { u with expectedCrc := 0#32 }) ∧
      ∃ t, step (transfer .sealed 4) = .next t :=
  ⟨by unfold UpdateLaw; decide +kernel, _, rfl⟩

/-! ### Worked values and single steps -/

/-- The state after one command. -/
def after (c : Instr) (s : State) : State :=
  match exec c s with
  | .next t => t
  | _ => s

/-- The result code a REPLY at the tail of the Upward Queue carries (R155). -/
def lastResult (s : State) : Option Byte := s.up.frames.getLast?.map fun k => k.payload.getD 3 0

/-- The digits 1 to 9, over which the two CRCs have published check values. -/
def digits : List Byte := [0x31, 0x32, 0x33, 0x34, 0x35, 0x36, 0x37, 0x38, 0x39]

theorem test_crc16 : crc16 digits = 0x29B1 := by decide +kernel
theorem test_crc32 : crc32 digits = 0xCBF43926 := by decide +kernel

/-- R152, R157: class 5, oven 0, tag 00 05, sequence 9, length 0. -/
theorem test_decode_rollCall : decodeFrame 0 [5, 0, 0, 5, 9, 0, 0] =
    some (.rollCall { src := 0, oven := 0, tag := 5, seq := 9, len := 0, payload := [] }) := by decide +kernel
/-- R152, R156: COOK START of recipe 512, batch 258, for oven 16. -/
theorem test_decode_cookStart : decodeFrame 0 [1, 16, 0, 1, 9, 0, 4, 2, 0, 1, 2] =
    some (.cookStart { src := 0, oven := 16, tag := 1, seq := 9, len := 4, payload := [2, 0, 1, 2] }) := by
  decide +kernel
/-- R152, R154: NOTICE kind 5, FAULT of code 199 from oven 3. -/
theorem test_decode_fault : decodeFrame 0 [8, 3, 0, 5, 9, 0, 1, 199] =
    some (.fault { oven := 3, seq := 9, payload := [199] }) := by decide +kernel
/-- R152: the tag of a SAMPLE is not read; R147: padding is not read. -/
theorem test_decode_sample : decodeFrame 0 ([7, 3, 1, 2, 9, 0, 7, 0, 1, 0, 2, 0, 3, 0] ++ [0, 0]) =
    some (.sample 0x0102 { oven := 3, seq := 9, payload := [0, 1, 0, 2, 0, 3, 0] }) := by decide +kernel
theorem test_decode_cut : decodeFrame 0 [8, 3, 0, 5, 9, 0, 2, 199] = none := by decide +kernel
theorem test_table_has_no_words : decodeTableWord 32 5 = none := rfl

/-- R150: start byte, header, payload, CRC-16 high byte first. -/
theorem test_line_bytes : (lineBytes someFrame).length = 10 ∧
    (lineBytes someFrame).take 8 = [0x7E, 4, 1, 0, 0, 0, 0, 0] := by decide +kernel
/-- R150: 0x7E is 0111 1110, least significant bit first; a frame of 10 bytes takes 140 µs with its gap. -/
theorem test_line_bits : byteBits 0x7E = [.start, .data false, .data true, .data true, .data true, .data true,
      .data true, .data true, .data false, .stop] ∧ (lineSignal someFrame).length = 140 := by decide +kernel
/-- R147: 39 zero bytes after a frame without payload. -/
theorem test_padding : ethPad someFrame.bytes = someFrame.bytes ++ List.replicate 39 0 := by decide +kernel

theorem test_ready_rollCall : (after .ready State.reset).down.rollCall = true := by decide +kernel
theorem test_startUpDiscard : (after (.startUpDiscard .store) State.reset).counters.startUp = 1 := by
  decide +kernel
theorem test_tick_second : (after .watchTick { ready with tickPhase := 9 }).lineTime = 1 := by decide +kernel
/-- R124: line time wraps from its highest value to 0. -/
theorem test_tick_wraps : (after .watchTick { ready with tickPhase := 9, lineTime := 0xFFFFFFFF }).lineTime =
    0 := by decide +kernel
/-- R128: silence after the watch runs out. -/
theorem test_silence : ((after (.silenceWatchExpiry 0) (expired .active)).oven 0).presence = .silent := by
  decide +kernel
/-- R52: a STOP follows a missing acknowledgement of a step. -/
theorem test_noAck : ((after (.ackTimerExpiry 0) (unacked .starting)).slot 0).slot = .pending .stop false := by
  decide +kernel
/-- R161: a slot limit of 9 is stored as 8 and answered DONE (2). -/
theorem test_config_clamped : (after (.configWrite (sf 0 2 [4, 0, 9])) ready).config.slotLimit = 8 ∧
    lastResult (after (.configWrite (sf 0 2 [4, 0, 9])) ready) = some 2 := by decide +kernel
/-- R161: 0x8808 is refused with BAD_FIELD (40). -/
theorem test_config_mac : lastResult (after (.configWrite (sf 0 2 [1, 0x88, 8])) ready) = some 40 := by
  decide +kernel
theorem test_daypart : (after (.daypartSet (sf 0 4 [3])) ready).daypart = 3 := by decide +kernel
/-- R15: the same serial makes an ANNOUNCED entry ACTIVE, another one COMMISSIONED. -/
theorem test_commission :
    ((after (.ovenCommission (sf 0 10 [2, 0, 0, 0, 0, 0, 7, 1, 7])) (announced 7)).oven 1).presence = .active ∧
    ((after (.ovenCommission (sf 0 10 [2, 0, 0, 0, 0, 0, 8, 1, 7])) (announced 7)).oven 1).presence =
      .commissioned := by decide +kernel
/-- R17: OCCUPIED (14) for a cooking oven; a free one becomes VACANT. -/
theorem test_retire : lastResult (after (.ovenRetire (sf 0 11 [1])) (cooking .running)) = some 14 ∧
    ((after (.ovenRetire (sf 0 11 [1])) kitchen).oven 0).presence = .vacant := by decide +kernel
/-- R14: a scale of 7 is stored as 4, a window of 0 as 1, a decimation of 61 as 60. -/
theorem test_ovenSet : ((after (.ovenSet (sf 0 13 [1, 0, 7, 61])) kitchen).oven 0).record =
    some { rec1 1 with window := 1, scale := 4, decimation := 60 } := by decide +kernel
theorem test_service : ((after (.serviceEnter (sf 0 14 [1])) kitchen).watch 0) =
    some { watch1 with frozen := true } := by decide +kernel
/-- R27: the record 767 becomes STAGED for recipe 512. -/
theorem test_mapStage :
    ((after (.mapStage (sf 0 20 [2, 0, 5, 2, 0xFF, 1])) kitchen).stepRec 767).owner =
      some { recipe := 512, version := 5, role := .staged } := by decide +kernel
theorem test_discardStaged : ((after (.discardStaged (sf 0 26 [0, 1])) (staged)).stepRec 0).owner = none := by
  decide +kernel
/-- R31: the old live version drains with its user; the record of the new one is LIVE. -/
theorem test_release :
    ((after (.release (sf 0 24 [0, 1])) (staged true (live 1))).recipe 0).draining =
      some { run := { run1 with version := 2 }, users := 1 } ∧
    ((after (.release (sf 0 24 [0, 1])) (staged)).stepRec 0).owner =
      some { recipe := 1, version := 1, role := .live } := by decide +kernel
/-- R23: cavity 299 is stored as 300, a fan level of 6 as 5. -/
theorem test_stepWrite :
    let s := after (.stepWrite (sf 0 27 ([2, 0xFF, 1, 1, 43, 101, 6, 1, 0, 1] ++ List.replicate 10 0 ++ [1])))
      kitchen
    (s.stepRec 767).params.cavity = 300 ∧ (s.stepRec 767).params.fan = 5 ∧ (s.stepRec 767).written = true := by
  decide +kernel
/-- R98, R105: a LOCKOUT fault locks its oven. -/
theorem test_fault_locks :
    ((after (.fault (uf 1 [3])) { kitchen with severity := kitchen.severity.set 2 .lockout }).oven 0).locked =
      true := by decide +kernel
/-- R104, R105: acknowledging a cleared LOCKOUT call unlocks. -/
theorem test_ack_unlocks :
    ((after (.callAck (sf 0 45 [0, 1]))
      ((called { call1 (some 0) 1 .lockout .reported with cleared := true }).modOven 0
        fun e => { e with locked := true })).oven 0).locked = false := by decide +kernel
/-- R81: QUEUED (3) outside the clean daypart mask, ACCEPTED (1) inside it. -/
theorem test_cleanRequest : lastResult (after (.cleanRequest (sf 1 1 [1])) kitchen) = some 3 ∧
    lastResult (after (.cleanRequest (sf 1 1 [1])) (cleanDay kitchen)) = some 1 := by decide +kernel
/-- R47: the first STEP is PENDING and the context STARTING. -/
theorem test_cookStart :
    ((after (.cookStart (sf 1 1 [0, 1, 0, 9])) (live 0)).cook 0).state = .starting ∧
    ((after (.cookStart (sf 1 1 [0, 1, 0, 9])) (live 0)).recipe 0).live.map (·.users) = some 1 := by
  decide +kernel
theorem test_cookStop : ((after (.cookStop (sf 1 2 [])) (cooking .running)).oven 0).occupancy = .free := by
  decide +kernel
/-- R50: the acknowledged END completes the cook. -/
theorem test_stepAck_end : ((after (.stepAck (uf 1 [1])) (sentStep .ending)).cook 0).state = .idle := by
  decide +kernel
/-- R51: another index is stale. -/
theorem test_stepAck_stale : ((after (.stepAck (uf 1 [2])) (sentStep .ending)).oven 0).counters.staleAcks =
    1 := by decide +kernel
/-- R115: four bytes of 0xFF after the start value leave their CRC-32, 0xFFFFFFFF. -/
theorem test_updateChunk :
    ((after (.updateChunk (sf 1 2 [0, 0, 0, 0, 0xFF, 0xFF, 0xFF, 0xFF]))
      ((transfer .opened 0).modUpdate 0 fun u => { u with crc := crc32Start })).update 0).passed = 4 ∧
    crc32 [0xFF, 0xFF, 0xFF, 0xFF] = 0xFFFFFFFF := by decide +kernel
/-- R143: class queue 0 before the roll call. -/
theorem test_arbiter : ((after .lineTransmitterTake
    { queued 0 with down := { (queued 0).down with rollCall := true } }).down.tx).map (·.source) =
      some (.cls 0) := by decide +kernel
/-- R151: the whole frame of a STEP_ACK is delivered with a correct check. -/
theorem test_receiver :
    ((LineRx.hunt true).run (onLine (lineBytes { cls := 8, oven := 1, tag := 2, seq := 0, payload := [1]
      }))).2.getLast? = some (.whole [8, 1, 0, 2, 0, 0, 1, 1] true) := by decide +kernel
/-- R149: 65,535 quanta are the longest pause. -/
theorem test_pause : (after (.pauseFrame pauseMulticast 0xFFFF) ready).pause.remaining = 65535 := by
  simp [after, exec, execPauseFrame, doPauseFrame, pauseDest]

end Sys2Proof.Tests
end

section
/-! SUPPORT. The queue of waiting commands is the model's (log 1): no operation of the part touches it, and every
command of the table is followed by a next state with the rest of the queue waiting. -/

namespace Sys2Proof.Machine

variable {s : State}

/-! ### Entries, watches and Cleaning Admission leave the queue -/

namespace State

variable (s) (i : OvenId)

@[simp] theorem modOvenCounters_pending (f : OvenCounters → OvenCounters) :
    (s.modOvenCounters i f).pending = s.pending := rfl

@[simp] theorem setOccupancy_pending (o : Occupancy) : (s.setOccupancy i o).pending = s.pending := rfl

@[simp] theorem releaseOccupancy_pending (job : Occupancy) :
    (s.releaseOccupancy i job).pending = s.pending := by
  unfold releaseOccupancy; split <;> simp

@[simp] theorem setPresence_pending (p : Presence) (c : PresenceCause) :
    (s.setPresence i p c).pending = s.pending := by simp [setPresence]

@[simp] theorem reloadWatch_pending : (s.reloadWatch i).pending = s.pending := by
  unfold reloadWatch; split <;> simp

@[simp] theorem startWatch_pending : (s.startWatch i).pending = s.pending := by
  unfold startWatch; split <;> simp

@[simp] theorem refreeze_pending : (s.refreeze i).pending = s.pending := by
  unfold refreeze; split <;> simp

@[simp] theorem removeWait_pending : (s.removeWait i).pending = s.pending := rfl

@[simp] theorem joinWait_pending (p : Programme) (seq : Byte) :
    (s.joinWait i p seq).pending = s.pending := rfl

@[simp] theorem dropWait_pending (r : DropReason) : (s.dropWait i r).pending = s.pending := by
  unfold dropWait; split <;> simp

@[simp] theorem takeSlot_pending : (s.takeSlot i).pending = s.pending := rfl

@[simp] theorem admitOven_pending (p : Programme) (seq : Byte) (taken : LineTime) (route : Route) :
    (s.admitOven i p seq taken route).pending = s.pending := by simp [admitOven]

@[simp] theorem admissionPass_pending : s.admissionPass.pending = s.pending :=
  admissionPass_induct (fun t => t.pending = s.pending) (fun _ _ h => h)
    (fun _ _ _ h => by simp [h]) (fun _ _ h _ _ _ _ _ _ _ => by simp [h]) rfl

@[simp] theorem bufferFreed_pending : s.bufferFreed.pending = s.pending := by
  unfold bufferFreed; split <;> simp

/-! ### The Call Table leaves the queue -/

@[simp] theorem freeCall_pending (p : Fin 32) : (s.freeCall p).pending = s.pending := rfl
@[simp] theorem leaveReports_pending (p : Fin 32) : (s.leaveReports p).pending = s.pending := rfl
@[simp] theorem joinReports_pending (p : Fin 32) : (s.joinReports p).pending = s.pending := rfl
@[simp] theorem loseCall_pending : s.loseCall.pending = s.pending := rfl
@[simp] theorem ignoreFault_pending : s.ignoreFault.pending = s.pending := rfl

@[simp] theorem reportCall_pending (p : Fin 32) : (s.reportCall p).pending = s.pending := by
  unfold reportCall
  split
  · split <;> simp
  · simp

@[simp] theorem buildService_pending : s.buildService.pending = s.pending :=
  buildService_induct (fun t => t.pending = s.pending) (fun _ _ h _ _ => by simp [h]) rfl

@[simp] theorem relock_pending : (s.relock i).pending = s.pending := by
  unfold relock; split <;> simp

@[simp] theorem relockFor_pending (c : Call) : (s.relockFor c).pending = s.pending := by
  unfold relockFor; split <;> simp

@[simp] theorem resolveCall_pending (p : Fin 32) (c : Call) :
    (s.resolveCall p c).pending = s.pending := by simp [resolveCall]

@[simp] theorem clearCall_pending (p : Fin 32) : (s.clearCall p).pending = s.pending := by
  unfold clearCall
  repeat' split
  all_goals simp

@[simp] theorem clearAtSource_pending (sub : Option OvenId) (code : Nat) :
    (s.clearAtSource sub code).pending = s.pending := by
  unfold clearAtSource; split <;> simp

@[simp] theorem mergeCall_pending (p : Fin 32) : (s.mergeCall p).pending = s.pending := by
  unfold mergeCall; split <;> simp

@[simp] theorem createCall_pending (p : Fin 32) (sub : Option OvenId) (code : Nat) (sev : Severity)
    (kind : CallKind) : (s.createCall p sub code sev kind).pending = s.pending := by
  simp [createCall]

/-! ### The Cook Engine leaves the queue -/

@[simp] theorem putStop_pending : (s.putStop i).pending = s.pending := rfl

@[simp] theorem putPending_pending (f : SlotFrame) : (s.putPending i f).pending = s.pending := rfl

@[simp] theorem dropDraining_pending (r : Fin 512) (version : Nat) :
    (s.dropDraining r version).pending = s.pending := by
  unfold dropDraining
  repeat' split
  all_goals simp

@[simp] theorem dropUser_pending (recipe version : Nat) :
    (s.dropUser recipe version).pending = s.pending := by
  unfold dropUser
  repeat' split
  all_goals simp

@[simp] theorem cookGoIdle_pending (r : CookResult) : (s.cookGoIdle i r).pending = s.pending := by
  simp [cookGoIdle]

@[simp] theorem stopCook_pending (r : CookResult) : (s.stopCook i r).pending = s.pending := by
  unfold stopCook; split <;> simp

@[simp] theorem advanceCook_pending : (s.advanceCook i).pending = s.pending := by
  unfold advanceCook; dsimp only; split <;> simp

@[simp] theorem acceptCook_pending (r : Fin 512) (v : LiveVersion) (origin : Origin) (batch : BitVec 16) :
    (s.acceptCook i r v origin batch).pending = s.pending := by simp [acceptCook]

/-! ### Occurrences, locks and the ends of jobs leave the queue -/

@[simp] theorem lockUpdate_pending : (s.lockUpdate i).pending = s.pending := by
  unfold lockUpdate; split <;> simp

@[simp] theorem lockOven_pending : (s.lockOven i).pending = s.pending := by
  unfold lockOven; split <;> simp

@[simp] theorem lockSubject_pending (sub : Option OvenId) : (s.lockSubject sub).pending = s.pending := by
  cases sub <;> simp [lockSubject]

@[simp] theorem overflowSubject_pending (sub : Option OvenId) :
    (s.overflowSubject sub).pending = s.pending := by
  cases sub <;> simp [overflowSubject]

@[simp] theorem raise_pending (sub : Option OvenId) (code : Nat) (sev : Severity) (kind : CallKind) :
    (s.raise sub code sev kind).pending = s.pending := by
  obtain ⟨p, c, -, -, merged⟩ | ⟨-, ⟨-, lost⟩ | ⟨p, -, -, -, created⟩ | ⟨p, -, -, locking⟩ |
    ⟨p, -, -, -, displacing⟩ | ⟨-, -, -, overflowing⟩⟩ := raise_cases (s := s) sub code sev kind
  · simp [merged]
  · simp [lost]
  · simp [created]
  · simp [locking]
  · simp [displacing]
  · simp [overflowing]

@[simp] theorem staleRequests_pending : (s.staleRequests i).pending = s.pending := rfl

@[simp] theorem giveSlot_pending : (s.giveSlot i).pending = s.pending := by
  unfold giveSlot; split <;> simp

@[simp] theorem endCleaning_pending (r : CleanResult) (by' : EndedBy) :
    (s.endCleaning i r by').pending = s.pending := by
  unfold endCleaning; dsimp only; split <;> simp

@[simp] theorem adopt_pending : (s.adopt i).pending = s.pending := by simp [adopt]

@[simp] theorem endApply_pending (cause : FailCause) (announced : Version) :
    (s.endApply i cause announced).pending = s.pending := by
  unfold endApply; dsimp only; split <;> simp

/-! ### The cook watch leaves the queue -/

@[simp] theorem raiseIf_pending (code : Nat) (sev : Option Severity) :
    (s.raiseIf i code sev).pending = s.pending := by
  cases sev <;> simp [raiseIf]

@[simp] theorem applyVerdict_pending (v : Verdict) : (s.applyVerdict i v).pending = s.pending := by
  cases v <;> simp [applyVerdict]

@[simp] theorem watchSample_pending (x : Sample) : (s.watchSample i x).pending = s.pending := by
  unfold watchSample
  dsimp only
  repeat' split
  all_goals simp

/-! ### The receivers leave the queue -/

@[simp] theorem countDiscard_pending (f : Discards → Nat → Discards) (g : Discards → Nat) :
    (s.countDiscard f g).pending = s.pending := rfl

@[simp] theorem countStartUp_pending : s.countStartUp.pending = s.pending := rfl
@[simp] theorem countLineLength_pending : s.countLineLength.pending = s.pending := rfl
@[simp] theorem countLineSource_pending : s.countLineSource.pending = s.pending := rfl
@[simp] theorem countLineClass_pending : s.countLineClass.pending = s.pending := rfl
@[simp] theorem countUnknownSource_pending : s.countUnknownSource.pending = s.pending := rfl
@[simp] theorem countStoreFcs_pending : s.countStoreFcs.pending = s.pending := rfl
@[simp] theorem countStoreForeign_pending : s.countStoreForeign.pending = s.pending := rfl
@[simp] theorem countStoreLength_pending : s.countStoreLength.pending = s.pending := rfl
@[simp] theorem countStoreClass_pending : s.countStoreClass.pending = s.pending := rfl
@[simp] theorem countStoreAddress_pending : s.countStoreAddress.pending = s.pending := rfl
@[simp] theorem countReceived_pending : (s.countReceived i).pending = s.pending := rfl
@[simp] theorem countRefused_pending : (s.countRefused i).pending = s.pending := rfl
@[simp] theorem countStaleAck_pending : (s.countStaleAck i).pending = s.pending := rfl

@[simp] theorem lineError_pending : s.lineError.pending = s.pending := by
  unfold lineError; dsimp only; split <;> simp

@[simp] theorem countLineCrc_pending : s.countLineCrc.pending = s.pending := by simp [countLineCrc]

@[simp] theorem lineGap_pending : s.lineGap.pending = s.pending := by
  unfold lineGap; dsimp only; split <;> simp

@[simp] theorem wholeFrame_pending : s.wholeFrame.pending = s.pending := s.lineGap_pending

@[simp] theorem wholeArrives_pending (got : List Byte) (good : Bool) :
    (s.wholeArrives got good).pending = s.pending := by
  unfold wholeArrives
  repeat' split
  all_goals simp

@[simp] theorem takeRx_pending (o : RxOut) : (s.takeRx o).pending = s.pending := by
  unfold takeRx; split <;> simp

@[simp] theorem lineEvent_pending (e : LineEvent) : (s.lineEvent e).pending = s.pending := by
  simp [lineEvent]

@[simp] theorem classify_pending (p : List Byte) : (s.classify p).pending = s.pending := by
  unfold classify
  repeat' split
  all_goals simp

/-! ### The Oven Table leaves the queue -/

@[simp] theorem returnFromSilent_pending (c : PresenceCause) :
    (s.returnFromSilent i c).pending = s.pending := by simp [returnFromSilent]

@[simp] theorem forwardSample_pending (k : KFrame) : (s.forwardSample i k).pending = s.pending := by
  unfold forwardSample; dsimp only; split <;> simp

@[simp] theorem reconcileApply_pending (a : Announced) : (s.reconcileApply i a).pending = s.pending := by
  unfold reconcileApply; split <;> simp

@[simp] theorem reconcileCook_pending (a : Announced) : (s.reconcileCook i a).pending = s.pending := by
  unfold reconcileCook
  repeat' split
  all_goals simp

@[simp] theorem reconcileClean_pending (a : Announced) : (s.reconcileClean i a).pending = s.pending := by
  unfold reconcileClean; split <;> simp

@[simp] theorem reconcile_pending (a : Announced) : (s.reconcile i a).pending = s.pending := by
  simp [reconcile]

@[simp] theorem clearOnMatch_pending : (s.clearOnMatch i).pending = s.pending := by simp [clearOnMatch]

@[simp] theorem helloMismatch_pending (a : Announced) : (s.helloMismatch i a).pending = s.pending := by
  unfold helloMismatch
  dsimp only
  repeat' split
  all_goals simp

@[simp] theorem helloOwner_pending (a : Announced) : (s.helloOwner i a).pending = s.pending := by
  unfold helloOwner
  repeat' split
  all_goals simp

@[simp] theorem takeHello_pending (a : Announced) (k : KFrame) : (s.takeHello i a k).pending = s.pending := by
  unfold takeHello; dsimp only; split <;> simp

@[simp] theorem helloArrives_pending (f : UpFrame) : (s.helloArrives i f).pending = s.pending := by
  unfold helloArrives
  split
  · simp
  · split <;> simp

@[simp] theorem purge_pending : (s.purge i).pending = s.pending := by
  unfold purge; dsimp only; split <;> simp

@[simp] theorem retireCall_pending (p : Fin 32) : (s.retireCall i p).pending = s.pending := by
  unfold retireCall
  repeat' split
  all_goals simp

/-- The walk over the creation order is a fold; each position's part leaves the queue. -/
@[simp] theorem retireCalls_pending : (s.retireCalls i).pending = s.pending := by
  have walk : ∀ (l : List (Fin 32)) (t : State),
      (l.foldl (fun t p => t.retireCall i p) t).pending = t.pending := by
    intro l
    induction l with
    | nil => exact fun _ => rfl
    | cons p rest ih => exact fun t => (ih _).trans (t.retireCall_pending i p)
  simp [retireCalls, walk]

@[simp] theorem retireUpdate_pending : (s.retireUpdate i).pending = s.pending := by
  unfold retireUpdate; split <;> simp

@[simp] theorem retire_pending : (s.retire i).pending = s.pending := by simp [retire]

@[simp] theorem commission_pending (r : CommRecord) : (s.commission i r).pending = s.pending := by
  unfold commission
  dsimp only
  repeat' split
  all_goals simp

@[simp] theorem enterService_pending : (s.enterService i).pending = s.pending := by simp [enterService]

@[simp] theorem leaveService_pending : (s.leaveService i).pending = s.pending := by simp [leaveService]

/-! ### The owners of notices leave the queue -/

@[simp] theorem stepAck_pending (index : Nat) : (s.stepAck i index).pending = s.pending := by
  unfold stepAck
  repeat' split
  all_goals simp

@[simp] theorem panelRefused_pending (recipe : Nat) (reason : Result) :
    (s.panelRefused i recipe reason).pending = s.pending := by
  unfold panelRefused; dsimp only; split <;> simp

@[simp] theorem panelStart_pending (recipe : Nat) : (s.panelStart i recipe).pending = s.pending := by
  unfold panelStart
  repeat' split
  all_goals simp

@[simp] theorem takeFault_pending (code : Nat) : (s.takeFault i code).pending = s.pending := by
  unfold takeFault; split <;> simp

@[simp] theorem takeFaultClear_pending (code : Nat) : (s.takeFaultClear i code).pending = s.pending := by
  unfold takeFaultClear
  repeat' split
  all_goals simp

@[simp] theorem serviceKey_pending (key : Nat) : (s.serviceKey i key).pending = s.pending := by
  unfold serviceKey
  repeat' split
  all_goals simp

/-! ### Recipes, start-up, clock and transmitters leave the queue -/

@[simp] theorem stage_pending (r : Fin 512) (run : Run) : (s.stage r run).pending = s.pending := rfl

@[simp] theorem retireLive_pending (r : Fin 512) : (s.retireLive r).pending = s.pending := by
  unfold retireLive
  repeat' split
  all_goals simp

@[simp] theorem makeLive_pending (r : Fin 512) (run : Run) (needs : Needs) :
    (s.makeLive r run needs).pending = s.pending := rfl

@[simp] theorem unstage_pending (r : Fin 512) (run : Run) : (s.unstage r run).pending = s.pending := rfl

@[simp] theorem restart_pending (c : ResetCause) : (s.restart c).pending = s.pending := rfl

@[simp] theorem restore_pending : s.restore.pending = s.pending := by
  unfold restore; split <;> rfl

@[simp] theorem second_pending : s.second.pending = s.pending := rfl

@[simp] theorem countTick_pending : s.countTick.pending = s.pending := rfl

@[simp] theorem watchExpires_pending : (s.watchExpires i).pending = s.pending := by
  unfold watchExpires; dsimp only; split <;> simp

@[simp] theorem ackLost_pending : (s.ackLost i).pending = s.pending := by
  unfold ackLost; split <;> simp

@[simp] theorem markTaken_pending (x : LineSource) : (s.markTaken x).pending = s.pending := by
  cases x <;> rfl

@[simp] theorem frameLeft_pending (f : DownFrame) : (s.frameLeft f).pending = s.pending := by
  unfold frameLeft
  repeat' split
  all_goals simp

@[simp] theorem leaveClass_pending (k : Fin 4) : (s.leaveClass k).pending = s.pending := by
  unfold leaveClass; split <;> simp

@[simp] theorem forwardUpdate_pending (k : Fin 4) (tag : BitVec 16) (f : StoreFrame) :
    (s.forwardUpdate k tag i f).pending = s.pending := rfl

@[simp] theorem beginApply_pending (f : StoreFrame) : (s.beginApply i f).pending = s.pending := by
  simp [beginApply]

/-! ### What a request does before its REPLY -/

@[simp] theorem answer_pending (r : ReplyTo) (a : Reply) : (s.answer r a).pending = s.pending :=
  s.offerReply_pending _

@[simp] theorem says_after (r : Result) (detail : Nat) : (s.says r detail).after = s := rfl
@[simp] theorem reads_after (data : List Byte) : (s.reads data).after = s := rfl
@[simp] theorem silently_after : s.silently.after = s := rfl
@[simp] theorem refuses_after (a : Reply) : (s.refuses a).after = s := rfl

end State

@[simp] theorem Answered.finish_pending (a : Answered) (r : ReplyTo) :
    (a.finish r).pending = a.after.pending := by
  unfold Answered.finish; split <;> simp

/-! ### The ways of a frame: what each outcome keeps, the way keeps -/

/-- A Store Link frame is discarded, with its counter, or reaches its owner (R136, R166). -/
theorem arriveStore_induct (P : State → Prop) {cls : Byte} {f : StoreFrame} {act : State → State}
    (startUp : P s.countStartUp) (length : P s.countStoreLength) (address : P s.countStoreAddress)
    (owner : P (act s)) : P (s.arriveStore cls f act) := by
  unfold State.arriveStore
  split
  · exact startUp
  split
  · exact length
  split
  · exact address
  · exact owner

/-- A CONTROL frame is discarded, refused by a common check, or carried out (R146, R157, R158). -/
theorem control_induct (P : State → Prop) {g : Gate} {f : StoreFrame} {act : State → Answered}
    (startUp : P s.countStartUp) (length : P s.countStoreLength) (address : P s.countStoreAddress)
    (refused : ∀ a, P ((s.fromGateway f).answer (replyTo clsControl f) a))
    (owner : P ((act (s.fromGateway f)).finish (replyTo clsControl f))) : P (s.control g f act) := by
  unfold State.control
  refine arriveStore_induct P startUp length address ?_
  dsimp only
  split
  · exact refused _
  · exact owner

/-- An upward frame is discarded, with its counter, or reaches its oven's block (R135, R154, R166). -/
theorem arriveUp_induct (P : State → Prop) {cls : Byte} {tag : BitVec 16} {f : UpFrame}
    {act : OvenId → State → State} (startUp : P s.wholeFrame.countStartUp)
    (length : P s.wholeFrame.countLineLength) (source : P s.wholeFrame.countLineSource)
    (unnamed : P s.wholeFrame.countLineClass) (owner : ∀ i, P (act i s.wholeFrame)) :
    P (s.arriveUp cls tag f act) := by
  unfold State.arriveUp
  dsimp only
  split
  · exact startUp
  split
  · exact length
  split
  · exact source
  split
  · exact unnamed
  split
  · exact owner _
  · exact length

section
variable {f : StoreFrame} {u : UpFrame}

theorem owned_pending {cls : Byte} {act : State → Answered}
    (h : ∀ t, (act t).after.pending = t.pending) : (s.owned cls f act).pending = s.pending :=
  arriveStore_induct (fun t => t.pending = s.pending) rfl rfl rfl (by simp [h])

theorem control_pending {g : Gate} {act : State → Answered}
    (h : ∀ t, (act t).after.pending = t.pending) : (s.control g f act).pending = s.pending :=
  control_induct (fun t => t.pending = s.pending) rfl rfl rfl (by simp) (by simp [h])

theorem arriveUp_pending {cls : Byte} {tag : BitVec 16} {act : OvenId → State → State}
    (h : ∀ i t, (act i t).pending = t.pending) : (s.arriveUp cls tag u act).pending = s.pending :=
  arriveUp_induct (fun t => t.pending = s.pending) (by simp) (by simp) (by simp) (by simp)
    (by simp [h])

theorem dispatchUp_pending {i : OvenId} {forward owner : State → State}
    (hf : ∀ t, (forward t).pending = t.pending) (ho : ∀ t, (owner t).pending = t.pending) :
    (s.dispatchUp i forward owner).pending = s.pending := by
  unfold State.dispatchUp; split <;> simp [hf, ho]

theorem takeNotice_pending {tag : BitVec 16} {owner : OvenId → State → State}
    (h : ∀ i t, (owner i t).pending = t.pending) : (s.takeNotice tag u owner).pending = s.pending :=
  arriveUp_pending fun i _ => dispatchUp_pending (fun _ => by split <;> simp) (h i)

theorem forAddress_pending {act : OvenId → Answered} (h : ∀ i, (act i).after.pending = s.pending) :
    (s.forAddress f act).after.pending = s.pending := by
  unfold State.forAddress; split <;> simp [h]

theorem forRecipe_pending {act : Fin 512 → Answered} (h : ∀ r, (act r).after.pending = s.pending) :
    (s.forRecipe f act).after.pending = s.pending := by
  unfold State.forRecipe; split <;> simp [h]

theorem forOven_pending {tag : BitVec 16} {ok : Bool} {act : OvenId → Answered}
    (h : ∀ i, (act i).after.pending = s.pending) :
    (s.forOven f tag ok act).after.pending = s.pending := by
  unfold State.forOven
  split
  · simp
  split <;> simp [h]

end

/-! ### Requests after their form checks leave the queue -/

namespace State

variable (s) (i : OvenId) (f : StoreFrame)

@[simp] theorem acknowledge_pending (p : Fin 32) (c : Call) :
    (s.acknowledge p c).after.pending = s.pending := by
  unfold acknowledge; dsimp only; split <;> simp

@[simp] theorem requestCleaning_pending (p : Programme) (seq : Byte) :
    (s.requestCleaning i p seq).after.pending = s.pending := by
  unfold requestCleaning
  repeat' split
  all_goals simp

@[simp] theorem cancelCleaning_pending : (s.cancelCleaning i f).after.pending = s.pending := by
  unfold cancelCleaning
  repeat' split
  all_goals simp

@[simp] theorem startCook_pending (r : Fin 512) (origin : Origin) (batch : BitVec 16) :
    (s.startCook i r origin batch).after.pending = s.pending := by
  unfold startCook
  split
  · rfl
  · split <;> simp

@[simp] theorem readRecipe_pending (r : Fin 512) : (s.readRecipe r).after.pending = s.pending := rfl

@[simp] theorem writeStep_pending (k : Nat) (fields : Option (StepParams × Bool)) :
    (s.writeStep k fields).after.pending = s.pending := by
  unfold writeStep
  repeat' split
  all_goals simp

@[simp] theorem readStep_pending (k : Nat) : (s.readStep k).after.pending = s.pending := by
  unfold readStep; split <;> simp

@[simp] theorem takeChunk_pending (offset : Nat) (data : List Byte) :
    (s.takeChunk i f offset data).after.pending = s.pending := by
  unfold takeChunk
  dsimp only
  repeat' split
  all_goals simp

@[simp] theorem sealUpdate_pending : (s.sealUpdate i f).after.pending = s.pending := by
  unfold sealUpdate
  dsimp only
  repeat' split
  all_goals simp

@[simp] theorem abortUpdate_pending : (s.abortUpdate i f).after.pending = s.pending := by
  unfold abortUpdate
  repeat' split
  all_goals simp

@[simp] theorem forwardDirect_pending (kind : Fin 64) :
    (s.forwardDirect i kind f).after.pending = s.pending := by
  unfold forwardDirect
  repeat' split
  all_goals simp

end State

/-! ### Events without a kitchen frame -/

section
variable (s) (i : OvenId)

theorem doPowerOn_pending : (doPowerOn s).pending = s.pending := rfl

theorem doResetPin_pending : (doResetPin s).pending = s.pending := rfl

theorem doReady_pending : (doReady s).pending = s.pending := by
  unfold doReady
  dsimp only
  repeat' split
  all_goals simp

theorem doStartUpDiscard_pending (l : Link) : (doStartUpDiscard l s).pending = s.pending := by
  unfold doStartUpDiscard
  repeat' split
  all_goals simp

theorem doWatchTick_pending : (doWatchTick s).pending = s.pending := by
  unfold doWatchTick; dsimp only; split <;> simp

theorem doSilenceWatchExpiry_pending : (doSilenceWatchExpiry i s).pending = s.pending := by
  unfold doSilenceWatchExpiry; split <;> simp

theorem doAckTimerExpiry_pending : (doAckTimerExpiry i s).pending = s.pending := by
  unfold doAckTimerExpiry; split <;> simp

theorem doOvertimeExpiry_pending : (doOvertimeExpiry i s).pending = s.pending := by
  unfold doOvertimeExpiry; split <;> simp

theorem doApplyTimerExpiry_pending : (doApplyTimerExpiry i s).pending = s.pending := by
  unfold doApplyTimerExpiry; split <;> simp

theorem doLineErrorWindowClose_pending : (doLineErrorWindowClose s).pending = s.pending := by
  unfold doLineErrorWindowClose
  dsimp only
  repeat' split
  all_goals simp

theorem doPauseExpiry_pending : (doPauseExpiry s).pending = s.pending := rfl

theorem doSoftResetTenthTick_pending : (doSoftResetTenthTick s).pending = s.pending := by
  unfold doSoftResetTenthTick; split <;> simp

theorem doTableClearCompletion_pending : (doTableClearCompletion s).pending = s.pending := by
  unfold doTableClearCompletion; split <;> simp

theorem doSaveEnd_pending : (doSaveEnd s).pending = s.pending := by
  unfold doSaveEnd; split <;> simp

theorem doStoreFrameDropped_pending (e : EthFrame) : (doStoreFrameDropped e s).pending = s.pending := by
  unfold doStoreFrameDropped
  repeat' split
  all_goals simp

theorem doStoreClassifierDiscard_pending (e : EthFrame) :
    (doStoreClassifierDiscard e s).pending = s.pending := by
  unfold doStoreClassifierDiscard
  repeat' split
  all_goals simp

theorem doPauseFrame_pending (dest : EthAddr) (quanta : BitVec 16) :
    (doPauseFrame dest quanta s).pending = s.pending := by
  unfold doPauseFrame
  repeat' split
  all_goals simp

/-- The receiver takes the events one by one; each leaves the queue. -/
theorem doLineFrameDiscard_pending (events : List LineEvent) :
    (doLineFrameDiscard events s).pending = s.pending := by
  unfold doLineFrameDiscard
  induction events generalizing s with
  | nil => rfl
  | cons e rest ih => exact (ih _).trans (s.lineEvent_pending e)

theorem doLineTransmitterTake_pending : (doLineTransmitterTake s).pending = s.pending := by
  unfold doLineTransmitterTake; dsimp only; split <;> simp

theorem doTransmissionEnd_pending : (doTransmissionEnd s).pending = s.pending := by
  unfold doTransmissionEnd
  dsimp only
  repeat' split
  all_goals simp

theorem doStoreLinkSend_pending : (doStoreLinkSend s).pending = s.pending := by
  unfold doStoreLinkSend
  dsimp only
  repeat' split
  all_goals simp

theorem doStoreLinkTransmissionEnd_pending : (doStoreLinkTransmissionEnd s).pending = s.pending := by
  unfold doStoreLinkTransmissionEnd
  repeat' split
  all_goals simp

end

/-! ### Every command -/

/-- No command stops the machine, and none touches the queue (R1; log 1, log 5, log 8). An event of the part's own
goes by its lemma above; a frame by its way to its owner, then by what the owner does with it. -/
theorem exec_next_pending (c : Instr) (s : State) : ∃ t, exec c s = .next t ∧ t.pending = s.pending := by
  cases c with
  | powerOn => exact ⟨_, rfl, doPowerOn_pending s⟩
  | resetPin => exact ⟨_, rfl, doResetPin_pending s⟩
  | ready => exact ⟨_, rfl, doReady_pending s⟩
  | startUpDiscard link => exact ⟨_, rfl, doStartUpDiscard_pending s link⟩
  | watchTick => exact ⟨_, rfl, doWatchTick_pending s⟩
  | silenceWatchExpiry n => exact ⟨_, rfl, doSilenceWatchExpiry_pending s n⟩
  | ackTimerExpiry n => exact ⟨_, rfl, doAckTimerExpiry_pending s n⟩
  | overtimeExpiry n => exact ⟨_, rfl, doOvertimeExpiry_pending s n⟩
  | applyTimerExpiry n => exact ⟨_, rfl, doApplyTimerExpiry_pending s n⟩
  | lineErrorWindowClose => exact ⟨_, rfl, doLineErrorWindowClose_pending s⟩
  | pauseExpiry => exact ⟨_, rfl, doPauseExpiry_pending s⟩
  | softResetTenthTick => exact ⟨_, rfl, doSoftResetTenthTick_pending s⟩
  | tableClearCompletion => exact ⟨_, rfl, doTableClearCompletion_pending s⟩
  | saveEnd => exact ⟨_, rfl, doSaveEnd_pending s⟩
  | storeFrameDropped e => exact ⟨_, rfl, doStoreFrameDropped_pending s e⟩
  | storeClassifierDiscard e => exact ⟨_, rfl, doStoreClassifierDiscard_pending s e⟩
  | pauseFrame dest quanta => exact ⟨_, rfl, doPauseFrame_pending s dest quanta⟩
  | statusRead f => exact ⟨_, rfl, control_pending fun _ => by split <;> simp⟩
  | configWrite f =>
    refine ⟨_, rfl, control_pending fun _ => ?_⟩
    repeat' split
    all_goals simp
  | configRead f =>
    refine ⟨_, rfl, control_pending fun _ => ?_⟩
    repeat' split
    all_goals simp
  | daypartSet f => exact ⟨_, rfl, control_pending fun _ => by split <;> simp⟩
  | rollCall f => exact ⟨_, rfl, control_pending fun _ => rfl⟩
  | softReset f => exact ⟨_, rfl, control_pending fun _ => by split <;> simp⟩
  | save f => exact ⟨_, rfl, control_pending fun _ => by split <;> simp⟩
  | ovenCommission f =>
    refine ⟨_, rfl, control_pending fun _ => forAddress_pending fun _ => ?_⟩
    dsimp only
    repeat' split
    all_goals simp
  | ovenRetire f =>
    refine ⟨_, rfl, control_pending fun _ => forAddress_pending fun _ => ?_⟩
    repeat' split
    all_goals simp
  | ovenRead f => exact ⟨_, rfl, control_pending fun _ => forAddress_pending fun _ => rfl⟩
  | ovenSet f => exact ⟨_, rfl, control_pending fun _ => forAddress_pending fun _ => by split <;> simp⟩
  | serviceEnter f =>
    refine ⟨_, rfl, control_pending fun _ => forAddress_pending fun _ => ?_⟩
    repeat' split
    all_goals simp
  | serviceLeave f => exact ⟨_, rfl, control_pending fun _ => forAddress_pending fun _ => by split <;> simp⟩
  | watchReload f =>
    refine ⟨_, rfl, control_pending fun _ => forAddress_pending fun _ => ?_⟩
    dsimp only; split <;> simp
  | mapStage f =>
    refine ⟨_, rfl, control_pending fun _ => forRecipe_pending fun _ => ?_⟩
    dsimp only
    repeat' split
    all_goals simp
  | mapSet f => exact ⟨_, rfl, control_pending fun _ => forRecipe_pending fun _ => by split <;> simp⟩
  | mapRead f => exact ⟨_, rfl, control_pending fun _ => forRecipe_pending fun _ => rfl⟩
  | mapReadNext f => exact ⟨_, rfl, control_pending fun _ => by split <;> simp⟩
  | release f =>
    refine ⟨_, rfl, control_pending fun _ => forRecipe_pending fun _ => ?_⟩
    repeat' split
    all_goals simp
  | withdraw f =>
    refine ⟨_, rfl, control_pending fun _ => forRecipe_pending fun _ => ?_⟩
    repeat' split
    all_goals simp
  | discardStaged f => exact ⟨_, rfl, control_pending fun _ => forRecipe_pending fun _ => by split <;> simp⟩
  | stepWrite f => exact ⟨_, rfl, control_pending fun _ => by simp⟩
  | stepWriteNext f => exact ⟨_, rfl, control_pending fun _ => by split <;> simp⟩
  | stepRead f => exact ⟨_, rfl, control_pending fun _ => by simp⟩
  | stepReadNext f => exact ⟨_, rfl, control_pending fun _ => by split <;> simp⟩
  | tableClear f => exact ⟨_, rfl, control_pending fun _ => by split <;> simp⟩
  | classMapWrite f => exact ⟨_, rfl, control_pending fun _ => by split <;> simp⟩
  | classMapRead f => exact ⟨_, rfl, control_pending fun _ => by split <;> simp⟩
  | severityMapWrite f => exact ⟨_, rfl, control_pending fun _ => by split <;> simp⟩
  | severityMapRead f => exact ⟨_, rfl, control_pending fun _ => by split <;> simp⟩
  | callRead f => exact ⟨_, rfl, control_pending fun _ => by split <;> simp⟩
  | callAck f =>
    refine ⟨_, rfl, control_pending fun _ => ?_⟩
    repeat' split
    all_goals simp
  | callClearOverflow f =>
    exact ⟨_, rfl, control_pending fun _ => forAddress_pending fun _ => by split <;> simp⟩
  | cleanRelease f => exact ⟨_, rfl, control_pending fun _ => forAddress_pending fun _ => by split <;> simp⟩
  | cookStart f =>
    exact ⟨_, rfl, owned_pending fun _ => forOven_pending fun _ => forRecipe_pending fun _ => by simp⟩
  | cookStop f => exact ⟨_, rfl, owned_pending fun _ => forOven_pending fun _ => by split <;> simp⟩
  | cleanRequest f => exact ⟨_, rfl, owned_pending fun _ => forOven_pending fun _ => by split <;> simp⟩
  | cleanCancel f => exact ⟨_, rfl, owned_pending fun _ => forOven_pending fun _ => by simp⟩
  | updateOpen f =>
    refine ⟨_, rfl, owned_pending fun _ => forOven_pending fun _ => ?_⟩
    repeat' split
    all_goals simp
  | updateChunk f => exact ⟨_, rfl, owned_pending fun _ => forOven_pending fun _ => by simp⟩
  | updateSeal f => exact ⟨_, rfl, owned_pending fun _ => forOven_pending fun _ => by simp⟩
  | updateApply f => exact ⟨_, rfl, owned_pending fun _ => forOven_pending fun _ => by split <;> simp⟩
  | updateAbort f => exact ⟨_, rfl, owned_pending fun _ => forOven_pending fun _ => by simp⟩
  | direct f => exact ⟨_, rfl, owned_pending fun _ => by split <;> simp⟩
  | lineFrameDiscard events => exact ⟨_, rfl, doLineFrameDiscard_pending s events⟩
  | sample tag f =>
    exact ⟨_, rfl, arriveUp_pending fun _ _ => dispatchUp_pending (fun _ => by simp) (fun _ => by simp)⟩
  | hello f => exact ⟨_, rfl, arriveUp_pending fun _ _ => by simp⟩
  | stepAck f => exact ⟨_, rfl, takeNotice_pending fun _ _ => by simp⟩
  | panelStart f => exact ⟨_, rfl, takeNotice_pending fun _ _ => by simp⟩
  | panelStop f => exact ⟨_, rfl, takeNotice_pending fun _ _ => by simp⟩
  | fault f => exact ⟨_, rfl, takeNotice_pending fun _ _ => by simp⟩
  | faultClear f => exact ⟨_, rfl, takeNotice_pending fun _ _ => by simp⟩
  | cleanPhase f => exact ⟨_, rfl, takeNotice_pending fun _ _ => by dsimp only; split <;> simp⟩
  | cleanDone f =>
    refine ⟨_, rfl, takeNotice_pending fun _ _ => ?_⟩
    repeat' split
    all_goals simp
  | updateStatus f =>
    refine ⟨_, rfl, takeNotice_pending fun _ _ => ?_⟩
    repeat' split
    all_goals simp
  | serviceKey f => exact ⟨_, rfl, takeNotice_pending fun _ _ => by simp⟩
  | ovenNote f => exact ⟨_, rfl, takeNotice_pending fun _ _ => rfl⟩
  | lineTransmitterTake => exact ⟨_, rfl, doLineTransmitterTake_pending s⟩
  | transmissionEnd => exact ⟨_, rfl, doTransmissionEnd_pending s⟩
  | storeLinkSend => exact ⟨_, rfl, doStoreLinkSend_pending s⟩
  | storeLinkTransmissionEnd => exact ⟨_, rfl, doStoreLinkTransmissionEnd_pending s⟩

/-- A command at the front of the queue is run on the state with the rest (log 1). -/
theorem step_cons (c : Instr) (rest : List Instr) (s : State) (h : s.pending = c :: rest) :
    step s = exec c { s with pending := rest } := by
  simp only [step, h]

/-- Settles O1: the front command matches the step's first case. -/
theorem stepRunsFrontCommand : Obligations.StepRunsFrontCommand := by
  unfold Obligations.StepRunsFrontCommand
  intro c rest s
  exact step_cons c rest _ rfl

/-- Settles O2: the step runs the front command on the rest of the queue, and every command answers next and
leaves that rest. -/
theorem everyCommandCompletes : Obligations.EveryCommandCompletes := by
  unfold Obligations.EveryCommandCompletes
  intro c rest s h
  rw [step_cons c rest s h]
  exact exec_next_pending c _

end Sys2Proof.Machine
end

section
/-! SUPPORT. What the laws of the Oven Table, of occupancy, of cleaning and of recipes speak of, taken out of the
state once: the ledger, which an admission pass leaves as it is, and the roster, which a pass changes. Each operation
is followed through them by one lemma, so that the laws are proved of ledgers and rosters alone. -/

namespace Sys2Proof.Machine

/-- What occupancy and user counts need of a cook context (R11, R33). -/
structure CookRun where
  active : Bool
  recipe : Nat
  version : Nat
  first : Nat
  count : Nat

/-- The run a cook context holds, and whether it is not IDLE. -/
def CookCtx.held (c : CookCtx) : CookRun :=
  { active := c.state != .idle, recipe := c.recipe, version := c.version, first := c.first,
    count := c.count }

/-- The job a cook or an apply has given an oven; a cleaning comes and goes with admission passes and counts as
none. -/
def Occupancy.job : Occupancy → Occupancy
  | .cleaning => .free
  | o => o

/-- What the laws of presence, serials, occupancy by cooks and applies, and recipes speak of. -/
structure Ledger where
  phase : Phase
  image : Option Image
  clearing : Bool
  presence : OvenId → Presence
  record : OvenId → Option CommRecord
  service : OvenId → Bool
  job : OvenId → Occupancy
  frozen : OvenId → Option Bool
  applying : OvenId → Bool
  cook : OvenId → CookRun
  recipes : Vector RecipeEntry 512
  steps : Vector StepRec 768

/-- What the law of cleaning and the clause of the restore speak of. -/
structure Roster where
  phase : Phase
  slotCount : Nat
  queue : List OvenId
  occupancy : OvenId → Occupancy

/-- Ledger and roster. -/
structure Book where
  ledger : Ledger
  roster : Roster

/-- The book of a state. -/
def State.book (s : State) : Book :=
  { ledger :=
      { phase := s.phase
        image := s.image
        clearing := s.clearing.isSome
        presence := fun i => (s.oven i).presence
        record := fun i => (s.oven i).record
        service := fun i => (s.oven i).service
        job := fun i => (s.oven i).occupancy.job
        frozen := fun i => (s.watch i).map (·.frozen)
        applying := fun i => (s.update i).state == .applying
        cook := fun i => (s.cook i).held
        recipes := s.recipes
        steps := s.steps }
    roster :=
      { phase := s.phase
        slotCount := s.cleaning.slotCount
        queue := s.cleaning.queue.map (·.oven)
        occupancy := fun i => (s.oven i).occupancy } }

namespace Ledger

variable (l : Ledger) (i : OvenId)

/-- An oven's presence in the ledger changes. -/
def setPresence (p : Presence) : Ledger := { l with presence := Function.update l.presence i p }
/-- An oven's commissioning record changes. -/
def setRecord (r : Option CommRecord) : Ledger := { l with record := Function.update l.record i r }
/-- An oven's service flag changes. -/
def setService (b : Bool) : Ledger := { l with service := Function.update l.service i b }
/-- An oven's job changes. -/
def setJob (o : Occupancy) : Ledger := { l with job := Function.update l.job i o }
/-- An oven's watch is put, frozen or not, or discarded. -/
def setFrozen (b : Option Bool) : Ledger := { l with frozen := Function.update l.frozen i b }
/-- An oven's apply begins or ends. -/
def setApplying (b : Bool) : Ledger := { l with applying := Function.update l.applying i b }
/-- An oven's cook context changes. -/
def setCook (c : CookRun) : Ledger := { l with cook := Function.update l.cook i c }

end Ledger

/-- An oven's occupancy changes (R11). -/
def Roster.occupy (r : Roster) (i : OvenId) (o : Occupancy) : Roster :=
  { r with occupancy := Function.update r.occupancy i o }

namespace State

variable (s : State) (i : OvenId)

/-! ### Updates by index as functions -/

theorem modOven_eq_update (f : OvenEntry → OvenEntry) :
    (s.modOven i f).oven = Function.update s.oven i (f (s.oven i)) := by
  funext j
  by_cases h : j = i
  · subst h; simp
  · rw [modOven_other s i j f (Ne.symm h), Function.update_of_ne h]

theorem setWatch_eq_update (w : Option Watch) : (s.setWatch i w).watch = Function.update s.watch i w := by
  funext j
  by_cases h : j = i
  · subst h; simp
  · rw [setWatch_other s i j w (Ne.symm h), Function.update_of_ne h]

theorem modCook_eq_update (f : CookCtx → CookCtx) :
    (s.modCook i f).cook = Function.update s.cook i (f (s.cook i)) := by
  funext j
  by_cases h : j = i
  · subst h; simp
  · rw [modCook_other s i j f (Ne.symm h), Function.update_of_ne h]

theorem modUpdate_eq_update (f : UpdateCtx → UpdateCtx) :
    (s.modUpdate i f).update = Function.update s.update i (f (s.update i)) := by
  funext j
  by_cases h : j = i
  · subst h; simp
  · rw [modUpdate_other s i j f (Ne.symm h), Function.update_of_ne h]

end State

/-- A field of an updated table is the field's update. -/
theorem field_update {α β : Type} (g : α → β) (t : OvenId → α) (i : OvenId) (x : α) :
    (fun j => g (Function.update t i x j)) = Function.update (fun j => g (t j)) i (g x) := by
  funext j
  by_cases h : j = i
  · subst h; simp
  · simp [Function.update_of_ne h]

namespace State

variable (s : State) (i : OvenId)

/-! ### What the elementary updates write into the book -/

theorem modOven_book (f : OvenEntry → OvenEntry) :
    (s.modOven i f).book =
      ⟨(((s.book.ledger.setPresence i (f (s.oven i)).presence).setRecord i (f (s.oven i)).record).setService i
          (f (s.oven i)).service).setJob i (f (s.oven i)).occupancy.job,
        s.book.roster.occupy i (f (s.oven i)).occupancy⟩ := by
  simp only [book, modOven_eq_update, field_update fun e : OvenEntry => e.presence,
    field_update fun e : OvenEntry => e.record, field_update fun e : OvenEntry => e.service,
    field_update fun e : OvenEntry => e.occupancy.job, field_update fun e : OvenEntry => e.occupancy]
  rfl

/-- Of an oven's entry the book holds presence, record, service flag and occupancy. -/
theorem modOven_book_same (f : OvenEntry → OvenEntry) (hp : (f (s.oven i)).presence = (s.oven i).presence)
    (hr : (f (s.oven i)).record = (s.oven i).record) (hs : (f (s.oven i)).service = (s.oven i).service)
    (ho : (f (s.oven i)).occupancy = (s.oven i).occupancy) : (s.modOven i f).book = s.book := by
  rw [modOven_book, hp, hr, hs, ho]
  simp [book, Ledger.setPresence, Ledger.setRecord, Ledger.setService, Ledger.setJob, Roster.occupy]

theorem setWatch_book (w : Option Watch) :
    (s.setWatch i w).book = ⟨s.book.ledger.setFrozen i (w.map (·.frozen)), s.book.roster⟩ := by
  simp only [book, setWatch_eq_update, field_update fun w : Option Watch => w.map (·.frozen)]
  rfl

theorem modCook_book (f : CookCtx → CookCtx) :
    (s.modCook i f).book = ⟨s.book.ledger.setCook i (f (s.cook i)).held, s.book.roster⟩ := by
  simp only [book, modCook_eq_update, field_update CookCtx.held]
  rfl

theorem modUpdate_book (f : UpdateCtx → UpdateCtx) :
    (s.modUpdate i f).book =
      ⟨s.book.ledger.setApplying i ((f (s.update i)).state == .applying), s.book.roster⟩ := by
  simp only [book, modUpdate_eq_update, field_update fun u : UpdateCtx => u.state == .applying]
  rfl

/-- Of a cook context the book holds its run and whether it is not IDLE. -/
theorem modCook_book_same (f : CookCtx → CookCtx) (h : (f (s.cook i)).held = (s.cook i).held) :
    (s.modCook i f).book = s.book := by
  rw [modCook_book, h]; simp [book, Ledger.setCook]

/-- Of an update context the book holds whether it is APPLYING. -/
theorem modUpdate_book_same (f : UpdateCtx → UpdateCtx)
    (h : (f (s.update i)).state = .applying ↔ (s.update i).state = .applying) :
    (s.modUpdate i f).book = s.book := by
  rw [modUpdate_book, show ((f (s.update i)).state == UpdateState.applying) =
    ((s.update i).state == .applying) by rw [Bool.eq_iff_iff]; simpa using h]
  simp [book, Ledger.setApplying]

/-! ### Updates that leave the book -/

@[simp] theorem modOvenCounters_book (f : OvenCounters → OvenCounters) :
    (s.modOvenCounters i f).book = s.book := modOven_book_same s i _ rfl rfl rfl rfl

@[simp] theorem modDiscards_book (f : Discards → Discards) : (s.modDiscards f).book = s.book := rfl
@[simp] theorem setSlot_book (x : SlotState) : (s.setSlot i x).book = s.book := rfl
@[simp] theorem modCleanRecord_book (f : CleanRecord → CleanRecord) :
    (s.modCleanRecord i f).book = s.book := rfl
@[simp] theorem pushUp_book (k : KFrame) : (s.pushUp k).book = s.book := rfl
@[simp] theorem pushDown_book (k : Fin 4) (f : DownFrame) : (s.pushDown k f).book = s.book := rfl
@[simp] theorem setCall_book (p : Fin 32) (c : Option Call) : (s.setCall p c).book = s.book := rfl
@[simp] theorem setOverflow_book (b : Bool) : (s.setOverflow i b).book = s.book := rfl
@[simp] theorem moveCursor_book (t : TableId) (k : Nat) : (s.moveCursor t k).book = s.book := rfl
@[simp] theorem fromGateway_book (f : StoreFrame) : (s.fromGateway f).book = s.book := rfl
@[simp] theorem freeCall_book (p : Fin 32) : (s.freeCall p).book = s.book := rfl
@[simp] theorem leaveReports_book (p : Fin 32) : (s.leaveReports p).book = s.book := rfl
@[simp] theorem joinReports_book (p : Fin 32) : (s.joinReports p).book = s.book := rfl
@[simp] theorem loseCall_book : s.loseCall.book = s.book := rfl
@[simp] theorem ignoreFault_book : s.ignoreFault.book = s.book := rfl
@[simp] theorem putStop_book : (s.putStop i).book = s.book := rfl
@[simp] theorem putPending_book (f : SlotFrame) : (s.putPending i f).book = s.book := rfl
@[simp] theorem staleRequests_book : (s.staleRequests i).book = s.book := rfl
@[simp] theorem countDiscard_book (f : Discards → Nat → Discards) (g : Discards → Nat) :
    (s.countDiscard f g).book = s.book := rfl
@[simp] theorem countStartUp_book : s.countStartUp.book = s.book := rfl
@[simp] theorem countLineLength_book : s.countLineLength.book = s.book := rfl
@[simp] theorem countLineSource_book : s.countLineSource.book = s.book := rfl
@[simp] theorem countLineClass_book : s.countLineClass.book = s.book := rfl
@[simp] theorem countUnknownSource_book : s.countUnknownSource.book = s.book := rfl
@[simp] theorem countStoreFcs_book : s.countStoreFcs.book = s.book := rfl
@[simp] theorem countStoreForeign_book : s.countStoreForeign.book = s.book := rfl
@[simp] theorem countStoreLength_book : s.countStoreLength.book = s.book := rfl
@[simp] theorem countStoreClass_book : s.countStoreClass.book = s.book := rfl
@[simp] theorem countStoreAddress_book : s.countStoreAddress.book = s.book := rfl
@[simp] theorem countReceived_book : (s.countReceived i).book = s.book := s.modOvenCounters_book i _
@[simp] theorem countRefused_book : (s.countRefused i).book = s.book := s.modOvenCounters_book i _
@[simp] theorem countStaleAck_book : (s.countStaleAck i).book = s.book := s.modOvenCounters_book i _
@[simp] theorem forwardUpdate_book (k : Fin 4) (tag : BitVec 16) (f : StoreFrame) :
    (s.forwardUpdate k tag i f).book = s.book := rfl
@[simp] theorem countTick_watch : s.countTick.watch i = (s.watch i).map Watch.tick := by
  simp [countTick, watch]

@[simp] theorem offerReply_book (k : KFrame) : (s.offerReply k).book = s.book := by
  unfold offerReply; split <;> rfl
@[simp] theorem offerReport_book (k : KFrame) : (s.offerReport k).book = s.book := by
  unfold offerReport; split <;> rfl
@[simp] theorem offerForward_book (k : KFrame) : (s.offerForward i k).book = s.book := by
  unfold offerForward; split <;> simp
@[simp] theorem answer_book (r : ReplyTo) (a : Reply) : (s.answer r a).book = s.book :=
  s.offerReply_book _

/-- A reload keeps the frozen flag (R127). -/
@[simp] theorem reloadWatch_book : (s.reloadWatch i).book = s.book := by
  unfold reloadWatch
  split
  · rename_i w _ hw _
    rw [setWatch_book]
    simp [book, Ledger.setFrozen, Watch.loaded, hw]
  · rfl

/-! ### The Call Table leaves the book -/

@[simp] theorem reportCall_book (p : Fin 32) : (s.reportCall p).book = s.book := by
  unfold reportCall
  split
  · split <;> simp
  · simp

@[simp] theorem buildService_book : s.buildService.book = s.book :=
  buildService_induct (fun t => t.book = s.book) (fun _ _ h _ _ => by simp [h]) rfl

@[simp] theorem mergeCall_book (p : Fin 32) : (s.mergeCall p).book = s.book := by
  unfold mergeCall; split <;> simp

@[simp] theorem createCall_book (p : Fin 32) (sub : Option OvenId) (code : Nat) (sev : Severity)
    (kind : CallKind) : (s.createCall p sub code sev kind).book = s.book :=
  (buildService_book _).trans rfl

@[simp] theorem overflowSubject_book (sub : Option OvenId) : (s.overflowSubject sub).book = s.book := by
  cases sub <;> rfl

/-- An occurrence that is not LOCKOUT brings no lock (R97, R105). -/
theorem raise_book (sub : Option OvenId) (code : Nat) (sev : Severity) (kind : CallKind)
    (h : sev ≠ .lockout) : (s.raise sub code sev kind).book = s.book := by
  obtain ⟨p, c, -, -, merged⟩ | ⟨-, ⟨-, lost⟩ | ⟨p, -, -, -, created⟩ | ⟨p, hl, -⟩ | ⟨p, hl, -⟩ |
    ⟨hl, -⟩⟩ := raise_cases (s := s) sub code sev kind
  · simp [merged]
  · simp [lost]
  · simp [created]
  all_goals exact absurd hl h

@[simp] theorem retireCall_book (p : Fin 32) : (s.retireCall i p).book = s.book := by
  unfold retireCall
  repeat' split
  all_goals simp

@[simp] theorem retireCalls_book : (s.retireCalls i).book = s.book := by
  have walk : ∀ (l : List (Fin 32)) (t : State), (l.foldl (fun t p => t.retireCall i p) t).book = t.book := by
    intro l
    induction l with
    | nil => exact fun _ => rfl
    | cons p rest ih => exact fun t => (ih _).trans (t.retireCall_book i p)
  simp [retireCalls, walk]

/-! ### The receiver leaves the book -/

@[simp] theorem lineError_book : s.lineError.book = s.book := by
  unfold lineError
  dsimp only
  split
  · exact (raise_book _ none codeLineErrors .minor .condition (by decide)).trans rfl
  · rfl

@[simp] theorem countLineCrc_book : s.countLineCrc.book = s.book := by simp [countLineCrc]

@[simp] theorem lineGap_book : s.lineGap.book = s.book := by
  unfold lineGap
  dsimp only
  split
  · rfl
  · rfl
  · exact (countLineCrc_book _).trans rfl

@[simp] theorem wholeFrame_book : s.wholeFrame.book = s.book := s.lineGap_book

@[simp] theorem wholeArrives_book (got : List Byte) (good : Bool) :
    (s.wholeArrives got good).book = s.book := by
  unfold wholeArrives
  repeat' split
  all_goals simp

@[simp] theorem takeRx_book (o : RxOut) : (s.takeRx o).book = s.book := by
  unfold takeRx; split <;> simp

@[simp] theorem lineEvent_book (e : LineEvent) : (s.lineEvent e).book = s.book :=
  (takeRx_book _ _).trans rfl

@[simp] theorem classify_book (p : List Byte) : (s.classify p).book = s.book := by
  unfold classify
  repeat' split
  all_goals simp

/-! ### Jobs' own bookkeeping leaves the book -/

/-- A lock fails a transfer that is not APPLYING (R106). -/
@[simp] theorem lockUpdate_book : (s.lockUpdate i).book = s.book := by
  unfold lockUpdate
  split
  · rename_i h
    rw [offerReport_book]
    refine modUpdate_book_same s i _ ?_
    rcases h with h | h | h <;> simp [h]
  · rfl

/-- The present step moves on within the run of the cook (R53). -/
theorem advanceCook_book (h : (s.cook i).state ≠ .idle) : (s.advanceCook i).book = s.book := by
  have active : ((s.cook i).state != .idle) = true := bne_iff_ne.mpr h
  unfold advanceCook
  dsimp only
  split
  all_goals
    rw [putPending_book]
    exact modCook_book_same s i _ (by simp only [CookCtx.held, active]; rfl)

@[simp] theorem frameLeft_book (f : DownFrame) : (s.frameLeft f).book = s.book := by
  unfold frameLeft
  split
  · rfl
  split
  · rfl
  split
  · exact modUpdate_book_same s _ _ Iff.rfl
  split
  · split <;> simp
  · rfl

@[simp] theorem forwardSample_book (k : KFrame) : (s.forwardSample i k).book = s.book := by
  unfold forwardSample; dsimp only; split <;> simp

@[simp] theorem panelRefused_book (recipe : Nat) (reason : Result) :
    (s.panelRefused i recipe reason).book = s.book := by
  unfold panelRefused; dsimp only; split <;> simp

end State

@[simp] theorem Answered.finish_book (a : Answered) (r : ReplyTo) : (a.finish r).book = a.after.book := by
  unfold Answered.finish; split <;> simp

end Sys2Proof.Machine
end

section
/-! SUPPORT. What events do to the roster: admissions, drops, ends of jobs and, after the restore, new jobs and wait
entries. Both laws that speak of the roster are kept by each of these moves. -/

namespace Sys2Proof.Machine

namespace Roster

/-- An oven's wait entry is taken out (R84). -/
def without (r : Roster) (i : OvenId) : Roster := { r with queue := r.queue.filter (· != i) }

/-- The slot count is set. -/
def slots (r : Roster) (n : Nat) : Roster := { r with slotCount := n }

/-- An oven takes a slot (R78, R82). -/
def take (r : Roster) (i : OvenId) : Roster :=
  (r.occupy i .cleaning).slots (r.slotCount + 1)

/-- An oven gives its slot back (R78, R87). -/
def give (r : Roster) (i : OvenId) : Roster :=
  (r.occupy i .free).slots (r.slotCount - 1)

/-- An oven joins the wait queue (R81). -/
def join (r : Roster) (i : OvenId) : Roster := { r with queue := r.queue ++ [i] }

/-- What an event makes of a roster, move by move. While the restore runs nothing is admitted to an empty queue, and
no job begins. -/
inductive Moves (r : Roster) : Roster → Prop
  | refl : Moves r r
  | drop {t : Roster} (i : OvenId) (h : Moves r t) : Moves r (t.without i)
  | admission {t : Roster} (i : OvenId) (waits : r.phase = .restoring → r.queue ≠ [])
      (free : t.occupancy i = .free) (h : Moves r t) : Moves r ((t.take i).without i)
  | release {t : Roster} (i : OvenId) (busy : t.occupancy i ≠ .cleaning) (h : Moves r t) :
      Moves r (t.occupy i .free)
  | give {t : Roster} (i : OvenId) (cleaning : t.occupancy i = .cleaning) (h : Moves r t) :
      Moves r (t.give i)
  | join {t : Roster} (i : OvenId) (ready : r.phase ≠ .restoring) (free : t.occupancy i = .free)
      (new : i ∉ t.queue) (h : Moves r t) : Moves r (t.join i)
  | begin {t : Roster} (i : OvenId) (o : Occupancy) (ready : r.phase ≠ .restoring) (job : o ≠ .cleaning)
      (free : t.occupancy i = .free) (new : i ∉ t.queue) (h : Moves r t) : Moves r (t.occupy i o)

variable {r t u : Roster}

theorem Moves.phase (h : Moves r t) : t.phase = r.phase := by
  induction h with
  | refl => rfl
  | drop _ _ ih => exact ih
  | admission _ _ _ _ ih => exact ih
  | release _ _ _ ih => exact ih
  | give _ _ _ ih => exact ih
  | join _ _ _ _ _ ih => exact ih
  | begin _ _ _ _ _ _ _ ih => exact ih

/-- During the restore nothing joins the queue. -/
theorem Moves.queue_restoring (h : Moves r t) (hp : r.phase = .restoring) (hq : r.queue = []) :
    t.queue = [] := by
  induction h with
  | refl => exact hq
  | drop _ _ ih => simp [without, ih]
  | admission _ waits => exact absurd hq (waits hp)
  | release _ _ _ ih => exact ih
  | give _ _ _ ih => exact ih
  | join _ ready => exact absurd hp ready
  | begin _ _ ready => exact absurd hp ready

theorem Moves.trans (h : Moves r t) (h' : Moves t u) : Moves r u := by
  induction h' with
  | refl => exact h
  | drop i _ ih => exact .drop i ih
  | admission i waits free _ ih =>
    exact .admission i (fun hp hq => waits (h.phase.trans hp) (h.queue_restoring hp hq)) free ih
  | release i busy _ ih => exact .release i busy ih
  | give i cleaning _ ih => exact .give i cleaning ih
  | join i ready free new _ ih => exact .join i (h.phase ▸ ready) free new ih
  | begin i o ready job free new _ ih => exact .begin i o (h.phase ▸ ready) job free new ih

/-! ### The two laws of the roster -/

/-- The number of cleaning ovens (R78). -/
def cleaningOvens (r : Roster) : Nat := allOvens.countP fun i => r.occupancy i == .cleaning

/-- The law of cleaning, of a roster (R78, R81). -/
def Cleaning (r : Roster) : Prop :=
  r.slotCount = r.cleaningOvens ∧ r.queue.Nodup ∧ (∀ i ∈ r.queue, r.occupancy i = .free) ∧
    (r.phase = .restoring → r.slotCount = 0 ∧ r.queue = [])

/-- The clause of the restore: no oven has a job, none waits. -/
def Resting (r : Roster) : Prop :=
  r.phase = .restoring → r.queue = [] ∧ ∀ i, r.occupancy i = .free

/-- Each oven stands once in the list of all. -/
theorem countP_allOvens_update (p : OvenId → Bool) (i : OvenId) (b : Bool) :
    allOvens.countP (Function.update p i b) + (if p i then 1 else 0) =
      allOvens.countP p + (if b then 1 else 0) := by
  have go : ∀ l : List OvenId, l.Nodup →
      l.countP (Function.update p i b) + (if i ∈ l ∧ p i then 1 else 0) =
        l.countP p + (if i ∈ l ∧ b then 1 else 0) := by
    intro l
    induction l with
    | nil => simp
    | cons j rest ih =>
      intro hn
      obtain ⟨hj, hr⟩ := List.nodup_cons.mp hn
      have := ih hr
      by_cases h : j = i
      · subst h
        simp only [hj, false_and, if_false] at this
        simp [List.countP_cons]
        omega
      · simp only [List.countP_cons, Function.update_of_ne h, List.mem_cons, Ne.symm h, false_or]
        omega
  simpa [allOvens, List.mem_finRange] using go allOvens (List.nodup_finRange 16)

theorem cleaningOvens_occupy (r : Roster) (i : OvenId) (o : Occupancy) :
    (r.occupy i o).cleaningOvens + (if r.occupancy i = .cleaning then 1 else 0) =
      r.cleaningOvens + (if o = .cleaning then 1 else 0) := by
  have := countP_allOvens_update (fun j => r.occupancy j == .cleaning) i (o == .cleaning)
  simp only [beq_iff_eq] at this
  rw [← field_update (fun x : Occupancy => x == .cleaning)] at this
  exact this

theorem Moves.cleaning (h : Moves r t) (hr : r.Cleaning) : t.Cleaning := by
  induction h with
  | refl => exact hr
  | @drop t i _ ih =>
    obtain ⟨count, nodup, free, rest⟩ := ih
    exact ⟨count, nodup.filter _, fun j hj => free j (List.mem_of_mem_filter hj),
      fun hp => ⟨(rest hp).1, by simp [without, (rest hp).2]⟩⟩
  | @admission t i waits hf h ih =>
    obtain ⟨count, nodup, free, -⟩ := ih
    refine ⟨?_, nodup.filter _, fun j hj => ?_, fun hp => ?_⟩
    · have := cleaningOvens_occupy t i .cleaning
      simp [hf] at this
      exact (congrArg (· + 1) count).trans this.symm
    · obtain ⟨hj, hne⟩ := List.mem_filter.mp hj
      exact (Function.update_of_ne (by simpa using hne) _ _).trans (free j hj)
    · have hp : r.phase = .restoring := h.phase.symm.trans hp
      exact absurd (hr.2.2.2 hp).2 (waits hp)
  | @release t i busy _ ih =>
    obtain ⟨count, nodup, free, rest⟩ := ih
    refine ⟨?_, nodup, fun j hj => ?_, rest⟩
    · have := cleaningOvens_occupy t i .free
      simp [busy] at this
      exact count.trans this.symm
    · by_cases hji : j = i
      · subst hji; simp [occupy]
      · exact (Function.update_of_ne hji _ _).trans (free j hj)
  | @give t i cleaning _ ih =>
    obtain ⟨count, nodup, free, rest⟩ := ih
    refine ⟨?_, nodup, fun j hj => ?_, fun hp => ⟨?_, (rest hp).2⟩⟩
    · have := cleaningOvens_occupy t i .free
      simp [cleaning] at this
      exact (congrArg (· - 1) (count.trans this.symm)).trans (Nat.add_sub_cancel _ 1)
    · by_cases hji : j = i
      · subst hji; simp [Roster.give, slots, occupy]
      · exact (Function.update_of_ne hji _ _).trans (free j hj)
    · simp [Roster.give, slots, (rest hp).1]
  | @join t i ready hf new h ih =>
    obtain ⟨count, nodup, free, -⟩ := ih
    refine ⟨count, ?_, fun j hj => ?_, fun hp => absurd (h.phase.symm.trans hp) ready⟩
    · exact List.nodup_append.mpr ⟨nodup, List.nodup_singleton i, fun a ha b hb hab => by
        simp only [List.mem_singleton] at hb; exact new (hb ▸ hab ▸ ha)⟩
    · rcases List.mem_append.mp hj with hj | hj
      · exact free j hj
      · exact (List.mem_singleton.mp hj) ▸ hf
  | @begin t i o ready job hf new h ih =>
    obtain ⟨count, nodup, free, -⟩ := ih
    refine ⟨?_, nodup, fun j hj => ?_, fun hp => absurd (h.phase.symm.trans hp) ready⟩
    · have := cleaningOvens_occupy t i o
      simp [hf, job] at this
      exact count.trans this.symm
    · exact (Function.update_of_ne (fun e : j = i => new (by rwa [← e])) _ _).trans (free j hj)

theorem Moves.resting (h : Moves r t) (hr : r.Resting) : t.Resting := by
  intro restoring
  have hp : r.phase = .restoring := h.phase.symm.trans restoring
  clear restoring
  obtain ⟨hq, hf⟩ := hr hp
  refine ⟨h.queue_restoring hp hq, ?_⟩
  induction h with
  | refl => exact hf
  | drop _ _ ih => exact ih
  | admission _ waits => exact absurd hq (waits hp)
  | release i _ _ ih => exact fun j => by simp [occupy, Function.update_apply, ih j]
  | give i _ _ ih => exact fun j => by simp [Roster.give, slots, occupy, Function.update_apply, ih j]
  | join _ ready => exact absurd hp ready
  | begin _ _ ready => exact absurd hp ready

end Roster

/-! ### The laws of a state are the laws of its book -/

theorem cleaningLaw_iff (s : State) : CleaningLaw s ↔ s.book.roster.Cleaning := by
  simp [CleaningLaw, Roster.Cleaning, State.book, Roster.cleaningOvens, State.cleaningOvens]

end Sys2Proof.Machine
end

section
/-! SUPPORT. Admission passes, and all that can bring one, leave the ledger as it is and move the roster. -/

namespace Sys2Proof.Machine

open Roster (Moves)

/-- The ledger stays, the roster moves. -/
structure Book.Passes (b b' : Book) : Prop where
  ledger : b'.ledger = b.ledger
  roster : Moves b.roster b'.roster

namespace Book.Passes

variable {a b c : Book}

protected theorem refl : b.Passes b := ⟨rfl, .refl⟩

theorem of_eq (h : c = b) : b.Passes c := h ▸ .refl

protected theorem trans (h : a.Passes b) (h' : b.Passes c) : a.Passes c :=
  ⟨h'.ledger.trans h.ledger, h.roster.trans h'.roster⟩

end Book.Passes

namespace State

variable (s : State) (i : OvenId)

theorem setOccupancy_book (o : Occupancy) :
    (s.setOccupancy i o).book = ⟨s.book.ledger.setJob i o.job, s.book.roster.occupy i o⟩ := by
  rw [setOccupancy, modOven_book]
  simp [book, Ledger.setPresence, Ledger.setRecord, Ledger.setService, Ledger.setJob]

/-- A cleaning that begins or ends gives no job in the ledger. -/
theorem setOccupancy_book_cleaning (o : Occupancy) (h : o.job = (s.oven i).occupancy.job) :
    (s.setOccupancy i o).book = ⟨s.book.ledger, s.book.roster.occupy i o⟩ := by
  rw [setOccupancy_book, h]; simp [book, Ledger.setJob]

/-! ### Wait entries and slots -/

theorem removeWait_book : (s.removeWait i).book = ⟨s.book.ledger, s.book.roster.without i⟩ := by
  simp only [book, removeWait, Roster.without, List.filter_map]; rfl

theorem dropWait_book (r : DropReason) :
    (s.dropWait i r).book = ⟨s.book.ledger, s.book.roster.without i⟩ := by
  rcases dropWait_cases (s := s) i r with ⟨none, h⟩ | ⟨w, -, -, h⟩
  · have same : s.book.roster.without i = s.book.roster := by
      have : (s.cleaning.queue.map (·.oven)).filter (· != i) = s.cleaning.queue.map (·.oven) :=
        List.filter_eq_self.mpr (by simpa using none)
      simp only [Roster.without, book, this]
    rw [h, same]
  · rw [h, offerReport_book, removeWait_book]

theorem dropWait_passes (r : DropReason) : s.book.Passes (s.dropWait i r).book := by
  rw [dropWait_book]; exact ⟨rfl, .drop i .refl⟩

theorem takeSlot_book (free : (s.oven i).occupancy = .free) :
    (s.takeSlot i).book = ⟨s.book.ledger, s.book.roster.take i⟩ := by
  have count : (s.takeSlot i).book = ⟨(s.setOccupancy i .cleaning).book.ledger,
      (s.setOccupancy i .cleaning).book.roster.slots (s.cleaning.slotCount + 1)⟩ := rfl
  rw [count, setOccupancy_book_cleaning s i .cleaning (by rw [free]; rfl)]
  rfl

/-- Of an admission the book holds the slot; record, REQUEST and report it does not (R82). -/
theorem admitOven_book (free : (s.oven i).occupancy = .free) (p : Programme) (seq : Byte)
    (taken : LineTime) (route : Route) :
    (s.admitOven i p seq taken route).book = ⟨s.book.ledger, s.book.roster.take i⟩ := by
  simp [admitOven, takeSlot_book s i free]

theorem admissionPass_passes : s.book.Passes s.admissionPass.book := by
  by_cases hq : s.cleaning.queue = []
  · refine .of_eq ?_
    unfold admissionPass
    rw [hq]
    rfl
  · refine admissionPass_induct (fun t => s.book.Passes t.book) (fun _ _ h => h)
      (fun t i r h => h.trans (t.dropWait_passes i r)) ?_ .refl
    intro t w h _ _ _ free _ _ _
    rw [removeWait_book, admitOven_book t w.oven free]
    exact ⟨h.ledger, .admission w.oven (fun _ => by simpa [book] using hq) free h.roster⟩

theorem bufferFreed_passes : s.book.Passes s.bufferFreed.book := by
  unfold bufferFreed
  split
  · exact s.admissionPass_passes
  · exact .refl

/-! ### Calls that resolve -/

theorem relock_passes : s.book.Passes (s.relock i).book := by
  rcases relock_cases (s := s) i with h | ⟨-, -, h⟩
  · exact .of_eq (by rw [h])
  · rw [h]
    refine .trans (.of_eq ?_) (admissionPass_passes _)
    exact modOven_book_same s i _ rfl rfl rfl rfl

theorem relockFor_passes (c : Call) : s.book.Passes (s.relockFor c).book := by
  unfold relockFor
  split
  · exact s.relock_passes _
  · exact .refl

theorem resolveCall_passes (p : Fin 32) (c : Call) : s.book.Passes (s.resolveCall p c).book :=
  .trans (.of_eq (by simp)) (relockFor_passes _ c)

theorem clearCall_passes (p : Fin 32) : s.book.Passes (s.clearCall p).book := by
  unfold clearCall
  split
  · split
    · exact .refl
    split
    · exact s.resolveCall_passes p _
    · exact .of_eq (by simp)
  · exact .refl

theorem clearAtSource_passes (sub : Option OvenId) (code : Nat) :
    s.book.Passes (s.clearAtSource sub code).book := by
  unfold clearAtSource
  split
  · exact s.clearCall_passes _
  · exact .refl

theorem clearOnMatch_passes : s.book.Passes (s.clearOnMatch i).book :=
  (s.clearAtSource_passes _ _).trans (clearAtSource_passes _ _ _)

/-! ### Cleanings that end or are adopted -/

theorem giveSlot_passes : s.book.Passes (s.giveSlot i).book := by
  unfold giveSlot
  split
  · rename_i cleaning
    have count : (({ (s.setOccupancy i .free) with cleaning :=
          { s.cleaning with slotCount := s.cleaning.slotCount - 1 } } : State)).book =
        ⟨(s.setOccupancy i .free).book.ledger,
          (s.setOccupancy i .free).book.roster.slots (s.cleaning.slotCount - 1)⟩ := rfl
    refine .trans ?_ (.of_eq count)
    rw [setOccupancy_book_cleaning s i .free (by rw [cleaning]; rfl)]
    exact ⟨rfl, .give i cleaning .refl⟩
  · exact .refl

theorem endCleaning_passes (r : CleanResult) (by' : EndedBy) :
    s.book.Passes (s.endCleaning i r by').book := by
  unfold endCleaning
  extract_lets s1 s2 s3 s4
  have given : s.book.Passes s1.book :=
    (s.giveSlot_passes i).trans (.of_eq (staleRequests_book _ i))
  have cleared : s1.book.Passes s2.book :=
    .trans (.of_eq (modCleanRecord_book s1 i _)) (clearAtSource_passes _ _ _)
  have faulted : s4.book = s2.book := by
    have reported : s3.book = s2.book := offerReport_book _ _
    have : s4.book = s3.book := by
      unfold s4
      split
      · exact raise_book _ _ _ _ _ (by decide)
      · rfl
    exact this.trans reported
  have closed : s4.book.Passes ((s4.modCleanRecord i fun c => { c with isOpen := false }).admissionPass).book :=
    .trans (.of_eq (modCleanRecord_book s4 i _)) (admissionPass_passes _)
  exact (given.trans cleared).trans (.trans (.of_eq faulted) closed)

/-- An adoption takes a FREE oven and its wait entry; the restore takes no HELLO (R9, R166). -/
theorem adopt_passes (ready : s.phase ≠ .restoring) (free : (s.oven i).occupancy = .free) :
    s.book.Passes (s.adopt i).book := by
  rw [adopt, dropWait_book, modCleanRecord_book, takeSlot_book s i free]
  exact ⟨rfl, .admission i (fun h => absurd h ready) free .refl⟩

/-! ### Freed buffers -/

theorem leaveClass_passes (k : Fin 4) : s.book.Passes (s.leaveClass k).book := by
  unfold leaveClass
  split
  · exact .refl
  · refine .trans (.of_eq ?_) (bufferFreed_passes _)
    rw [frameLeft_book]
    rfl

theorem purge_passes : s.book.Passes (s.purge i).book := by
  unfold purge
  dsimp only
  split
  · refine .trans (.of_eq ?_) (bufferFreed_passes _)
    rfl
  · exact .of_eq rfl

/-! ### Requests of cleaning and of the Call Table -/

theorem acknowledge_passes (p : Fin 32) (c : Call) : s.book.Passes (s.acknowledge p c).after.book := by
  unfold acknowledge
  dsimp only
  split
  · exact .trans (.of_eq (s.leaveReports_book p)) (resolveCall_passes _ p c)
  · exact .of_eq rfl

end State
end Sys2Proof.Machine
end

section
/-! SUPPORT. The entries an event can make in the ledger, and the laws of serials, of presence and of occupancy that
each entry keeps. -/

namespace Sys2Proof.Machine

/-- One cook fewer on the version a recipe number and a version number name (R33, R34). -/
inductive DropsUser (recipes : Vector RecipeEntry 512) (steps : Vector StepRec 768) (recipe version : Nat) :
    Vector RecipeEntry 512 → Vector StepRec 768 → Prop
  | live (r : Fin 512) (v : LiveVersion) (named : recipeOf recipe = some r)
      (held : recipes[r].live = some v) (number : v.run.version = version) :
      DropsUser recipes steps recipe version
        (recipes.set r { recipes[r] with live := some { v with users := v.users - 1 } }) steps
  | drains (r : Fin 512) (v : DrainVersion) (named : recipeOf recipe = some r)
      (notLive : ∀ x, recipes[r].live = some x → x.run.version ≠ version)
      (held : recipes[r].draining = some v) (number : v.run.version = version) (others : 1 < v.users) :
      DropsUser recipes steps recipe version
        (recipes.set r { recipes[r] with draining := some { v with users := v.users - 1 } }) steps
  | frees (r : Fin 512) (v : DrainVersion) (named : recipeOf recipe = some r)
      (notLive : ∀ x, recipes[r].live = some x → x.run.version ≠ version)
      (held : recipes[r].draining = some v) (number : v.run.version = version) (last : v.users ≤ 1) :
      DropsUser recipes steps recipe version (recipes.set r { recipes[r] with draining := none })
        (modRun steps v.run StepRec.freed)
  | unknown (none : ∀ r, recipeOf recipe = some r →
        (∀ x, recipes[r].live = some x → x.run.version ≠ version) ∧
          ∀ x, recipes[r].draining = some x → x.run.version ≠ version) :
      DropsUser recipes steps recipe version recipes steps

/-- What a request does to the Recipe Map and the Step Store (R22, R27 to R32). -/
inductive TableStep (recipes : Vector RecipeEntry 512) (steps : Vector StepRec 768) :
    Vector RecipeEntry 512 → Vector StepRec 768 → Prop
  | masks (r : Fin 512) (d : BitVec 4) (m : BitVec 16) :
      TableStep recipes steps (recipes.set r { recipes[r] with dayparts := d, permit := m }) steps
  | write (k : Fin 768) (p : StepParams) (unused : steps[k].inUse = false) :
      TableStep recipes steps recipes (steps.set k { steps[k] with params := p, written := true })
  | stage (r : Fin 512) (run : Run) (fits : run.first + run.count ≤ 768)
      (notLive : ∀ v, recipes[r].live = some v → v.run.version ≠ run.version)
      (notDraining : ∀ v, recipes[r].draining = some v → v.run.version ≠ run.version)
      (claimable : ∀ k : Fin 768, run.first ≤ k.val → k.val < run.first + run.count →
        steps[k].claimable (r.val + 1) = true) :
      TableStep recipes steps (recipes.set r { recipes[r] with staged := some run })
        (modRun ((recipes[r].staged.map fun old => freeOutside steps old run).getD steps) run
          (StepRec.claimed (r.val + 1) run.version))
  | unstage (r : Fin 512) (run : Run) (held : recipes[r].staged = some run) :
      TableStep recipes steps (recipes.set r { recipes[r] with staged := none })
        (modRun steps run StepRec.freed)
  | drain (r : Fin 512) (v : LiveVersion) (held : recipes[r].live = some v) (used : 0 < v.users)
      (single : recipes[r].draining = none) :
      TableStep recipes steps
        (recipes.set r { recipes[r] with live := none, draining := some { run := v.run, users := v.users } })
        (modRun steps v.run (StepRec.asRole .draining))
  | withdraw (r : Fin 512) (v : LiveVersion) (held : recipes[r].live = some v) (unused : v.users = 0) :
      TableStep recipes steps (recipes.set r { recipes[r] with live := none })
        (modRun steps v.run StepRec.freed)
  | live (r : Fin 512) (run : Run) (needs : Needs) (held : recipes[r].staged = some run)
      (place : recipes[r].live = none) :
      TableStep recipes steps
        (recipes.set r
          { recipes[r] with live := some { run := run, needs := needs, users := 0 }, staged := none })
        (modRun steps run (StepRec.asRole .live))

namespace Ledger

/-- Recipe Map and Step Store change. -/
def setTables (l : Ledger) (recipes : Vector RecipeEntry 512) (steps : Vector StepRec 768) : Ledger :=
  { l with recipes := recipes, steps := steps }

/-- The ledger right after a reset; the saved image is kept (R164). -/
def restarted (l : Ledger) : Ledger := { State.reset.book.ledger with image := l.image }

/-- The ledger after READY without a valid image (R165). -/
def readied (l : Ledger) : Ledger := { l with phase := .ready }

/-- The ledger after READY with the contents of a valid image (R165). -/
def restored (l : Ledger) (c : SavedContent) : Ledger :=
  { l with
    phase := .ready
    presence := fun i => (restoredOven c.records[i]).presence
    record := fun i => (restoredOven c.records[i]).record
    service := fun i => (restoredOven c.records[i]).service
    job := fun i => (restoredOven c.records[i]).occupancy.job
    recipes := c.recipes.map SavedRecipe.entry
    steps := c.steps.map fun r => r.getD StepRec.blank }

/-- A SAVE has put an image (R168). -/
def setImage (l : Ledger) (m : Image) : Ledger := { l with image := some m }

/-- A TABLE_CLEAR begins or ends (R36, R38). -/
def setClearing (l : Ledger) (b : Bool) : Ledger := { l with clearing := b }

/-- The job that is left where another one ends. -/
def jobWithout (l : Ledger) (i : OvenId) (o : Occupancy) : Occupancy :=
  if l.job i = o then .free else l.job i

end Ledger

open Ledger

/-- One entry an event makes in the ledger, the beginning of a cook apart. -/
inductive Entry (l : Ledger) : Ledger → Prop
  | watched (i : OvenId) (p : Presence) (old : l.presence i = .active ∨ l.presence i = .silent)
      (new : p = .active ∨ p = .silent) : Entry l (l.setPresence i p)
  | announce (i : OvenId) (old : l.presence i = .vacant) : Entry l (l.setPresence i .announced)
  | commission (i : OvenId) (r : CommRecord) (old : l.presence i = .vacant ∨ l.presence i = .announced)
      (unique : ∀ j q, j ≠ i → l.record j = some q → q.serial ≠ r.serial) :
      Entry l ((l.setRecord i (some r)).setPresence i .commissioned)
  | activate (i : OvenId) (ready : l.phase ≠ .restoring) (old : l.presence i = .commissioned) :
      Entry l ((l.setPresence i .active).setFrozen i (some (l.service i || l.job i == .applying)))
  | mismatch (i : OvenId) (old : l.presence i = .active ∨ l.presence i = .silent) :
      Entry l ((l.setPresence i .commissioned).setFrozen i none)
  | settings (i : OvenId) (q r : CommRecord) (old : l.record i = some q) (serial : r.serial = q.serial) :
      Entry l (l.setRecord i (some r))
  | service (i : OvenId) (b : Bool) :
      Entry l ((l.setService i b).setFrozen i ((l.frozen i).map fun _ => b || l.job i == .applying))
  | retire (i : OvenId) (free : l.job i = .free) :
      Entry l (((((l.setApplying i false).setPresence i .vacant).setRecord i none).setService i
        false).setFrozen i none)
  | beginApply (i : OvenId) (ready : l.phase ≠ .restoring) (free : l.job i = .free) :
      Entry l (((l.setJob i .applying).setApplying i true).setFrozen i ((l.frozen i).map fun _ => true))
  | endApply (i : OvenId) (old : l.applying i = true) :
      Entry l (((l.setApplying i false).setJob i (l.jobWithout i .applying)).setFrozen i
        ((l.frozen i).map fun _ => l.service i))
  | endCook (i : OvenId) (recipes : Vector RecipeEntry 512) (steps : Vector StepRec 768)
      (old : (l.cook i).active = true)
      (drops : DropsUser l.recipes l.steps (l.cook i).recipe (l.cook i).version recipes steps) :
      Entry l (((l.setTables recipes steps).setJob i (l.jobWithout i .cooking)).setCook i
        { l.cook i with active := false })
  | tables (recipes : Vector RecipeEntry 512) (steps : Vector StepRec 768)
      (change : TableStep l.recipes l.steps recipes steps) : Entry l (l.setTables recipes steps)
  | clearBegins (idle : ∀ i, (l.cook i).active = false) : Entry l (l.setClearing true)
  | clearEnds (old : l.clearing = true) :
      Entry l ((l.setTables (Vector.replicate 512 RecipeEntry.reset)
        (Vector.replicate 768 StepRec.blank)).setClearing false)
  | save (m : Image) (records : ∀ (i : OvenId) a, m.content.records[i] = some a → l.record i = some a)
      (recipes : m.content.recipes = l.recipes.map RecipeEntry.saved)
      (steps : m.content.steps = l.steps.map StepRec.saved) : Entry l (l.setImage m)
  | saved (m n : Image) (old : l.image = some m) (same : n.content = m.content) : Entry l (l.setImage n)
  | restart : Entry l l.restarted
  | ready (old : l.phase = .restoring) : Entry l l.readied
  | restore (m : Image) (old : l.phase = .restoring) (image : l.image = some m) :
      Entry l (l.restored m.content)

namespace Ledger

/-! ### The laws of a ledger -/

/-- No serial is expected twice (R15, R165). -/
def Serials (l : Ledger) : Prop :=
  (∀ i j a b, l.record i = some a → l.record j = some b → a.serial = b.serial → i = j) ∧
    ∀ m, l.image = some m → ∀ (i j : OvenId) a b, m.content.records[i] = some a →
      m.content.records[j] = some b → a.serial = b.serial → i = j

/-- Record, watch and frozen flag of one oven go with its presence, its service flag and its job (01, R125,
R130). -/
def PresentAt (l : Ledger) (i : OvenId) : Prop :=
  ((l.record i).isSome = true ↔ l.presence i ≠ .vacant ∧ l.presence i ≠ .announced) ∧
    ((l.frozen i).isSome = true ↔ l.presence i = .active ∨ l.presence i = .silent) ∧
    (∀ b, l.frozen i = some b → (b = true ↔ l.service i = true ∨ l.job i = .applying)) ∧
    (l.phase = .restoring → l.frozen i = none)

/-- Occupancy by cooks and applies (R11); during the restore there is none. -/
def Occupied (l : Ledger) : Prop :=
  ∀ i, (l.job i = .cooking ↔ (l.cook i).active = true) ∧
    (l.job i = .applying ↔ l.applying i = true) ∧ (l.phase = .restoring → l.job i = .free)

end Ledger

/-! ### An entry given back by the restore (R2, R165) -/

@[simp] theorem restoredOven_record (r : Option CommRecord) : (restoredOven r).record = r := by
  cases r <;> rfl

@[simp] theorem restoredOven_presence (r : Option CommRecord) :
    (restoredOven r).presence = if r.isSome then .commissioned else .vacant := by
  cases r <;> rfl

@[simp] theorem restoredOven_occupancy (r : Option CommRecord) : (restoredOven r).occupancy = .free := by
  cases r <;> rfl

section
variable {l l' : Ledger}

/-- Every entry keeps the expected serials apart: only a new record can bring a serial, and it is another than
those in the table (R14). -/
theorem Entry.serials (e : Entry l l') (h : l.Serials) : l'.Serials := by
  obtain ⟨table, image⟩ := h
  /- A record written for one oven, whose serial no other entry expects. -/
  have written : ∀ (i : OvenId) (r : Option CommRecord),
      (∀ x, r = some x → ∀ j q, j ≠ i → l.record j = some q → q.serial ≠ x.serial) →
      ∀ j k a b, Function.update l.record i r j = some a → Function.update l.record i r k = some b →
        a.serial = b.serial → j = k := by
    intro i r new j k a b ha hb hs
    by_cases hj : j = i
    · by_cases hk : k = i
      · exact hj.trans hk.symm
      · subst hj
        rw [Function.update_self] at ha
        rw [Function.update_of_ne hk] at hb
        exact absurd hs.symm (new a ha k b hk hb)
    · rw [Function.update_of_ne hj] at ha
      by_cases hk : k = i
      · subst hk
        rw [Function.update_self] at hb
        exact absurd hs (new b hb j a hj ha)
      · rw [Function.update_of_ne hk] at hb
        exact table j k a b ha hb hs
  cases e with
  | watched => exact ⟨table, image⟩
  | announce => exact ⟨table, image⟩
  | commission i r _ unique =>
    exact ⟨written i (some r) fun x hx j q hj hq => by cases hx; exact unique j q hj hq, image⟩
  | activate => exact ⟨table, image⟩
  | mismatch => exact ⟨table, image⟩
  | settings i q r old serial =>
    refine ⟨written i (some r) fun x hx j p hj hp hs => ?_, image⟩
    cases hx
    exact hj (table j i p q hp old (hs.trans serial))
  | service => exact ⟨table, image⟩
  | retire i => exact ⟨written i none fun x hx => absurd hx (by simp), image⟩
  | beginApply => exact ⟨table, image⟩
  | endApply => exact ⟨table, image⟩
  | endCook => exact ⟨table, image⟩
  | tables => exact ⟨table, image⟩
  | clearBegins => exact ⟨table, image⟩
  | clearEnds => exact ⟨table, image⟩
  | save m records =>
    refine ⟨table, fun m' hm i j a b ha hb => ?_⟩
    cases hm
    exact table i j a b (records i a ha) (records j b hb)
  | saved m n old same =>
    refine ⟨table, fun m' hm => ?_⟩
    cases hm
    exact same ▸ image m old
  | restart =>
    refine ⟨fun i j a b ha => ?_, image⟩
    simp [Ledger.restarted, State.book, State.reset, State.oven, OvenEntry.reset] at ha
  | ready => exact ⟨table, image⟩
  | restore m _ hm =>
    exact ⟨fun i j a b ha hb => image m hm i j a b ((restoredOven_record _).symm.trans ha)
      ((restoredOven_record _).symm.trans hb), image⟩

/-- An entry for one oven leaves the others' presence law; for the oven it is shown. -/
theorem Ledger.present_of_other {i : OvenId} (h : ∀ j, l.PresentAt j) (phase : l'.phase = l.phase)
    (others : ∀ j, j ≠ i → l'.record j = l.record j ∧ l'.presence j = l.presence j ∧
      l'.frozen j = l.frozen j ∧ l'.service j = l.service j ∧ l'.job j = l.job j)
    (own : l'.PresentAt i) : ∀ j, l'.PresentAt j := by
  intro j
  by_cases hj : j = i
  · exact hj ▸ own
  · obtain ⟨hr, hp, hf, hs, ho⟩ := others j hj
    simpa only [PresentAt, hr, hp, hf, hs, ho, phase] using h j

/-- Every entry keeps records and watches with the presences that have them, frozen in service and while
applying. -/
theorem Entry.present (e : Entry l l') (h : ∀ i, l.PresentAt i) : ∀ i, l'.PresentAt i := by
  cases e with
  | watched i p old new =>
    refine Ledger.present_of_other (i := i) h rfl (fun j hj => ?_) ?_
    · simp [setPresence, Function.update_of_ne hj]
    · obtain ⟨record, watch, frozen, rest⟩ := h i
      rcases new with rfl | rfl <;> rcases old with old | old <;>
        simp_all [PresentAt, setPresence]
  | announce i old =>
    refine Ledger.present_of_other (i := i) h rfl (fun j hj => ?_) ?_
    · simp [setPresence, Function.update_of_ne hj]
    · obtain ⟨record, watch, frozen, rest⟩ := h i
      simp_all [PresentAt, setPresence]
  | commission i r old _ =>
    refine Ledger.present_of_other (i := i) h rfl (fun j hj => ?_) ?_
    · simp [setPresence, setRecord, Function.update_of_ne hj]
    · obtain ⟨record, watch, frozen, rest⟩ := h i
      rcases old with old | old <;> simp_all [PresentAt, setPresence, setRecord]
  | activate i ready old =>
    refine Ledger.present_of_other (i := i) h rfl (fun j hj => ?_) ?_
    · simp [setPresence, setFrozen, Function.update_of_ne hj]
    · obtain ⟨record, watch, frozen, rest⟩ := h i
      simp_all [PresentAt, setPresence, setFrozen]
  | mismatch i old =>
    refine Ledger.present_of_other (i := i) h rfl (fun j hj => ?_) ?_
    · simp [setPresence, setFrozen, Function.update_of_ne hj]
    · obtain ⟨record, watch, frozen, rest⟩ := h i
      rcases old with old | old <;> simp_all [PresentAt, setPresence, setFrozen]
  | settings i q r old _ =>
    refine Ledger.present_of_other (i := i) h rfl (fun j hj => ?_) ?_
    · simp [setRecord, Function.update_of_ne hj]
    · obtain ⟨record, watch, frozen, rest⟩ := h i
      simp_all [PresentAt, setRecord]
  | service i b =>
    refine Ledger.present_of_other (i := i) h rfl (fun j hj => ?_) ?_
    · simp [setService, setFrozen, Function.update_of_ne hj]
    · obtain ⟨record, watch, frozen, rest⟩ := h i
      refine ⟨record, ?_, ?_, ?_⟩
      · simpa [setService, setFrozen] using watch
      · simp only [setService, setFrozen, Function.update_self]
        rintro x hx
        obtain ⟨-, -, rfl⟩ := Option.map_eq_some_iff.mp hx
        simp
      · intro hp
        simp [setService, setFrozen, rest hp]
  | retire i _ =>
    refine Ledger.present_of_other (i := i) h rfl (fun j hj => ?_) ?_
    · simp [setPresence, setRecord, setService, setFrozen, setApplying, Function.update_of_ne hj]
    · simp [PresentAt, setPresence, setRecord, setService, setFrozen, setApplying]
  | beginApply i _ _ =>
    refine Ledger.present_of_other (i := i) h rfl (fun j hj => ?_) ?_
    · simp [setJob, setApplying, setFrozen, Function.update_of_ne hj]
    · obtain ⟨record, watch, frozen, rest⟩ := h i
      refine ⟨record, ?_, ?_, ?_⟩
      · simpa [setJob, setApplying, setFrozen] using watch
      · simp only [setJob, setApplying, setFrozen, Function.update_self]
        rintro x hx
        obtain ⟨-, -, rfl⟩ := Option.map_eq_some_iff.mp hx
        simp
      · intro hp
        simp [setJob, setApplying, setFrozen, rest hp]
  | endApply i _ =>
    refine Ledger.present_of_other (i := i) h rfl (fun j hj => ?_) ?_
    · simp [setJob, setApplying, setFrozen, Function.update_of_ne hj]
    · obtain ⟨record, watch, frozen, rest⟩ := h i
      have free : l.jobWithout i .applying ≠ .applying := by
        unfold Ledger.jobWithout; split <;> simp_all
      refine ⟨record, ?_, ?_, ?_⟩
      · simpa [setJob, setApplying, setFrozen] using watch
      · simp only [setJob, setApplying, setFrozen, Function.update_self]
        rintro x hx
        obtain ⟨-, -, rfl⟩ := Option.map_eq_some_iff.mp hx
        simp [free]
      · intro hp
        simp [setJob, setApplying, setFrozen, rest hp]
  | endCook i =>
    refine Ledger.present_of_other (i := i) h rfl (fun j hj => ?_) ?_
    · simp [setJob, setTables, setCook, Function.update_of_ne hj]
    · have same : l.jobWithout i .cooking = .applying ↔ l.job i = .applying := by
        unfold Ledger.jobWithout; split <;> simp_all
      simpa [PresentAt, setJob, setTables, setCook, same] using h i
  | tables => exact h
  | clearBegins => exact h
  | clearEnds => exact h
  | save => exact h
  | saved => exact h
  | restart =>
    intro i
    simp [PresentAt, Ledger.restarted, State.book, State.reset, State.oven, State.watch, OvenEntry.reset]
  | ready old =>
    intro i
    obtain ⟨record, watch, frozen, rest⟩ := h i
    exact ⟨record, watch, frozen, fun _ => rest old⟩
  | restore m old _ =>
    intro i
    have none : l.frozen i = none := (h i).2.2.2 old
    simp only [PresentAt, Ledger.restored, none, restoredOven_record, restoredOven_presence]
    cases m.content.records[i] <;> simp

/-- An entry for one oven leaves the others' occupancy law; for the oven it is shown. -/
theorem Ledger.occupied_of_other {i : OvenId} (h : l.Occupied) (phase : l'.phase = l.phase)
    (others : ∀ j, j ≠ i → l'.job j = l.job j ∧ l'.cook j = l.cook j ∧ l'.applying j = l.applying j)
    (own : (l'.job i = .cooking ↔ (l'.cook i).active = true) ∧ (l'.job i = .applying ↔ l'.applying i = true) ∧
      (l'.phase = .restoring → l'.job i = .free)) : l'.Occupied := by
  intro j
  by_cases hj : j = i
  · exact hj ▸ own
  · obtain ⟨ho, hc, ha⟩ := others j hj
    simpa only [ho, hc, ha, phase] using h j

/-- Every entry keeps occupancy in agreement with cooks and applies (R11). -/
theorem Entry.occupied (e : Entry l l') (h : l.Occupied) : l'.Occupied := by
  cases e with
  | watched => exact h
  | announce => exact h
  | commission => exact h
  | activate => exact h
  | mismatch => exact h
  | settings => exact h
  | service => exact h
  | retire i free =>
    refine Ledger.occupied_of_other (i := i) h rfl (fun j hj => ?_) ?_
    · simp [setPresence, setRecord, setService, setFrozen, setApplying, Function.update_of_ne hj]
    · have := h i
      simp_all [setPresence, setRecord, setService, setFrozen, setApplying]
  | beginApply i ready free =>
    refine Ledger.occupied_of_other (i := i) h rfl (fun j hj => ?_) ?_
    · simp [setJob, setFrozen, setApplying, Function.update_of_ne hj]
    · have := h i
      simp_all [setJob, setFrozen, setApplying]
  | endApply i old =>
    refine Ledger.occupied_of_other (i := i) h rfl (fun j hj => ?_) ?_
    · simp [setJob, setFrozen, setApplying, Function.update_of_ne hj]
    · obtain ⟨cook, apply, -⟩ := h i
      have job : l.job i = .applying := apply.mpr old
      have idle : (l.cook i).active = false := by simpa [job] using cook
      simp [setJob, setFrozen, setApplying, Ledger.jobWithout, job, idle]
  | endCook i _ _ old =>
    refine Ledger.occupied_of_other (i := i) h rfl (fun j hj => ?_) ?_
    · simp [setJob, setTables, setCook, Function.update_of_ne hj]
    · obtain ⟨cook, apply, -⟩ := h i
      have job : l.job i = .cooking := cook.mpr old
      have none : l.applying i = false := by simpa [job] using apply
      simp [setJob, setTables, setCook, Ledger.jobWithout, job, none]
  | tables => exact h
  | clearBegins => exact h
  | clearEnds => exact h
  | save => exact h
  | saved => exact h
  | restart =>
    intro i
    simp [Ledger.restarted, State.book, State.reset, State.oven, State.cook, State.update, OvenEntry.reset,
      Occupancy.job, CookCtx.held, CookCtx.reset, UpdateCtx.reset]
  | ready old =>
    intro i
    obtain ⟨cook, apply, rest⟩ := h i
    exact ⟨cook, apply, fun _ => rest old⟩
  | restore m old _ =>
    intro i
    obtain ⟨cook, apply, rest⟩ := h i
    have free : (l.restored m.content).job i = .free := by
      simp only [Ledger.restored, restoredOven_occupancy]; rfl
    rw [rest old] at cook apply
    exact ⟨free ▸ cook, free ▸ apply, fun _ => free⟩

end
end Sys2Proof.Machine
end

section
/-! SUPPORT. What the shared operations write into the book: the end of a cook, a lock, an occurrence, the end of an
apply, and the ways of presence. -/

namespace Sys2Proof.Machine

open Roster (Moves)

/-- Entry by entry and move by move; no cook begins. -/
structure Book.Leads (b b' : Book) : Prop where
  ledger : Relation.ReflTransGen Entry b.ledger b'.ledger
  roster : Moves b.roster b'.roster

namespace Book

variable {a b c : Book}

protected theorem Leads.refl : b.Leads b := ⟨.refl, .refl⟩

theorem Leads.of_eq (h : c = b) : b.Leads c := h ▸ .refl

protected theorem Leads.trans (h : a.Leads b) (h' : b.Leads c) : a.Leads c :=
  ⟨h.ledger.trans h'.ledger, h.roster.trans h'.roster⟩

theorem Passes.leads (h : b.Passes c) : b.Leads c := ⟨h.ledger ▸ .refl, h.roster⟩

/-- One entry without a move. -/
theorem Leads.of_entry {l l' : Ledger} {r : Roster} (h : Entry l l') : Book.Leads ⟨l, r⟩ ⟨l', r⟩ :=
  ⟨.single h, .refl⟩

end Book

namespace State

variable (s : State) (i : OvenId)

/-! ### Jobs and watches -/

/-- The oven's job is read off its occupancy. -/
theorem job_eq_iff {o : Occupancy} (hc : o ≠ .cleaning) (hf : o ≠ .free) :
    s.book.ledger.job i = o ↔ (s.oven i).occupancy = o := by
  simp only [book]
  cases h : (s.oven i).occupancy <;> cases o <;> simp_all [Occupancy.job]

theorem freezes_eq : (s.oven i).freezes = (s.book.ledger.service i || s.book.ledger.job i == .applying) := by
  have : ((s.oven i).occupancy == .applying) = (s.book.ledger.job i == .applying) := by
    rw [Bool.eq_iff_iff, beq_iff_eq, beq_iff_eq, job_eq_iff s i (by decide) (by decide)]
  rw [OvenEntry.freezes, this]
  rfl

theorem releaseOccupancy_ledger {o : Occupancy} (hc : o ≠ .cleaning) (hf : o ≠ .free) :
    (s.releaseOccupancy i o).book.ledger = s.book.ledger.setJob i (s.book.ledger.jobWithout i o) := by
  by_cases h : (s.oven i).occupancy = o
  · rw [releaseOccupancy_same h, setOccupancy_book, Ledger.jobWithout,
      if_pos ((s.job_eq_iff i hc hf).mpr h)]
    rfl
  · rw [releaseOccupancy_other h, Ledger.jobWithout, if_neg (mt (s.job_eq_iff i hc hf).mp h)]
    simp [Ledger.setJob]

theorem releaseOccupancy_roster {o : Occupancy} (hc : o ≠ .cleaning) :
    Moves s.book.roster (s.releaseOccupancy i o).book.roster := by
  by_cases h : (s.oven i).occupancy = o
  · rw [releaseOccupancy_same h, setOccupancy_book]
    exact .release i (fun e => hc (h.symm.trans e)) .refl
  · rw [releaseOccupancy_other h]; exact .refl

/-- The frozen flag of a watch follows service and job (R130). -/
theorem refreeze_book : (s.refreeze i).book =
    ⟨s.book.ledger.setFrozen i ((s.book.ledger.frozen i).map fun _ =>
      s.book.ledger.service i || s.book.ledger.job i == .applying), s.book.roster⟩ := by
  rw [← freezes_eq]
  unfold refreeze
  split
  · rename_i w hw
    rw [setWatch_book]
    simp [book, hw]
  · rename_i hw
    simp [book, hw, Ledger.setFrozen]

/-- Only the presence is in the book; the report is not (R19). -/
theorem setPresence_book (p : Presence) (c : PresenceCause) :
    (s.setPresence i p c).book = ⟨s.book.ledger.setPresence i p, s.book.roster⟩ := by
  rw [setPresence, offerReport_book, modOven_book]
  simp [book, Ledger.setPresence, Ledger.setRecord, Ledger.setService, Ledger.setJob, Roster.occupy]

/-! ### The end of a cook -/

/-- One user fewer on the version that carries the number, in the tables alone (R33, R34). -/
theorem dropUser_book (recipe version : Nat) : ∃ rs ss,
    DropsUser s.recipes s.steps recipe version rs ss ∧
      (s.dropUser recipe version).book = ⟨s.book.ledger.setTables rs ss, s.book.roster⟩ := by
  /- The draining version is looked at where the live one carries another number. -/
  have draining : ∀ r, recipeOf recipe = some r →
      (∀ x, s.recipes[r].live = some x → x.run.version ≠ version) → ∃ rs ss,
      DropsUser s.recipes s.steps recipe version rs ss ∧
        (s.dropDraining r version).book = ⟨s.book.ledger.setTables rs ss, s.book.roster⟩ := by
    intro r named notLive
    have unique : ∀ q, recipeOf recipe = some q → q = r := fun q hq => by
      rw [named] at hq; exact (Option.some.inj hq).symm
    unfold dropDraining
    split
    · rename_i v held
      split
      · rename_i number
        split
        · rename_i last
          exact ⟨_, _, .frees r v named notLive held number last, rfl⟩
        · rename_i others
          exact ⟨_, _, .drains r v named notLive held number (by omega), rfl⟩
      · rename_i number
        refine ⟨_, _, .unknown fun q hq => ?_, rfl⟩
        rw [unique q hq]
        exact ⟨notLive, fun x hx => by
          rw [show s.recipes[r].draining = some v from held] at hx; cases hx; exact number⟩
    · rename_i held
      refine ⟨_, _, .unknown fun q hq => ?_, rfl⟩
      rw [unique q hq]
      exact ⟨notLive, fun x hx => by
        rw [show s.recipes[r].draining = none from held] at hx; cases hx⟩
  unfold dropUser
  split
  · rename_i none
    exact ⟨_, _, .unknown (fun q hq => absurd (none.symm.trans hq) (by simp)), rfl⟩
  · rename_i r named
    split
    · rename_i v held
      split
      · rename_i number
        exact ⟨_, _, .live r v named held number, rfl⟩
      · rename_i number
        refine draining r named fun x hx => ?_
        rw [show s.recipes[r].live = some v from held] at hx; cases hx; exact number
    · rename_i held
      refine draining r named fun x hx => ?_
      rw [show s.recipes[r].live = none from held] at hx; cases hx

theorem atEnd_held (c : CookCtx) : c.atEnd.held = c.held := by
  unfold CookCtx.atEnd; split <;> rfl

/-- The end of a cook is one entry (R57). -/
theorem cookGoIdle_leads (r : CookResult) (h : (s.cook i).state ≠ .idle) :
    s.book.Leads (s.cookGoIdle i r).book := by
  unfold cookGoIdle
  extract_lets old s1 s2 s3 s4 s5
  have book1 : s1.book = s.book := (modCook_book_same _ i _ (atEnd_held _)).trans (setSlot_book s i _)
  have book2 : s2.book = s.book := (offerReport_book _ _).trans book1
  have held : (s1.cook i).held = (s.cook i).held := congrArg (fun b => b.ledger.cook i) book1
  obtain ⟨rs, ss, drops, book3⟩ := s2.dropUser_book (s1.cook i).recipe (s1.cook i).version
  have tables : s2.recipes = s.recipes ∧ s2.steps = s.steps :=
    ⟨congrArg (fun b => b.ledger.recipes) book2, congrArg (fun b => b.ledger.steps) book2⟩
  have cleared : s4.book.Passes s5.book :=
    ((clearAtSource_passes _ _ _).trans (clearAtSource_passes _ _ _)).trans (clearAtSource_passes _ _ _)
  have ledger5 : s5.book.ledger = (s.book.ledger.setTables rs ss).setJob i
      (s.book.ledger.jobWithout i .cooking) := by
    rw [cleared.ledger, releaseOccupancy_ledger s3 i (by decide) (by decide), book3, book2]
    rfl
  have roster5 : Moves s.book.roster s5.book.roster := by
    have := (releaseOccupancy_roster s3 i (o := .cooking) (by decide)).trans cleared.roster
    rwa [book3, book2] at this
  have run : (s5.cook i).held = (s.cook i).held := congrFun (congrArg Ledger.cook ledger5) i
  rw [modCook_book]
  refine ⟨.single ?_, roster5⟩
  have idle : ({ s5.cook i with state := .idle } : CookCtx).held = { (s.cook i).held with active := false } := by
    rw [← run]; rfl
  show Entry s.book.ledger (s5.book.ledger.setCook i ({ s5.cook i with state := .idle } : CookCtx).held)
  rw [idle, ledger5]
  have number : (s1.cook i).recipe = (s.cook i).recipe ∧ (s1.cook i).version = (s.cook i).version :=
    ⟨congrArg CookRun.recipe held, congrArg CookRun.version held⟩
  rw [tables.1, tables.2, number.1, number.2] at drops
  exact .endCook i rs ss (bne_iff_ne.mpr h) drops

theorem stopCook_leads (r : CookResult) : s.book.Leads (s.stopCook i r).book := by
  by_cases h : (s.cook i).state = .idle
  · exact .of_eq (by rw [stopCook_idle r h])
  · rw [stopCook_running r h, putStop_book]; exact s.cookGoIdle_leads i r h

/-! ### Locks and occurrences -/

theorem lockOven_leads : s.book.Leads (s.lockOven i).book := by
  unfold lockOven
  split
  · exact .refl
  · rw [lockUpdate_book]
    refine .trans ?_ (dropWait_passes _ _ _).leads
    refine .trans (.of_eq ?_) (stopCook_leads _ _ _)
    exact modOven_book_same s i _ rfl rfl rfl rfl

theorem lockSubject_leads (sub : Option OvenId) : s.book.Leads (s.lockSubject sub).book := by
  cases sub with
  | none => exact .refl
  | some i => exact s.lockOven_leads i

theorem raise_leads (sub : Option OvenId) (code : Nat) (sev : Severity) (kind : CallKind) :
    s.book.Leads (s.raise sub code sev kind).book := by
  obtain ⟨p, c, -, -, merged⟩ | ⟨-, ⟨-, lost⟩ | ⟨p, -, -, -, created⟩ | ⟨p, -, -, locking⟩ |
    ⟨p, -, -, -, displacing⟩ | ⟨-, -, -, overflowing⟩⟩ := raise_cases (s := s) sub code sev kind
  · exact .of_eq (by simp [merged])
  · exact .of_eq (by simp [lost])
  · exact .of_eq (by simp [created])
  · rw [locking]; exact .trans (.of_eq (by simp)) (lockSubject_leads _ sub)
  · rw [displacing]; exact .trans (.of_eq (by simp)) (lockSubject_leads _ sub)
  · rw [overflowing]; exact .trans (.of_eq (by simp)) (lockSubject_leads _ sub)

theorem raiseIf_book (code : Nat) (sev : Option Severity) (h : sev ≠ some .lockout) :
    (s.raiseIf i code sev).book = s.book := by
  cases sev with
  | none => rfl
  | some x => exact raise_book s _ _ _ _ fun e => h (congrArg some e)

/-! ### The end of an apply -/

theorem endApply_leads (cause : FailCause) (announced : Version) (h : (s.update i).state = .applying) :
    s.book.Leads (s.endApply i cause announced).book := by
  unfold endApply
  extract_lets failed s1 s2 s3 s4
  have book1 : s1.book = ⟨s.book.ledger.setApplying i false, s.book.roster⟩ := by
    refine (modUpdate_book s i _).trans ?_
    cases failed <;> rfl
  have book4 : s4.book = s2.book := by
    have : s3.book = s2.book := by
      unfold s3
      split
      · exact raise_book _ _ _ _ _ (by decide)
      · rfl
    exact (offerReport_book _ _).trans this
  have ledger2 : s2.book.ledger =
      (s.book.ledger.setApplying i false).setJob i (s.book.ledger.jobWithout i .applying) := by
    rw [show s2.book.ledger = _ from releaseOccupancy_ledger s1 i (by decide) (by decide), book1]
    rfl
  have roster2 : Moves s.book.roster s2.book.roster := by
    have := releaseOccupancy_roster s1 i (o := .applying) (by decide)
    rwa [book1] at this
  have passed : ((s4.refreeze i).reloadWatch i).book.Passes ((s4.refreeze i).reloadWatch i).admissionPass.book :=
    admissionPass_passes _
  refine .trans ?_ passed.leads
  rw [reloadWatch_book, refreeze_book, book4]
  refine ⟨.single ?_, roster2⟩
  have free : (s.book.ledger.jobWithout i .applying == .applying) = false := by
    rw [beq_eq_false_iff_ne]; unfold Ledger.jobWithout; split <;> simp_all
  rw [ledger2]
  have := Entry.endApply (l := s.book.ledger) i (by simpa [book] using h)
  simpa [Ledger.setApplying, Ledger.setJob, Ledger.setFrozen, free] using this

end State
end Sys2Proof.Machine
end

section
/-! SUPPORT. What the owners of frames and timers write into the book: the cook watch, acknowledgements,
reconciliation, the HELLO, retirement, service mode, starts of cooks. -/

namespace Sys2Proof.Machine

open Roster (Moves)

/-! ### The cook watch keeps a cook's run (R60 to R75) -/

section
variable (c : CookCtx) (o : WatchOutcome) (p : StepParams)

/-- What an outcome of the watch keeps: the run; and neither of its own two calls is a LOCKOUT (R70, R73). -/
structure WatchOutcome.Mild (o : WatchOutcome) (c : CookCtx) : Prop where
  held : o.ctx.held = c.held
  deviation : o.deviation ≠ some .lockout
  coreTimeout : o.coreTimeout ≠ some .lockout

variable {c o}

theorem WatchOutcome.endTest_mild (h : o.Mild c) (tk : Option Int) (probe : Bool) (e : Nat) :
    (o.endTest p tk probe e).Mild c := by
  unfold WatchOutcome.endTest
  extract_lets ctx timeUp
  split
  · split
    · exact ⟨h.held, h.deviation, h.coreTimeout⟩
    · exact h
  · split
    · exact ⟨h.held, h.deviation, h.coreTimeout⟩
    split
    · split
      · exact ⟨h.held, h.deviation, by simp⟩
      · exact ⟨h.held, h.deviation, by simp⟩
    · exact ⟨h.held, h.deviation, h.coreTimeout⟩

theorem CookCtx.addDeviation_held (c : CookCtx) (tc : Option Int) (e : Nat) :
    (c.addDeviation p tc e).held = c.held := by
  cases tc <;> rfl

theorem WatchOutcome.doorClosed_mild (h : o.Mild c) (tc tk : Option Int) (probe : Bool) (e : Nat) :
    (o.doorClosed p tc tk probe e).Mild c := by
  unfold WatchOutcome.doorClosed
  extract_lets old c1 c2 o1
  have held : c2.held = c.held := (c1.addDeviation_held p tc e).trans h.held
  have severity : p.overrun.severity ≠ .lockout := by cases p.overrun <;> decide
  split
  · split
    · refine WatchOutcome.endTest_mild p ?_ tk probe e
      exact ⟨held, fun e => severity (Option.some.inj e), h.coreTimeout⟩
    · exact ⟨held, fun e => severity (Option.some.inj e), h.coreTimeout⟩
  · exact WatchOutcome.endTest_mild p (o := o1) ⟨held, h.deviation, h.coreTimeout⟩ tk probe e

theorem CookCtx.takeSample_mild (c : CookCtx) (gapLimit : Nat) (x : Sample) :
    (c.takeSample p gapLimit x).Mild c := by
  have none : ∀ o : WatchOutcome, o.ctx.held = c.held → o.deviation = none → o.coreTimeout = none →
      o.Mild c := fun o h d t => ⟨h, by simp [d], by simp [t]⟩
  unfold CookCtx.takeSample
  split
  · exact none _ rfl rfl rfl
  · split
    · exact none _ rfl rfl rfl
    unfold CookCtx.fullSample
    extract_lets e gap e' c1
    split
    · exact none _ rfl rfl rfl
    split
    · exact none _ rfl rfl rfl
    · exact WatchOutcome.doorClosed_mild p (none _ rfl rfl rfl) _ _ _ _
  · exact none _ rfl rfl rfl

/-- Only a RUNNING cook's sample asks for more (R60). -/
theorem CookCtx.takeSample_verdict (c : CookCtx) (gapLimit : Nat) (x : Sample)
    (h : (c.takeSample p gapLimit x).verdict ≠ .goOn) : c.state = .running := by
  unfold CookCtx.takeSample at h
  split at h
  · exact absurd rfl h
  · assumption
  · exact absurd rfl h

end

namespace State

variable (s : State) (i : OvenId)

theorem active_iff : (s.book.ledger.cook i).active = true ↔ (s.cook i).state ≠ .idle := by
  simp [book, CookCtx.held]

theorem applyVerdict_leads (v : Verdict) (h : v ≠ .goOn → (s.cook i).state ≠ .idle) :
    s.book.Leads (s.applyVerdict i v).book := by
  cases v with
  | goOn => exact .refl
  | complete => exact .of_eq (s.advanceCook_book i (h (by simp)))
  | abort r => exact s.stopCook_leads i r

theorem watchSample_leads (x : Sample) : s.book.Leads (s.watchSample i x).book := by
  unfold watchSample
  extract_lets c p o clamped s1 s2 s3 s4
  have mild : o.Mild c := c.takeSample_mild p _ x
  have book1 : s1.book = s.book :=
    (modCook_book_same _ i _ mild.held).trans (modOvenCounters_book s i _)
  have book2 : s1.book.Passes s2.book := by
    unfold s2
    split
    · exact clearAtSource_passes _ _ _
    · exact .refl
  have book3 : s3.book = s2.book := by
    unfold s3
    split
    · exact raise_book _ _ _ _ _ (by decide)
    · rfl
  have book4 : s4.book = s2.book :=
    (raiseIf_book _ i _ _ mild.coreTimeout).trans ((raiseIf_book _ i _ _ mild.deviation).trans book3)
  have before : s.book.Passes s4.book := by rw [book4, ← book1]; exact book2
  refine before.leads.trans (s4.applyVerdict_leads i o.verdict fun hv => ?_)
  have running : c.state = .running := c.takeSample_verdict p _ x hv
  have active : (s.book.ledger.cook i).active = true :=
    (s.active_iff i).mpr (by rw [show (s.cook i).state = .running from running]; decide)
  rw [← before.ledger] at active
  exact (s4.active_iff i).mp active

/-! ### Acknowledgements (R50 to R52) -/

theorem stepAck_leads (index : Nat) : s.book.Leads (s.stepAck i index).book := by
  have moves (h : (s.cook i).state ≠ .idle) : s.book.Leads
      ((((s.setSlot i SlotState.reset).modCook i CookCtx.acknowledged).clearAtSource (some i)
        codeStepNoAck).book) := by
    have held : (s.cook i).acknowledged.held = (s.cook i).held := by
      have active : ((s.cook i).state != .idle) = true := bne_iff_ne.mpr h
      simp only [CookCtx.held, active]
      rfl
    exact .trans (.of_eq ((modCook_book_same (s.setSlot i SlotState.reset) i _ held).trans
      (s.setSlot_book i _))) (clearAtSource_passes _ _ _).leads
  unfold stepAck
  split
  · split
    · rename_i state
      exact moves (by simp [state])
    · rename_i state
      exact moves (by simp [state])
    · rename_i state
      have ended : (s.setSlot i SlotState.reset).book.Leads
          ((s.setSlot i SlotState.reset).cookGoIdle i .completed).book :=
        cookGoIdle_leads _ i _ (by simp [state])
      exact .trans (.trans (.of_eq (s.setSlot_book i _)) ended) (clearAtSource_passes _ _ _).leads
    · exact .of_eq (s.countStaleAck_book i)
    · exact .of_eq (s.countStaleAck_book i)
  · exact .of_eq (s.countStaleAck_book i)

theorem ackLost_leads : s.book.Leads (s.ackLost i).book := by
  unfold ackLost
  split
  · exact s.stopCook_leads i _
  · exact s.stopCook_leads i _
  · rename_i state
    exact s.cookGoIdle_leads i _ (by simp [state])
  · exact .refl
  · exact .refl

/-! ### Presence (R5 to R10, R128) -/

/-- A watched oven goes to ACTIVE or SILENT (R10, R128). -/
theorem setPresence_watched (p : Presence) (c : PresenceCause)
    (old : (s.oven i).presence = .active ∨ (s.oven i).presence = .silent) (new : p = .active ∨ p = .silent) :
    s.book.Leads (s.setPresence i p c).book := by
  rw [setPresence_book]; exact .of_entry (.watched i p old new)

theorem returnFromSilent_leads (c : PresenceCause) (h : (s.oven i).presence = .silent) :
    s.book.Leads (s.returnFromSilent i c).book := by
  unfold returnFromSilent
  refine .trans ?_ (admissionPass_passes _).leads
  rw [reloadWatch_book]
  exact (s.setPresence_watched i .active c (.inr h) (.inl rfl)).trans (clearAtSource_passes _ _ _).leads

/-- Of a return the ledger holds the presence. -/
theorem returnFromSilent_ledger (c : PresenceCause) :
    (s.returnFromSilent i c).book.ledger = s.book.ledger.setPresence i .active := by
  unfold returnFromSilent
  rw [(admissionPass_passes _).ledger, reloadWatch_book, (clearAtSource_passes _ _ _).ledger, setPresence_book]

theorem watchExpires_leads : s.book.Leads (s.watchExpires i).book := by
  unfold watchExpires
  extract_lets s1 s2
  have silenced : s1.book.Leads s2.book := by
    unfold s2
    split
    · rename_i h; exact s1.setPresence_watched i .silent .silence (.inl h) (.inr rfl)
    · exact .refl
  refine .trans (.trans (.trans (.of_eq (s.reloadWatch_book i)) silenced) (raise_leads _ _ _ _ _))
    (stopCook_leads _ _ _)

/-- A started watch is frozen where a condition holds (R125, R130). -/
theorem startWatch_book (h : (s.oven i).record.isSome = true) : (s.startWatch i).book =
    ⟨s.book.ledger.setFrozen i (some (s.book.ledger.service i || s.book.ledger.job i == .applying)),
      s.book.roster⟩ := by
  obtain ⟨r, hr⟩ := Option.isSome_iff_exists.mp h
  rw [startWatch, hr, ← freezes_eq]
  exact s.setWatch_book i _

/-- A COMMISSIONED entry with a record becomes ACTIVE and its watch starts (R6, R15). -/
theorem activate_leads (c : PresenceCause) (ready : s.phase ≠ .restoring)
    (old : (s.oven i).presence = .commissioned) (record : (s.oven i).record.isSome = true) :
    s.book.Leads ((s.setPresence i .active c).startWatch i).book := by
  have kept : ((s.setPresence i .active c).oven i).record.isSome = true := by
    have : ((s.setPresence i .active c).oven i).record = (s.oven i).record :=
      congrArg (fun b => b.ledger.record i) (s.setPresence_book i .active c)
    rwa [this]
  rw [startWatch_book _ i kept, setPresence_book]
  exact .of_entry (.activate i ready old)

/-! ### Reconciliation and the HELLO (R4 to R9) -/

theorem reconcileApply_leads (a : Announced) : s.book.Leads (s.reconcileApply i a).book := by
  unfold reconcileApply
  split
  · rename_i h; exact s.endApply_leads i _ _ h
  · exact .refl

theorem reconcileCook_leads (a : Announced) : s.book.Leads (s.reconcileCook i a).book := by
  unfold reconcileCook
  split
  · exact (s.stopCook_leads i _).trans (raise_leads _ _ _ _ _)
  split
  · exact .trans (.of_eq (s.putStop_book i)) (raise_leads _ _ _ _ _)
  · exact .refl

theorem reconcileClean_passes (a : Announced) (ready : s.phase ≠ .restoring) :
    s.book.Passes (s.reconcileClean i a).book := by
  unfold reconcileClean
  split
  · rename_i h _; exact s.adopt_passes i ready h
  · exact .refl
  · exact s.endCleaning_passes i _ _
  · exact .refl

end State

/-- The phase stays. -/
theorem Book.Leads.phase {s t : State} (h : s.book.Leads t.book) : t.phase = s.phase := h.roster.phase

namespace State

variable (s : State) (i : OvenId)

theorem reconcile_leads (a : Announced) (ready : s.phase ≠ .restoring) :
    s.book.Leads (s.reconcile i a).book := by
  have jobs : s.book.Leads ((s.reconcileApply i a).reconcileCook i a).book :=
    (s.reconcileApply_leads i a).trans (reconcileCook_leads _ i a)
  exact jobs.trans (reconcileClean_passes _ i a (jobs.phase ▸ ready)).leads

theorem helloMismatch_leads (a : Announced)
    (old : (s.oven i).presence = .active ∨ (s.oven i).presence = .silent) :
    s.book.Leads (s.helloMismatch i a).book := by
  unfold helloMismatch
  extract_lets wasSilent s1 s2 s3
  have first : s.book.Leads s1.book := by
    rw [show s1.book = _ from setWatch_book _ i none, setPresence_book]
    exact .of_entry (.mismatch i old)
  have second : s1.book.Leads s2.book := by
    unfold s2
    split
    · exact (clearAtSource_passes _ _ _).leads
    · exact .refl
  have third : s2.book.Leads s3.book := by
    unfold s3
    split
    · rename_i h; exact endApply_leads _ i _ _ h
    · exact .refl
  exact ((first.trans second).trans third).trans (raise_leads _ _ _ _ _)

theorem serialMatches_record {e : OvenEntry} {a : Announced} (h : e.serialMatches a = true) :
    e.record.isSome = true := by
  unfold OvenEntry.serialMatches at h
  split at h
  · rename_i hr; simp [hr]
  · cases h

theorem helloOwner_leads (a : Announced) (ready : s.phase ≠ .restoring) :
    s.book.Leads (s.helloOwner i a).book := by
  unfold helloOwner
  split
  · rename_i vacant
    rw [setPresence_book]; exact .of_entry (.announce i vacant)
  · exact .refl
  · rename_i commissioned
    split
    · rename_i matching
      have active := s.activate_leads i .hello ready commissioned (serialMatches_record matching)
      have cleared := active.trans (clearOnMatch_passes _ i).leads
      exact cleared.trans (reconcile_leads _ i a (cleared.phase ▸ ready))
    · exact s.raise_leads _ _ _ _
  · rename_i active
    split
    · have cleared : s.book.Leads ((s.reloadWatch i).clearOnMatch i).book :=
        .trans (.of_eq (s.reloadWatch_book i)) (clearOnMatch_passes _ i).leads
      exact cleared.trans (reconcile_leads _ i a (cleared.phase ▸ ready))
    · exact s.helloMismatch_leads i a (.inl active)
  · rename_i silent
    exact s.helloMismatch_leads i a (.inr silent)

theorem takeHello_leads (a : Announced) (k : KFrame) (ready : s.phase ≠ .restoring) :
    s.book.Leads (s.takeHello i a k).book := by
  unfold takeHello
  extract_lets s1 s2
  have announced : s1.book = s.book := modOven_book_same s i _ rfl rfl rfl rfl
  have returned : s1.book.Leads s2.book := by
    unfold s2
    split
    · rename_i h; exact returnFromSilent_leads _ i _ h.1
    · exact .refl
  rw [announced] at returned
  rw [countReceived_book]
  have offered : s.book.Leads (s2.offerForward i k).book :=
    returned.trans (.of_eq (s2.offerForward_book i k))
  exact offered.trans (helloOwner_leads _ i a (offered.phase ▸ ready))

theorem helloArrives_leads (f : UpFrame) (ready : s.phase ≠ .restoring) :
    s.book.Leads (s.helloArrives i f).book := by
  unfold helloArrives
  split
  · exact s.takeHello_leads i _ _ ready
  · split
    · exact .of_eq s.countUnknownSource_book
    · exact .of_eq (s.countRefused_book i)

/-! ### Commissioning, service mode and retirement (R15 to R17, R132, R134) -/

/-- An entry keeps presence and occupancy while record and service flag change. -/
theorem modOven_book_record (f : OvenEntry → OvenEntry) (hp : (f (s.oven i)).presence = (s.oven i).presence)
    (ho : (f (s.oven i)).occupancy = (s.oven i).occupancy) : (s.modOven i f).book =
      ⟨(s.book.ledger.setRecord i (f (s.oven i)).record).setService i (f (s.oven i)).service,
        s.book.roster⟩ := by
  rw [modOven_book, hp, ho]
  simp [book, Ledger.setPresence, Ledger.setRecord, Ledger.setService, Ledger.setJob, Roster.occupy]

theorem modOven_book_settings (f : OvenEntry → OvenEntry)
    (hp : (f (s.oven i)).presence = (s.oven i).presence) (hs : (f (s.oven i)).service = (s.oven i).service)
    (ho : (f (s.oven i)).occupancy = (s.oven i).occupancy) : (s.modOven i f).book =
      ⟨s.book.ledger.setRecord i (f (s.oven i)).record, s.book.roster⟩ := by
  rw [modOven_book_record s i f hp ho, hs]
  simp [book, Ledger.setRecord, Ledger.setService]

theorem commission_leads (r : CommRecord) (ready : s.phase ≠ .restoring)
    (old : (s.oven i).presence = .vacant ∨ (s.oven i).presence = .announced)
    (unique : ∀ j q, j ≠ i → (s.oven j).record = some q → q.serial ≠ r.serial) :
    s.book.Leads (s.commission i r).book := by
  unfold commission
  extract_lets t
  have written : t.book = ⟨s.book.ledger.setRecord i (some r), s.book.roster⟩ :=
    modOven_book_settings s i _ rfl rfl rfl
  have plain : s.book.Leads (t.setPresence i .commissioned .commission).book := by
    rw [setPresence_book, written]; exact .of_entry (.commission i r old unique)
  split
  · split
    · have record : ((t.setPresence i .active .commission).oven i).record.isSome = true := by
        have : ((t.setPresence i .active .commission).oven i).record = some r := by
          have := congrArg (fun b => b.ledger.record i) (t.setPresence_book i .active .commission)
          rw [written] at this
          simpa [book, Ledger.setRecord, Ledger.setPresence] using this
        rw [this]; rfl
      have active : s.book.Leads ((t.setPresence i .active .commission).startWatch i).book := by
        refine plain.trans ?_
        rw [startWatch_book _ i record, setPresence_book, setPresence_book, written]
        have := Entry.activate (l := (s.book.ledger.setRecord i (some r)).setPresence i .commissioned) i ready
          (Function.update_self ..)
        simp only [Ledger.setPresence, Function.update_idem] at this ⊢
        exact .of_entry this
      exact active.trans (reconcile_leads _ i _ (active.phase ▸ ready))
    · exact plain
  · exact plain

theorem enterService_leads : s.book.Leads (s.enterService i).book := by
  unfold enterService
  rw [refreeze_book, modOven_book_record s i _ rfl rfl]
  have same : s.book.ledger.setRecord i (s.oven i).record = s.book.ledger := by
    simp [book, Ledger.setRecord]
  have := Entry.service (l := s.book.ledger) i true
  simp only [same, Ledger.setService, Function.update_self] at this ⊢
  exact .of_entry this

theorem leaveService_leads : s.book.Leads (s.leaveService i).book := by
  unfold leaveService
  refine .trans ?_ (admissionPass_passes _).leads
  rw [refreeze_book, reloadWatch_book, modOven_book_record s i _ rfl rfl]
  have same : s.book.ledger.setRecord i (s.oven i).record = s.book.ledger := by
    simp [book, Ledger.setRecord]
  have := Entry.service (l := s.book.ledger) i false
  simp only [same, Ledger.setService, Function.update_self] at this ⊢
  exact .of_entry this

theorem serviceKey_leads (key : Nat) : s.book.Leads (s.serviceKey i key).book := by
  unfold serviceKey
  split
  · split
    · exact .refl
    split
    · exact .of_eq (s.countRefused_book i)
    · exact s.enterService_leads i
  · split
    · exact s.leaveService_leads i
    · exact .refl
  · exact .of_eq (s.countRefused_book i)

theorem retireUpdate_book :
    (s.retireUpdate i).book = ⟨s.book.ledger.setApplying i false, s.book.roster⟩ := by
  unfold retireUpdate
  split
  · rename_i idle
    have : s.book.ledger.setApplying i false = s.book.ledger := by
      have h : false = s.book.ledger.applying i := by simp [book, idle]
      rw [h]; simp [Ledger.setApplying]
    rw [this]
  · exact (offerReport_book _ _).trans (modUpdate_book s i _)

/-- A retirement is one entry of the ledger (R17). -/
theorem retire_leads (free : (s.oven i).occupancy = .free) : s.book.Leads (s.retire i).book := by
  unfold retire
  extract_lets s1 s2 s3 s4 s5 s6
  have dropped : s.book.Passes s1.book := s.dropWait_passes i _
  have updated : s2.book = ⟨s1.book.ledger.setApplying i false, s1.book.roster⟩ := s1.retireUpdate_book i
  have purged : s2.book.Passes s3.book := by
    refine .trans (.of_eq ?_) (purge_passes _ i)
    exact (setSlot_book _ i _).trans (modUpdate_book_same s2 i _ Iff.rfl)
  have unlocked : s3.book.Passes s5.book :=
    .trans (.of_eq ((setOverflow_book s4 i false).trans (s3.retireCalls_book i))) (relock_passes _ i)
  have passed := purged.trans unlocked
  have ledger5 : s5.book.ledger = s.book.ledger.setApplying i false := by
    rw [passed.ledger, updated, dropped.ledger]
  have roster5 : Moves s.book.roster s5.book.roster := by
    have := passed.roster
    rw [updated] at this
    exact dropped.roster.trans this
  have book6 : s6.book = ⟨s5.book.ledger.setPresence i .vacant, s5.book.roster⟩ :=
    setPresence_book s5 i _ _
  have entry := Entry.retire (l := s.book.ledger) i (by simp [book, free, Occupancy.job])
  clear_value s6
  rw [setWatch_book, modOven_book_record s6 i _ rfl rfl, book6, ledger5]
  exact ⟨.single entry, roster5⟩

end State
end Sys2Proof.Machine
end

section
/-! SUPPORT. What each command writes into the book: entries and moves, at most one cook that begins, a reset, or the
end of the restore. -/

namespace Sys2Proof.Machine

open Roster (Moves)

namespace Ledger

/-- A cook begins on a recipe's live version (R47). -/
def startCook (l : Ledger) (i : OvenId) (r : Fin 512) (v : LiveVersion) : Ledger :=
  ((l.setJob i .cooking).setTables
    (l.recipes.set r { l.recipes[r] with live := some { v with users := v.users + 1 } }) l.steps).setCook i
      { active := true, recipe := r.val + 1, version := v.run.version, first := v.run.first,
        count := v.run.count }

/-- A cook begins on a FREE oven outside a restore and a TABLE_CLEAR (R45, R47). -/
def Starts (l l' : Ledger) : Prop :=
  ∃ i r v, l.phase ≠ .restoring ∧ l.job i = .free ∧ l.clearing = false ∧ l.recipes[r].live = some v ∧
    l' = l.startCook i r v

end Ledger

namespace Book

/-- What a frame's owner does: entries and moves, and it may be that a cook begins last. -/
inductive Serves (b b' : Book) : Prop
  | leads (h : b.Leads b')
  | starts (m : Book) (h : b.Leads m) (steps : m.ledger.steps = b.ledger.steps)
      (start : m.ledger.Starts b'.ledger) (roster : Moves m.roster b'.roster)

/-- What a command does. -/
inductive Follows (b b' : Book) : Prop
  | serves (h : b.Serves b')
  | resets (h : b' = ⟨b.ledger.restarted, State.reset.book.roster⟩)
  | readies (h : Entry b.ledger b'.ledger) (old : b.roster.phase = .restoring)
      (phase : b'.roster.phase = .ready) (slots : b'.roster.slotCount = b.roster.slotCount)
      (queue : b'.roster.queue = b.roster.queue)
      (occupancy : b'.roster.occupancy = b.roster.occupancy ∨ b'.roster.occupancy = fun _ => .free)

variable {a b c : Book}

theorem Serves.of_eq (h : c = b) : b.Serves c := .leads (.of_eq h)

theorem Serves.of_entry {l l' : Ledger} {r : Roster} (h : Entry l l') : Serves ⟨l, r⟩ ⟨l', r⟩ :=
  .leads (.of_entry h)

theorem Passes.serves (h : b.Passes c) : b.Serves c := .leads h.leads

theorem Serves.after (h : a.Leads b) (steps : b.ledger.steps = a.ledger.steps) (h' : b.Serves c) :
    a.Serves c := by
  cases h' with
  | leads h' => exact .leads (h.trans h')
  | starts m hm same start roster => exact .starts m (h.trans hm) (same.trans steps) start roster

theorem Follows.of_eq (h : c = b) : b.Follows c := .serves (.of_eq h)

end Book

/-! ### The ways of a frame -/

section
variable {s : State}

/-- A Store Link frame is counted, or its owner acts after the restore (R136, R166). -/
theorem arriveStore_follows {cls : Byte} {f : StoreFrame} {act : State → State}
    (h : s.phase ≠ .restoring → s.book.Follows (act s).book) :
    s.book.Follows (s.arriveStore cls f act).book := by
  unfold State.arriveStore
  split
  · exact .of_eq s.countStartUp_book
  split
  · exact .of_eq s.countStoreLength_book
  split
  · exact .of_eq s.countStoreAddress_book
  · exact h ‹_›

theorem owned_follows {cls : Byte} {f : StoreFrame} {act : State → Answered}
    (h : s.phase ≠ .restoring → s.book.Serves (act s).after.book) :
    s.book.Follows (s.owned cls f act).book :=
  arriveStore_follows fun ready => .serves (by rw [Answered.finish_book]; exact h ready)

theorem control_follows_of {g : Gate} {f : StoreFrame} {act : State → Answered}
    (h : ∀ t : State, t.phase ≠ .restoring → t.book.Follows (act t).after.book) :
    s.book.Follows (s.control g f act).book := by
  refine arriveStore_follows fun ready => ?_
  dsimp only
  split
  · exact .of_eq (State.answer_book _ _ _)
  · rw [Answered.finish_book]; exact h (s.fromGateway f) ready

theorem control_follows {g : Gate} {f : StoreFrame} {act : State → Answered}
    (h : ∀ t : State, t.phase ≠ .restoring → t.book.Serves (act t).after.book) :
    s.book.Follows (s.control g f act).book :=
  control_follows_of fun t ready => .serves (h t ready)

theorem forAddress_serves {f : StoreFrame} {act : OvenId → Answered}
    (h : ∀ i, s.book.Serves (act i).after.book) : s.book.Serves (s.forAddress f act).after.book := by
  unfold State.forAddress
  split
  · exact h _
  · exact .of_eq rfl

theorem forRecipe_serves {f : StoreFrame} {act : Fin 512 → Answered}
    (h : ∀ r, s.book.Serves (act r).after.book) : s.book.Serves (s.forRecipe f act).after.book := by
  unfold State.forRecipe
  split
  · exact h _
  · exact .of_eq rfl

theorem forOven_serves {f : StoreFrame} {tag : BitVec 16} {ok : Bool} {act : OvenId → Answered}
    (h : ∀ i, s.book.Serves (act i).after.book) :
    s.book.Serves (s.forOven f tag ok act).after.book := by
  unfold State.forOven
  split
  · exact .of_eq rfl
  split
  · exact h _
  · exact .of_eq rfl

/-- An upward frame is counted, or its oven's block acts after the restore (R135, R166). -/
theorem arriveUp_follows {cls : Byte} {tag : BitVec 16} {f : UpFrame} {act : OvenId → State → State}
    (h : ∀ (i : OvenId) (t : State), t.phase ≠ .restoring → t.book.Serves (act i t).book) :
    s.book.Follows (s.arriveUp cls tag f act).book := by
  refine .serves (.after (.of_eq s.wholeFrame_book) (by rw [s.wholeFrame_book]) ?_)
  unfold State.arriveUp
  dsimp only
  split
  · exact .of_eq (State.countStartUp_book _)
  split
  · exact .of_eq (State.countLineLength_book _)
  split
  · exact .of_eq (State.countLineSource_book _)
  split
  · exact .of_eq (State.countLineClass_book _)
  split
  · exact h _ _ ‹_›
  · exact .of_eq (State.countLineLength_book _)

/-- A frame is counted, or its owner acts after the oven's return and the copy (R3, R10, R137). -/
theorem dispatchUp_serves {i : OvenId} {forward owner : State → State} (ready : s.phase ≠ .restoring)
    (hf : ∀ t, (forward t).book = t.book)
    (ho : ∀ t : State, t.phase ≠ .restoring → t.book.Serves (owner t).book) :
    s.book.Serves (s.dispatchUp i forward owner).book := by
  have heard : ∀ t : State, s.book.Leads t.book → t.book.ledger.steps = s.book.ledger.steps →
      s.book.Serves (owner (forward ((t.reloadWatch i).countReceived i))).book := by
    intro t leads steps
    have same : (forward ((t.reloadWatch i).countReceived i)).book = t.book := by
      rw [hf, State.countReceived_book, State.reloadWatch_book]
    have phase : (forward ((t.reloadWatch i).countReceived i)).phase = s.phase :=
      (congrArg (fun b => b.ledger.phase) same).trans leads.phase
    exact .after (leads.trans (.of_eq same)) ((congrArg (fun b => b.ledger.steps) same).trans steps)
      (ho _ (phase ▸ ready))
  unfold State.dispatchUp
  split
  · exact .of_eq s.countUnknownSource_book
  · exact .of_eq (s.countRefused_book i)
  · exact .of_eq (s.countRefused_book i)
  · exact heard s .refl rfl
  · rename_i silent
    refine heard _ (s.returnFromSilent_leads i _ silent) ?_
    rw [State.returnFromSilent_ledger]
    rfl

theorem takeNotice_follows {tag : BitVec 16} {f : UpFrame} {owner : OvenId → State → State}
    (h : ∀ (i : OvenId) (t : State), t.phase ≠ .restoring → t.book.Serves (owner i t).book) :
    s.book.Follows (s.takeNotice tag f owner).book :=
  arriveUp_follows fun i _ ready =>
    dispatchUp_serves ready (fun u => by split <;> simp) (h i)

end

/-! ### Requests and their book -/

namespace State

variable (s : State) (i : OvenId)

theorem acceptCook_serves (r : Fin 512) (v : LiveVersion) (origin : Origin) (batch : BitVec 16)
    (ready : s.phase ≠ .restoring) (free : (s.oven i).occupancy = .free) (clear : s.clearing.isSome = false)
    (live : (s.recipe r).live = some v) : s.book.Serves (s.acceptCook i r v origin batch).book := by
  unfold acceptCook
  extract_lets s1 s2 s3
  have book1 : s1.book = ⟨s.book.ledger.setJob i .cooking, (s.book.roster.without i).occupy i .cooking⟩ := by
    rw [show s1.book = _ from setOccupancy_book _ i .cooking, dropWait_book]; rfl
  have recipe1 : s1.recipes = s.recipes := congrArg (fun b => b.ledger.recipes) book1
  have book2 : s2.book = ⟨s1.book.ledger.setTables (s1.recipes.set r
      { s1.recipes[r] with live := some { v with users := v.users + 1 } }) s1.steps, s1.book.roster⟩ := rfl
  have book3 : s3.book = ⟨s2.book.ledger.setCook i
      { active := true, recipe := r.val + 1, version := v.run.version, first := v.run.first,
        count := v.run.count }, s2.book.roster⟩ := modCook_book s2 i _
  have steps1 : s1.steps = s.steps := congrArg (fun b => b.ledger.steps) book1
  rw [putPending_book, book3, book2, recipe1, steps1, book1]
  have new : i ∉ (s.book.roster.without i).queue := by simp [Roster.without]
  exact .starts s.book .refl rfl ⟨i, r, v, ready, by simp [book, free, Occupancy.job], clear, live, rfl⟩
    (.begin i .cooking ready (by decide) free new (.drop i .refl))

/-- A check that is passed leaves the checks after it. -/
theorem refusal_none_iff {c : Prop} [Decidable c] {a : Reply} {rest : Option Reply} :
    (if c then some a else rest) = none ↔ ¬ c ∧ rest = none := by
  by_cases h : c <;> simp [h]

/-- The checks of a start find the oven FREE and no TABLE_CLEAR in progress (R45). -/
theorem startRefusal_none {r : Fin 512} (h : s.startRefusal i r = none) :
    (s.oven i).occupancy = .free ∧ s.clearing.isSome = false := by
  rw [startRefusal, refusal_none_iff, refusal_none_iff, refusal_none_iff, refusal_none_iff,
    refusal_none_iff, refusal_none_iff, refusal_none_iff, refusal_none_iff] at h
  obtain ⟨-, -, -, -, -, -, free, clear, -⟩ := h
  exact ⟨by simpa [occupancyFree] using free, by simpa using clear⟩

theorem startCook_serves (r : Fin 512) (origin : Origin) (batch : BitVec 16) (ready : s.phase ≠ .restoring) :
    s.book.Serves (s.startCook i r origin batch).after.book := by
  unfold startCook
  split
  · exact .of_eq rfl
  · rename_i allowed
    obtain ⟨free, clear⟩ := s.startRefusal_none i allowed
    split
    · rename_i v live
      exact s.acceptCook_serves i r v origin batch ready free clear live
    · exact .of_eq rfl

theorem panelStart_serves (recipe : Nat) (ready : s.phase ≠ .restoring) :
    s.book.Serves (s.panelStart i recipe).book := by
  unfold panelStart
  split
  · exact .of_eq (s.panelRefused_book i _ _)
  · split
    · exact .of_eq (s.panelRefused_book i _ _)
    · rename_i allowed live
      obtain ⟨free, clear⟩ := s.startRefusal_none i allowed
      rw [offerReport_book]
      exact s.acceptCook_serves i _ _ .panel 0 ready free clear live
    · exact .of_eq (s.panelRefused_book i _ _)

/-- A request that passes the checks of R80 finds its oven FREE and not waiting. -/
theorem cleanRefusal_none (h : s.cleanRefusal i = none) :
    (s.oven i).occupancy = .free ∧ s.waiting i = false := by
  unfold cleanRefusal at h
  split at h; · cases h
  split at h; · cases h
  split at h; · cases h
  split at h; · cases h
  split at h; · cases h
  split at h; · cases h
  split at h; · cases h
  rename_i free waits
  exact ⟨by simpa [occupancyFree] using free, by simpa using waits⟩

theorem waiting_iff : s.waiting i = true ↔ i ∈ s.book.roster.queue := by
  simp [waiting, book]

theorem requestCleaning_passes (p : Programme) (seq : Byte) (ready : s.phase ≠ .restoring) :
    s.book.Passes (s.requestCleaning i p seq).after.book := by
  unfold requestCleaning
  split
  · exact .refl
  · rename_i allowed
    obtain ⟨free, waits⟩ := s.cleanRefusal_none i allowed
    have new : i ∉ s.book.roster.queue := by rw [← s.waiting_iff i]; simp [waits]
    split
    · split
      · have same : s.book.roster.take i = (s.book.roster.take i).without i := by
          have : s.book.roster.queue.filter (· != i) = s.book.roster.queue :=
            List.filter_eq_self.mpr fun j hj => by simpa using fun e : j = i => new (e ▸ hj)
          simp only [Roster.without, Roster.take, Roster.slots, Roster.occupy, this]
        rw [says_after, admitOven_book s i free, same]
        exact ⟨rfl, .admission i (fun h => absurd h ready) free .refl⟩
      · exact .refl
    · have join : (s.joinWait i p seq).book = ⟨s.book.ledger, s.book.roster.join i⟩ := by
        simp only [book, joinWait, Roster.join, List.map_append, List.map_cons, List.map_nil]; rfl
      rw [says_after, join]
      exact ⟨rfl, .join i ready free new .refl⟩

theorem cancelCleaning_passes (f : StoreFrame) : s.book.Passes (s.cancelCleaning i f).after.book := by
  unfold cancelCleaning
  split
  · rw [says_after, removeWait_book]; exact ⟨rfl, .drop i .refl⟩
  split
  · exact .refl
  split
  · exact .refl
  split
  · exact .of_eq rfl
  · exact .refl

/-! ### Transfers -/

/-- A transfer that takes chunks is not APPLYING (R113, R116). -/
theorem transferring_iff {u : UpdateCtx} :
    u.transferring = true ↔ u.state = .opened ∨ u.state = .receiving := by
  simp [UpdateCtx.transferring]

theorem takeChunk_book (f : StoreFrame) (offset : Nat) (data : List Byte) :
    (s.takeChunk i f offset data).after.book = s.book := by
  unfold takeChunk
  extract_lets u
  repeat' split
  any_goals rfl
  · exact modUpdate_book_same s i _ Iff.rfl
  · rename_i transferring _ _ _ _ _
    have state : (s.update i).state = .opened ∨ (s.update i).state = .receiving :=
      transferring_iff.mp (by simpa using transferring)
    refine (modUpdate_book_same (s.forwardUpdate 3 tagChunk i f) i _ ?_).trans (s.forwardUpdate_book i _ _ _)
    have same : (s.forwardUpdate 3 tagChunk i f).update i = s.update i := rfl
    rw [same]
    rcases state with h | h <;> simp [UpdateCtx.absorb, h]

theorem sealUpdate_book (f : StoreFrame) : (s.sealUpdate i f).after.book = s.book := by
  unfold sealUpdate
  extract_lets u
  split
  · rfl
  rename_i transferring
  have state : (s.update i).state ≠ .applying := by
    have : (s.update i).state = .opened ∨ (s.update i).state = .receiving :=
      transferring_iff.mp (by simpa using transferring)
    rcases this with h | h <;> simp [h]
  repeat' split
  any_goals rfl
  · exact modUpdate_book_same s i _ (by simp [state])
  · exact (forwardUpdate_book _ i _ _ _).trans (modUpdate_book_same s i _ (by simp [state]))

theorem abortUpdate_book (f : StoreFrame) : (s.abortUpdate i f).after.book = s.book := by
  unfold abortUpdate
  split
  · rfl
  rename_i state
  split
  · rfl
  · exact (forwardUpdate_book _ i _ _ _).trans
      (modUpdate_book_same s i _ (by simp [(not_or.mp state).2]))

theorem beginApply_leads (f : StoreFrame) (ready : s.phase ≠ .restoring)
    (free : (s.oven i).occupancy = .free) (waits : s.waiting i = false) :
    s.book.Leads (s.beginApply i f).book := by
  unfold beginApply
  extract_lets s1
  have book1 : s1.book = ⟨(s.book.ledger.setJob i .applying).setApplying i true,
      s.book.roster.occupy i .applying⟩ := by
    rw [show s1.book = _ from modUpdate_book _ i _, setOccupancy_book]; rfl
  have new : i ∉ s.book.roster.queue := by rw [← s.waiting_iff i]; simp [waits]
  rw [forwardUpdate_book, refreeze_book, book1]
  refine ⟨.single ?_, .begin i .applying ready (by decide) free new .refl⟩
  have := Entry.beginApply (l := s.book.ledger) i ready (by simp [book, free, Occupancy.job])
  simpa [Ledger.setJob, Ledger.setApplying, Ledger.setFrozen] using this

end State
end Sys2Proof.Machine
end

section
/-! SUPPORT. Every command follows the book: an event of the part's own by its lemma, a frame by its way to its
owner. -/

namespace Sys2Proof.Machine

open Roster (Moves)

namespace State

variable (s : State) (i : OvenId)

/-! ### Recipe Map and Step Store (R22, R26 to R32, R36) -/

/-- A change of both tables is one entry. -/
theorem tables_serves {t : State} {recipes : Vector RecipeEntry 512} {steps : Vector StepRec 768}
    (change : TableStep s.recipes s.steps recipes steps)
    (h : t.book = ⟨s.book.ledger.setTables recipes steps, s.book.roster⟩) : s.book.Leads t.book := by
  rw [h]; exact .of_entry (.tables recipes steps change)

theorem stageBlocked_none {recipe : Nat} {run : Run} (h : s.stageBlocked recipe run = none) (k : Fin 768)
    (lo : run.first ≤ k.val) (hi : k.val < run.first + run.count) :
    s.steps[k].claimable recipe = true := by
  have := List.find?_eq_none.mp h k.val (List.mem_range'_1.mpr ⟨lo, hi⟩)
  simpa [stepRec] using this

/-- A staged version gets a number its recipe does not use (R26). -/
theorem versionInUse_false {e : RecipeEntry} {n : Nat} (h : e.versionInUse n = false) :
    (∀ v, e.live = some v → v.run.version ≠ n) ∧ ∀ v, e.draining = some v → v.run.version ≠ n := by
  unfold RecipeEntry.versionInUse at h
  obtain ⟨live, draining⟩ := Bool.or_eq_false_iff.mp h
  exact ⟨fun v hv => by simpa [hv] using live, fun v hv => by simpa [hv] using draining⟩

theorem stage_leads (r : Fin 512) (run : Run) (range : run.inRange = true)
    (version : (s.recipe r).versionInUse run.version = false)
    (free : s.stageBlocked (r.val + 1) run = none) : s.book.Leads (s.stage r run).book := by
  have fits : run.first + run.count ≤ 768 := by
    simp only [Run.inRange, Bool.and_eq_true, decide_eq_true_eq] at range; exact range.2
  obtain ⟨notLive, notDraining⟩ := versionInUse_false version
  refine s.tables_serves (.stage r run fits notLive notDraining (s.stageBlocked_none free)) ?_
  unfold stage
  cases h : (s.recipe r).staged with
  | none => rw [show s.recipes[r].staged = none from h]; rfl
  | some old => rw [show s.recipes[r].staged = some old from h]; rfl

theorem drainBlocked_false {e : RecipeEntry} {v : LiveVersion} (h : e.drainBlocked = false)
    (live : e.live = some v) (used : 0 < v.users) : e.draining = none := by
  simpa [RecipeEntry.drainBlocked, live, used] using h

theorem retireLive_leads (r : Fin 512) (allowed : (s.recipe r).drainBlocked = false) :
    s.book.Leads (s.retireLive r).book := by
  unfold retireLive
  split
  · exact .refl
  · rename_i v live
    split
    · rename_i used
      exact s.tables_serves (.drain r v live used (drainBlocked_false allowed live used)) rfl
    · rename_i unused
      exact s.tables_serves (.withdraw r v live (by omega)) rfl

/-- The live version has left; the staged one is still there (R31). -/
theorem retireLive_recipe (r : Fin 512) : ((s.retireLive r).recipe r).live = none ∧
    ((s.retireLive r).recipe r).staged = (s.recipe r).staged := by
  unfold retireLive
  split
  · rename_i live; exact ⟨live, rfl⟩
  · split <;> simp [recipe, modRecipe]

theorem release_leads (r : Fin 512) (run : Run) (needs : Needs) (held : (s.recipe r).staged = some run)
    (allowed : (s.recipe r).drainBlocked = false) :
    s.book.Leads ((s.retireLive r).makeLive r run needs).book := by
  obtain ⟨place, staged⟩ := s.retireLive_recipe r
  exact (s.retireLive_leads r allowed).trans
    (tables_serves _ (.live r run needs (staged.trans held) place) rfl)

theorem unstage_leads (r : Fin 512) (run : Run) (held : (s.recipe r).staged = some run) :
    s.book.Leads (s.unstage r run).book :=
  s.tables_serves (.unstage r run held) rfl

theorem writeStep_leads (k : Nat) (fields : Option (StepParams × Bool)) :
    s.book.Leads (s.writeStep k fields).after.book := by
  unfold writeStep
  split
  · exact .refl
  split
  · exact .refl
  split
  · exact .refl
  · rename_i p _ inside unused
    have inside : k < 768 := Nat.lt_of_not_le inside
    refine s.tables_serves (.write ⟨k, inside⟩ p (by simpa [stepRec, inside] using unused)) ?_
    simp only [moveCursor_book, modStep, dif_pos inside]
    rfl

theorem anyCook_false (h : s.anyCook = false) (j : OvenId) : (s.book.ledger.cook j).active = false := by
  have := List.any_eq_false.mp h j (List.mem_finRange j)
  simpa [book, CookCtx.held] using this

/-! ### Commissioning, saving (R14, R39, R168) -/

theorem serialTaken_false {serial : BitVec 48} (h : s.serialTaken i serial = false) (j : OvenId)
    (q : CommRecord) (other : j ≠ i) (held : (s.oven j).record = some q) : q.serial ≠ serial := by
  have := List.any_eq_false.mp h j (List.mem_finRange j)
  simpa [other, held] using this

theorem recorded_false {p : Presence} (h : p.recorded = false) : p = .vacant ∨ p = .announced := by
  cases p <;> simp [Presence.recorded] at h ⊢

/-- A SAVE writes records the table has, and the versions and records of the two tables (R39, R168). -/
theorem beginImage_entry : Entry s.book.ledger (s.book.ledger.setImage s.beginImage) := by
  refine .save _ (fun i a h => ?_) rfl rfl
  have h : (s.oven i).saved = some a := by simpa [beginImage, savedContent, oven] using h
  unfold OvenEntry.saved at h
  split at h
  · exact h
  · exact h
  · exact h
  · cases h
  · cases h

/-! ### READY (R165) -/

/-- The restore's outcome: the contents of the saved image, or nothing but the phase (R165). -/
theorem restore_book (old : s.phase = .restoring) :
    s.book.Follows ⟨s.restore.book.ledger.readied, { s.restore.book.roster with phase := .ready }⟩ := by
  unfold restore
  split
  · rename_i c valid
    obtain ⟨m, image, rfl⟩ : ∃ m, s.image = some m ∧ m.content = c := by
      unfold validContent at valid
      split at valid
      · rename_i m image
        split at valid
        · exact ⟨m, image, Option.some.inj valid⟩
        · cases valid
      · cases valid
    have ledger : (({ (s.restoreFrom m.content) with restoreResult := .restored } : State)).book.ledger.readied =
        s.book.ledger.restored m.content := by
      simp [book, Ledger.readied, Ledger.restored, restoreFrom, oven, watch, update, cook]
    refine .readies ?_ old rfl rfl rfl (.inr (funext fun i => ?_))
    · exact ledger ▸ .restore m old image
    · simp [book, restoreFrom, oven]
  · exact .readies (.ready old) old rfl rfl rfl (.inl rfl)

end State

variable (s : State) (i : OvenId)

theorem restart_follows (c : ResetCause) : s.book.Follows (s.restart c).book := .resets rfl

theorem doReady_follows : s.book.Follows (doReady s).book := by
  unfold doReady
  split
  · rename_i old
    extract_lets s1 s2 s3
    have same : s3.book = s1.book := by
      have reported : s2.book = s1.book := State.offerReport_book _ _
      refine .trans ?_ reported
      unfold s3
      split
      · exact State.raise_book _ _ _ _ _ (by decide)
      · rfl
    have outcome := s.restore_book old
    rw [show s.restore.book = s3.book from same.symm] at outcome
    exact outcome
  · exact .of_eq rfl

/-! ### The clock (R124) -/

/-- A tick moves watches and timers, not the frozen flag. -/
theorem countTick_book : s.countTick.book = s.book := by
  have frozen : ∀ w : Watch, w.tick.frozen = w.frozen := by
    intro w; unfold Watch.tick; repeat' split
    all_goals rfl
  have watch : ∀ i, (s.countTick.watch i).map (·.frozen) = (s.watch i).map (·.frozen) := by
    intro i
    rw [State.countTick_watch, Option.map_map]
    exact congrArg (Option.map · _) (funext frozen)
  unfold State.book
  simp only [watch]
  rfl

/-- A second moves timers, not the state of an update context. -/
theorem second_book : s.second.book = s.book := by
  have update : ∀ i, (s.second.update i).state = (s.update i).state := fun i => by
    simp [State.second, State.update, UpdateCtx.second]
  unfold State.book
  simp only [update]
  rfl

theorem doWatchTick_follows : s.book.Follows (doWatchTick s).book := by
  unfold doWatchTick
  dsimp only
  split
  · exact .of_eq (countTick_book s)
  · exact .of_eq ((second_book _).trans (countTick_book s))

/-! ### Timers (R52, R91, R107, R120, R128) -/

theorem doSilenceWatchExpiry_follows : s.book.Follows (doSilenceWatchExpiry i s).book := by
  unfold doSilenceWatchExpiry
  split
  · exact .serves (.leads (s.watchExpires_leads i))
  · exact .of_eq rfl

theorem doAckTimerExpiry_follows : s.book.Follows (doAckTimerExpiry i s).book := by
  unfold doAckTimerExpiry
  split
  · refine .serves (.leads (.trans ?_ (State.ackLost_leads _ i)))
    exact .trans (.of_eq (s.setSlot_book i _)) (State.raise_leads _ _ _ _ _)
  · exact .of_eq rfl

theorem doOvertimeExpiry_follows : s.book.Follows (doOvertimeExpiry i s).book := by
  unfold doOvertimeExpiry
  split
  · refine .serves (.leads (.trans (.of_eq ?_) (State.raise_leads _ _ _ _ _)))
    exact s.modCleanRecord_book i _
  · exact .of_eq rfl

theorem doApplyTimerExpiry_follows : s.book.Follows (doApplyTimerExpiry i s).book := by
  unfold doApplyTimerExpiry
  split
  · rename_i due; exact .serves (.leads (s.endApply_leads i _ _ due.2))
  · exact .of_eq rfl

theorem doLineErrorWindowClose_follows : s.book.Follows (doLineErrorWindowClose s).book := by
  unfold doLineErrorWindowClose
  split
  · extract_lets t
    have cleared : s.book.Passes t.book := by
      unfold t
      split
      · exact s.clearAtSource_passes _ _
      · exact .refl
    exact .serves cleared.serves
  · exact .of_eq rfl

theorem doTableClearCompletion_follows : s.book.Follows (doTableClearCompletion s).book := by
  unfold doTableClearCompletion
  split
  · rename_i r clearing
    rw [State.answer_book]
    exact .serves (.of_entry (.clearEnds (l := s.book.ledger) (by simp [State.book, clearing])))
  · exact .of_eq rfl

theorem doSaveEnd_follows : s.book.Follows (doSaveEnd s).book := by
  unfold doSaveEnd
  split
  · rw [State.answer_book]
    cases h : s.image with
    | none =>
      refine .of_eq ?_
      unfold State.book
      simp only [h]
      rfl
    | some m =>
      exact .serves (.of_entry (.saved (l := s.book.ledger) m
        { m with complete := true, crc := m.content.crc } h rfl))
  · exact .of_eq rfl

/-! ### Links -/

theorem doStartUpDiscard_follows (l : Link) : s.book.Follows (doStartUpDiscard l s).book := by
  unfold doStartUpDiscard
  repeat' split
  · exact .of_eq s.countStartUp_book
  · exact .of_eq ((State.countStartUp_book _).trans s.wholeFrame_book)
  · exact .of_eq rfl

theorem doLineFrameDiscard_follows (events : List LineEvent) :
    s.book.Follows (doLineFrameDiscard events s).book := by
  refine .of_eq ?_
  unfold doLineFrameDiscard
  induction events generalizing s with
  | nil => rfl
  | cons e rest ih => exact (ih _).trans (s.lineEvent_book e)

theorem doStoreFrameDropped_follows (e : EthFrame) : s.book.Follows (doStoreFrameDropped e s).book := by
  unfold doStoreFrameDropped
  refine .of_eq ?_
  repeat' split
  all_goals rfl

theorem doStoreClassifierDiscard_follows (e : EthFrame) :
    s.book.Follows (doStoreClassifierDiscard e s).book := by
  unfold doStoreClassifierDiscard
  refine .of_eq ?_
  repeat' split
  · rfl
  · exact s.classify_book _
  · rfl

theorem doPauseFrame_follows (dest : EthAddr) (quanta : BitVec 16) :
    s.book.Follows (doPauseFrame dest quanta s).book := by
  unfold doPauseFrame
  refine .of_eq ?_
  repeat' split
  all_goals rfl

theorem doLineTransmitterTake_follows : s.book.Follows (doLineTransmitterTake s).book := by
  unfold doLineTransmitterTake
  split
  · rename_i source _ _ _
    cases source <;> exact .of_eq rfl
  · exact .of_eq rfl

theorem doTransmissionEnd_follows : s.book.Follows (doTransmissionEnd s).book := by
  unfold doTransmissionEnd
  split
  · exact .of_eq rfl
  · dsimp only
    split
    · have idle : ({ s with down := { s.down with tx := none } } : State).book = s.book := rfl
      exact .serves ((Book.Passes.of_eq idle).trans (State.leaveClass_passes _ _)).serves
    · exact .of_eq rfl
    · exact .of_eq rfl

theorem doStoreLinkSend_follows : s.book.Follows (doStoreLinkSend s).book := by
  unfold doStoreLinkSend
  refine .of_eq ?_
  repeat' split
  all_goals rfl

theorem doStoreLinkTransmissionEnd_follows : s.book.Follows (doStoreLinkTransmissionEnd s).book := by
  unfold doStoreLinkTransmissionEnd
  split
  · split
    · exact restart_follows s _
    · exact .of_eq ((State.buildService_book _).trans rfl)
  · exact .of_eq rfl

theorem doSoftResetTenthTick_follows : s.book.Follows (doSoftResetTenthTick s).book := by
  unfold doSoftResetTenthTick
  split
  · exact restart_follows s _
  · exact .of_eq rfl

/-! ### Requests for the part as a whole (R160 to R163, R168) -/

variable (f : StoreFrame)

theorem doConfigWrite_follows : s.book.Follows (doConfigWrite f s).book :=
  control_follows fun t _ => by
    split
    · exact .of_eq rfl
    · extract_lets t1
      dsimp only
      split
      · exact (Book.Passes.trans (.of_eq rfl) t1.admissionPass_passes).serves
      · exact .of_eq rfl

theorem doDaypartSet_follows : s.book.Follows (doDaypartSet f s).book :=
  control_follows fun t _ => by
    split
    · exact .of_eq rfl
    · rename_i d _
      have same : ({ t with daypart := d } : State).book = t.book := rfl
      exact ((Book.Passes.of_eq same).trans (State.admissionPass_passes _)).serves

theorem doSoftReset_follows : s.book.Follows (doSoftReset f s).book :=
  control_follows_of fun t _ => by
    split
    · exact .of_eq (t.answer_book _ _)
    · exact restart_follows t _

theorem doSave_follows : s.book.Follows (doSave f s).book :=
  control_follows fun t _ => by
    split
    · exact .of_eq (State.raise_book _ _ _ _ _ (by decide))
    · exact .of_entry t.beginImage_entry

/-! ### Requests of the Oven Table (R14 to R18, R127, R131, R133) -/

theorem doOvenCommission_follows : s.book.Follows (doOvenCommission f s).book :=
  control_follows fun t ready => forAddress_serves fun i => by
    dsimp only
    split
    · exact .of_eq rfl
    split
    · exact .of_eq rfl
    rename_i notRecorded
    split
    · exact .of_eq rfl
    rename_i notTaken
    exact .leads (t.commission_leads i _ ready (State.recorded_false (by simpa using notRecorded))
      (t.serialTaken_false i (by simpa using notTaken)))

theorem doOvenRetire_follows : s.book.Follows (doOvenRetire f s).book :=
  control_follows fun t _ => forAddress_serves fun i => by
    split
    · exact .of_eq rfl
    split
    · exact .of_eq rfl
    · rename_i free
      exact .leads (t.retire_leads i (by simpa using free))

theorem doOvenSet_follows : s.book.Follows (doOvenSet f s).book :=
  control_follows fun t _ => forAddress_serves fun i => by
    split
    · exact .of_eq rfl
    · rename_i r record
      refine .leads ?_
      dsimp only
      rw [State.modOven_book_settings t i _ rfl rfl rfl]
      exact .of_entry (.settings i r _ record rfl)

theorem doServiceEnter_follows : s.book.Follows (doServiceEnter f s).book :=
  control_follows fun t _ => forAddress_serves fun i => by
    repeat' split
    · exact .of_eq rfl
    · exact .of_eq rfl
    · exact .of_eq rfl
    · exact .leads (t.enterService_leads i)

theorem doServiceLeave_follows : s.book.Follows (doServiceLeave f s).book :=
  control_follows fun t _ => forAddress_serves fun i => by
    split
    · exact .leads (t.leaveService_leads i)
    · exact .of_eq rfl

theorem doWatchReload_follows : s.book.Follows (doWatchReload f s).book :=
  control_follows fun t _ => forAddress_serves fun i => by
    split
    · exact .of_eq (t.reloadWatch_book i)
    · exact .of_eq rfl

/-! ### Requests of the tables (R22 to R36, R96, R141) -/

theorem doMapStage_follows : s.book.Follows (doMapStage f s).book :=
  control_follows fun t _ => forRecipe_serves fun r => by
    dsimp only
    split
    · exact .of_eq rfl
    rename_i range
    split
    · exact .of_eq rfl
    rename_i version
    split
    · exact .of_eq rfl
    · rename_i free
      exact .leads (t.stage_leads r _ (by simpa using range) (by simpa using version) free)

theorem doMapSet_follows : s.book.Follows (doMapSet f s).book :=
  control_follows fun t _ => forRecipe_serves fun r => by
    split
    · exact .leads (t.tables_serves (.masks r _ _) rfl)
    · exact .of_eq rfl

theorem doMapReadNext_follows : s.book.Follows (doMapReadNext f s).book :=
  control_follows fun t _ => by split <;> exact .of_eq rfl

theorem doRelease_follows : s.book.Follows (doRelease f s).book :=
  control_follows fun t _ => forRecipe_serves fun r => by
    split
    · exact .of_eq rfl
    rename_i run held
    split
    · exact .of_eq rfl
    rename_i allowed
    split
    · exact .of_eq rfl
    · exact .leads (t.release_leads r run _ held (by simpa using allowed))

theorem doWithdraw_follows : s.book.Follows (doWithdraw f s).book :=
  control_follows fun t _ => forRecipe_serves fun r => by
    split
    · exact .of_eq rfl
    split
    · exact .of_eq rfl
    · rename_i allowed
      exact .leads (t.retireLive_leads r (by simpa using allowed))

theorem doDiscardStaged_follows : s.book.Follows (doDiscardStaged f s).book :=
  control_follows fun t _ => forRecipe_serves fun r => by
    split
    · exact .of_eq rfl
    · rename_i run held
      exact .leads (t.unstage_leads r run held)

theorem doStepWriteNext_follows : s.book.Follows (doStepWriteNext f s).book :=
  control_follows fun t _ => by
    split
    · exact .leads (t.writeStep_leads _ _)
    · exact .of_eq rfl

theorem readStep_book (k : Nat) : (s.readStep k).after.book = s.book := by
  unfold State.readStep
  split <;> rfl

theorem doStepReadNext_follows : s.book.Follows (doStepReadNext f s).book :=
  control_follows fun t _ => by
    split
    · exact .of_eq (readStep_book t _)
    · exact .of_eq rfl

theorem doTableClear_follows : s.book.Follows (doTableClear f s).book :=
  control_follows fun t _ => by
    split
    · exact .of_eq rfl
    · rename_i idle
      exact .of_entry (.clearBegins (t.anyCook_false (by simpa using idle)))

/-! ### Requests of calls and cleanings (R86, R89, R101, R103) -/

theorem doCallAck_follows : s.book.Follows (doCallAck f s).book :=
  control_follows fun t _ => by
    repeat' split
    any_goals exact .of_eq rfl
    · exact (t.acknowledge_passes _ _).serves
    · exact (t.acknowledge_passes _ _).serves

theorem doCallClearOverflow_follows : s.book.Follows (doCallClearOverflow f s).book :=
  control_follows fun t _ => forAddress_serves fun i => by
    split
    · exact ((Book.Passes.of_eq (t.setOverflow_book i false)).trans (State.relock_passes _ i)).serves
    · exact .of_eq rfl

theorem doCleanRelease_follows : s.book.Follows (doCleanRelease f s).book :=
  control_follows fun t _ => forAddress_serves fun i => by
    split
    · exact (t.endCleaning_passes i _ _).serves
    · exact .of_eq rfl

theorem doCleanRequest_follows : s.book.Follows (doCleanRequest f s).book :=
  owned_follows fun ready => forOven_serves fun i => by
    split
    · exact (s.requestCleaning_passes i _ _ ready).serves
    · exact .of_eq rfl

theorem doCleanCancel_follows : s.book.Follows (doCleanCancel f s).book :=
  owned_follows fun _ => forOven_serves fun i => (s.cancelCleaning_passes i f).serves

/-! ### Requests of cooks and transfers (R44, R54, R110 to R121, R141) -/

theorem doCookStart_follows : s.book.Follows (doCookStart f s).book :=
  owned_follows fun ready => forOven_serves fun i => forRecipe_serves fun r =>
    s.startCook_serves i r _ _ ready

theorem doCookStop_follows : s.book.Follows (doCookStop f s).book :=
  owned_follows fun _ => forOven_serves fun i => by
    split
    · exact .of_eq rfl
    · exact .leads (s.stopCook_leads i _)

theorem openRefusal_none (h : s.openRefusal i = none) :
    (s.update i).state = .idle ∨ (s.update i).state = .failed := by
  rw [State.openRefusal, State.refusal_none_iff, State.refusal_none_iff, State.refusal_none_iff,
    State.refusal_none_iff] at h
  obtain ⟨-, -, -, state, -⟩ := h
  tauto

theorem doUpdateOpen_follows : s.book.Follows (doUpdateOpen f s).book :=
  owned_follows fun _ => forOven_serves fun i => by
    split
    · exact .of_eq rfl
    split
    · exact .of_eq rfl
    · rename_i o _ allowed
      refine .of_eq ((State.forwardUpdate_book _ i _ _ f).trans (s.modUpdate_book_same i _ ?_))
      rcases openRefusal_none s i allowed with h | h <;> simp [h, UpdateCtx.openWith]

theorem doUpdateChunk_follows : s.book.Follows (doUpdateChunk f s).book :=
  owned_follows fun _ => forOven_serves fun i => .of_eq (s.takeChunk_book i f _ _)

theorem doUpdateSeal_follows : s.book.Follows (doUpdateSeal f s).book :=
  owned_follows fun _ => forOven_serves fun i => .of_eq (s.sealUpdate_book i f)

theorem applyRefusal_none (h : s.applyRefusal i = none) :
    (s.oven i).occupancy = .free ∧ s.waiting i = false := by
  rw [State.applyRefusal, State.refusal_none_iff, State.refusal_none_iff, State.refusal_none_iff] at h
  obtain ⟨-, free, waits, -⟩ := h
  exact ⟨by simpa [State.occupancyFree] using free, by simpa using waits⟩

theorem doUpdateApply_follows : s.book.Follows (doUpdateApply f s).book :=
  owned_follows fun ready => forOven_serves fun i => by
    split
    · exact .of_eq rfl
    · rename_i allowed
      obtain ⟨free, waits⟩ := applyRefusal_none s i allowed
      exact .leads (s.beginApply_leads i f ready free waits)

theorem doUpdateAbort_follows : s.book.Follows (doUpdateAbort f s).book :=
  owned_follows fun _ => forOven_serves fun i => .of_eq (s.abortUpdate_book i f)

theorem doDirect_follows : s.book.Follows (doDirect f s).book :=
  owned_follows fun _ => by
    split
    · refine .of_eq ?_
      unfold State.forwardDirect
      repeat' split
      all_goals rfl
    · exact .of_eq rfl

/-! ### Upward frames (R3 to R10, R50, R55, R60, R87, R90, R98, R118, R131) -/

variable (u : UpFrame)

theorem doSample_follows (tag : BitVec 16) : s.book.Follows (doSample tag u s).book :=
  arriveUp_follows fun i _ ready =>
    dispatchUp_serves ready (fun t => t.forwardSample_book i _)
      (fun t _ => .leads (t.watchSample_leads i _))

theorem doHello_follows : s.book.Follows (doHello u s).book :=
  arriveUp_follows fun i t ready => .leads (t.helloArrives_leads i u ready)

theorem takeFault_leads (code : Nat) : s.book.Leads (s.takeFault i code).book := by
  unfold State.takeFault
  split
  · exact s.raise_leads _ _ _ _
  · exact .of_eq s.ignoreFault_book

theorem takeFaultClear_passes (code : Nat) : s.book.Passes (s.takeFaultClear i code).book := by
  unfold State.takeFaultClear
  repeat' split
  · exact s.clearCall_passes _
  · exact .of_eq s.ignoreFault_book
  · exact .of_eq s.ignoreFault_book

theorem doCleanPhase_follows : s.book.Follows (doCleanPhase u s).book :=
  takeNotice_follows fun i t _ => by
    dsimp only
    split
    · exact .of_eq (t.modCleanRecord_book i _)
    · exact .of_eq rfl

theorem doCleanDone_follows : s.book.Follows (doCleanDone u s).book :=
  takeNotice_follows fun i t _ => by
    repeat' split
    · exact (t.endCleaning_passes i _ _).serves
    · exact .of_eq rfl
    · exact .of_eq rfl

theorem doUpdateStatus_follows : s.book.Follows (doUpdateStatus u s).book :=
  takeNotice_follows fun i t _ => by
    split
    · rename_i state
      split
      · exact .of_eq (t.modUpdate_book_same i _ Iff.rfl)
      · exact .leads (t.endApply_leads i _ _ state)
      · exact .of_eq rfl
    · exact .of_eq rfl

/-! ### Every command -/

/-- Every command follows the book. -/
theorem exec_follows (c : Instr) (s : State) : ∃ t, exec c s = .next t ∧ s.book.Follows t.book := by
  cases c with
  | powerOn => exact ⟨_, rfl, restart_follows s _⟩
  | resetPin => exact ⟨_, rfl, restart_follows s _⟩
  | ready => exact ⟨_, rfl, doReady_follows s⟩
  | startUpDiscard link => exact ⟨_, rfl, doStartUpDiscard_follows s link⟩
  | watchTick => exact ⟨_, rfl, doWatchTick_follows s⟩
  | silenceWatchExpiry n => exact ⟨_, rfl, doSilenceWatchExpiry_follows s n⟩
  | ackTimerExpiry n => exact ⟨_, rfl, doAckTimerExpiry_follows s n⟩
  | overtimeExpiry n => exact ⟨_, rfl, doOvertimeExpiry_follows s n⟩
  | applyTimerExpiry n => exact ⟨_, rfl, doApplyTimerExpiry_follows s n⟩
  | lineErrorWindowClose => exact ⟨_, rfl, doLineErrorWindowClose_follows s⟩
  | pauseExpiry => exact ⟨_, rfl, .of_eq rfl⟩
  | softResetTenthTick => exact ⟨_, rfl, doSoftResetTenthTick_follows s⟩
  | tableClearCompletion => exact ⟨_, rfl, doTableClearCompletion_follows s⟩
  | saveEnd => exact ⟨_, rfl, doSaveEnd_follows s⟩
  | storeFrameDropped e => exact ⟨_, rfl, doStoreFrameDropped_follows s e⟩
  | storeClassifierDiscard e => exact ⟨_, rfl, doStoreClassifierDiscard_follows s e⟩
  | pauseFrame dest quanta => exact ⟨_, rfl, doPauseFrame_follows s dest quanta⟩
  | statusRead f => exact ⟨_, rfl, control_follows fun _ _ => by split <;> exact .of_eq rfl⟩
  | configWrite f => exact ⟨_, rfl, doConfigWrite_follows s f⟩
  | configRead f =>
    refine ⟨_, rfl, control_follows fun _ _ => .of_eq ?_⟩
    repeat' split
    all_goals rfl
  | daypartSet f => exact ⟨_, rfl, doDaypartSet_follows s f⟩
  | rollCall f => exact ⟨_, rfl, control_follows fun _ _ => .of_eq rfl⟩
  | softReset f => exact ⟨_, rfl, doSoftReset_follows s f⟩
  | save f => exact ⟨_, rfl, doSave_follows s f⟩
  | ovenCommission f => exact ⟨_, rfl, doOvenCommission_follows s f⟩
  | ovenRetire f => exact ⟨_, rfl, doOvenRetire_follows s f⟩
  | ovenRead f => exact ⟨_, rfl, control_follows fun _ _ => forAddress_serves fun _ => .of_eq rfl⟩
  | ovenSet f => exact ⟨_, rfl, doOvenSet_follows s f⟩
  | serviceEnter f => exact ⟨_, rfl, doServiceEnter_follows s f⟩
  | serviceLeave f => exact ⟨_, rfl, doServiceLeave_follows s f⟩
  | watchReload f => exact ⟨_, rfl, doWatchReload_follows s f⟩
  | mapStage f => exact ⟨_, rfl, doMapStage_follows s f⟩
  | mapSet f => exact ⟨_, rfl, doMapSet_follows s f⟩
  | mapRead f => exact ⟨_, rfl, control_follows fun _ _ => forRecipe_serves fun _ => .of_eq rfl⟩
  | mapReadNext f => exact ⟨_, rfl, doMapReadNext_follows s f⟩
  | release f => exact ⟨_, rfl, doRelease_follows s f⟩
  | withdraw f => exact ⟨_, rfl, doWithdraw_follows s f⟩
  | discardStaged f => exact ⟨_, rfl, doDiscardStaged_follows s f⟩
  | stepWrite f => exact ⟨_, rfl, control_follows fun t _ => .leads (t.writeStep_leads _ _)⟩
  | stepWriteNext f => exact ⟨_, rfl, doStepWriteNext_follows s f⟩
  | stepRead f => exact ⟨_, rfl, control_follows fun t _ => .of_eq (readStep_book t _)⟩
  | stepReadNext f => exact ⟨_, rfl, doStepReadNext_follows s f⟩
  | tableClear f => exact ⟨_, rfl, doTableClear_follows s f⟩
  | classMapWrite f => exact ⟨_, rfl, control_follows fun _ _ => by split <;> exact .of_eq rfl⟩
  | classMapRead f => exact ⟨_, rfl, control_follows fun _ _ => by split <;> exact .of_eq rfl⟩
  | severityMapWrite f => exact ⟨_, rfl, control_follows fun _ _ => by split <;> exact .of_eq rfl⟩
  | severityMapRead f => exact ⟨_, rfl, control_follows fun _ _ => by split <;> exact .of_eq rfl⟩
  | callRead f => exact ⟨_, rfl, control_follows fun _ _ => by split <;> exact .of_eq rfl⟩
  | callAck f => exact ⟨_, rfl, doCallAck_follows s f⟩
  | callClearOverflow f => exact ⟨_, rfl, doCallClearOverflow_follows s f⟩
  | cleanRelease f => exact ⟨_, rfl, doCleanRelease_follows s f⟩
  | cookStart f => exact ⟨_, rfl, doCookStart_follows s f⟩
  | cookStop f => exact ⟨_, rfl, doCookStop_follows s f⟩
  | cleanRequest f => exact ⟨_, rfl, doCleanRequest_follows s f⟩
  | cleanCancel f => exact ⟨_, rfl, doCleanCancel_follows s f⟩
  | updateOpen f => exact ⟨_, rfl, doUpdateOpen_follows s f⟩
  | updateChunk f => exact ⟨_, rfl, doUpdateChunk_follows s f⟩
  | updateSeal f => exact ⟨_, rfl, doUpdateSeal_follows s f⟩
  | updateApply f => exact ⟨_, rfl, doUpdateApply_follows s f⟩
  | updateAbort f => exact ⟨_, rfl, doUpdateAbort_follows s f⟩
  | direct f => exact ⟨_, rfl, doDirect_follows s f⟩
  | lineFrameDiscard events => exact ⟨_, rfl, doLineFrameDiscard_follows s events⟩
  | sample tag f => exact ⟨_, rfl, doSample_follows s f tag⟩
  | hello f => exact ⟨_, rfl, doHello_follows s f⟩
  | stepAck f => exact ⟨_, rfl, takeNotice_follows fun i t _ => .leads (t.stepAck_leads i _)⟩
  | panelStart f => exact ⟨_, rfl, takeNotice_follows fun i t ready => t.panelStart_serves i _ ready⟩
  | panelStop f => exact ⟨_, rfl, takeNotice_follows fun i t _ => .leads (t.stopCook_leads i _)⟩
  | fault f => exact ⟨_, rfl, takeNotice_follows fun i t _ => .leads (takeFault_leads t i _)⟩
  | faultClear f => exact ⟨_, rfl, takeNotice_follows fun i t _ => (takeFaultClear_passes t i _).serves⟩
  | cleanPhase f => exact ⟨_, rfl, doCleanPhase_follows s f⟩
  | cleanDone f => exact ⟨_, rfl, doCleanDone_follows s f⟩
  | updateStatus f => exact ⟨_, rfl, doUpdateStatus_follows s f⟩
  | serviceKey f => exact ⟨_, rfl, takeNotice_follows fun i t _ => .leads (t.serviceKey_leads i _)⟩
  | ovenNote f => exact ⟨_, rfl, takeNotice_follows fun _ _ _ => .of_eq rfl⟩
  | lineTransmitterTake => exact ⟨_, rfl, doLineTransmitterTake_follows s⟩
  | transmissionEnd => exact ⟨_, rfl, doTransmissionEnd_follows s⟩
  | storeLinkSend => exact ⟨_, rfl, doStoreLinkSend_follows s⟩
  | storeLinkTransmissionEnd => exact ⟨_, rfl, doStoreLinkTransmissionEnd_follows s⟩

/-- Every step follows the book. -/
theorem step_follows {s s' : State} (h : step s = .next s') : s.book.Follows s'.book := by
  unfold step at h
  split at h
  · rename_i c rest _
    obtain ⟨t, run, follows⟩ := exec_follows c { s with pending := rest }
    rw [run] at h
    cases h
    exact follows
  · cases h
    refine .of_eq ?_
    unfold State.idle
    split <;> rfl

end Sys2Proof.Machine
end

section
/-! PROOFS. The Oven Table's laws, occupancy and cleaning: each law of a state is a law of its book, and what every
step does to the book keeps it. -/

namespace Sys2Proof.Machine

open Roster (Moves)

/-! ### The laws of a state are laws of its book -/

theorem serialLaw_iff (s : State) : SerialLaw s ↔ s.book.ledger.Serials := Iff.rfl

theorem presenceLaw_iff (s : State) : PresenceLaw s ↔ ∀ i, s.book.ledger.PresentAt i := by
  refine forall_congr' fun i => ?_
  have job : (s.oven i).occupancy.job = .applying ↔ (s.oven i).occupancy = .applying :=
    s.job_eq_iff i (by decide) (by decide)
  have frozen : (∀ b, (s.watch i).map (·.frozen) = some b →
        (b = true ↔ (s.oven i).service = true ∨ (s.oven i).occupancy.job = .applying)) ↔
      ∀ w, s.watch i = some w →
        (w.frozen = true ↔ (s.oven i).service = true ∨ (s.oven i).occupancy = .applying) := by
    rw [job]
    cases s.watch i <;> simp
  simp only [Ledger.PresentAt, State.book, frozen, Option.isSome_map, Option.map_eq_none_iff]

/-- Occupancy agrees with cooks and applies in the ledger, and the roster rests during the restore (R11). -/
theorem occupancyLaw_iff (s : State) :
    OccupancyLaw s ↔ s.book.ledger.Occupied ∧ s.book.roster.Resting := by
  have at_ (i : OvenId) : ((s.oven i).occupancy.job = .cooking ↔ (s.cook i).held.active = true) ∧
        ((s.oven i).occupancy.job = .applying ↔ ((s.update i).state == .applying) = true) ↔
      ((s.oven i).occupancy = .cooking ↔ (s.cook i).state ≠ .idle) ∧
        ((s.oven i).occupancy = .applying ↔ (s.update i).state = .applying) := by
    have job (o : Occupancy) (hc : o ≠ .cleaning) (hf : o ≠ .free) :
        (s.oven i).occupancy.job = o ↔ (s.oven i).occupancy = o := s.job_eq_iff i hc hf
    rw [job _ (by decide) (by decide), job _ (by decide) (by decide)]
    simp [CookCtx.held]
  constructor
  · rintro ⟨jobs, rest⟩
    refine ⟨fun i => ?_, fun hp => ?_⟩
    · obtain ⟨cook, apply⟩ := (at_ i).mpr (jobs i)
      exact ⟨cook, apply, fun hp => congrArg Occupancy.job ((rest hp).2 i)⟩
    · exact ⟨List.map_eq_nil_iff.mpr (rest hp).1, (rest hp).2⟩
  · rintro ⟨jobs, rest⟩
    refine ⟨fun i => (at_ i).mp ⟨(jobs i).1, (jobs i).2.1⟩, fun hp => ?_⟩
    exact ⟨List.map_eq_nil_iff.mp (rest hp).1, (rest hp).2⟩

/-! ### A cook that begins -/

section
variable {l l' : Ledger}

theorem Ledger.Starts.serials (h : l.Starts l') (hl : l.Serials) : l'.Serials := by
  obtain ⟨i, r, v, -, -, -, -, rfl⟩ := h
  exact hl

theorem Ledger.Starts.present (h : l.Starts l') (hl : ∀ i, l.PresentAt i) : ∀ i, l'.PresentAt i := by
  obtain ⟨i, r, v, -, free, -, -, rfl⟩ := h
  intro j
  have same : (l.startCook i r v).job j = .applying ↔ l.job j = .applying := by
    by_cases hj : j = i
    · subst hj
      simp [startCook, setJob, setTables, setCook, free]
    · simp [startCook, setJob, setTables, setCook, Function.update_of_ne hj]
  obtain ⟨record, watch, frozen, rest⟩ := hl j
  exact ⟨record, watch, fun b hb => (frozen b hb).trans (or_congr_right same.symm), rest⟩

theorem Ledger.Starts.occupied (h : l.Starts l') (hl : l.Occupied) : l'.Occupied := by
  obtain ⟨i, r, v, ready, free, -, -, rfl⟩ := h
  refine Ledger.occupied_of_other (i := i) hl rfl (fun j hj => ?_) ?_
  · simp [startCook, setJob, setTables, setCook, Function.update_of_ne hj]
  · have := hl i
    simp_all [startCook, setJob, setTables, setCook]

end

/-! ### What the book keeps -/

section
variable {b b' : Book}

/-- Every entry an event makes comes before a cook that begins (R47). -/
theorem Book.Follows.entries (h : b.Follows b') :
    Relation.ReflTransGen Entry b.ledger b'.ledger ∨
      ∃ m : Ledger, Relation.ReflTransGen Entry b.ledger m ∧ m.steps = b.ledger.steps ∧ m.Starts b'.ledger := by
  cases h with
  | serves h =>
    cases h with
    | leads h => exact .inl h.ledger
    | starts m h steps start _ => exact .inr ⟨m.ledger, h.ledger, steps, start⟩
  | resets h => exact .inl (h ▸ .single .restart)
  | readies h => exact .inl (.single h)

/-- A law of the ledger that each entry and each begin of a cook keep is kept. -/
theorem Book.Follows.keeps {P : Ledger → Prop} (entry : ∀ l l', Entry l l' → P l → P l')
    (starts : ∀ l l', l.Starts l' → P l → P l') (h : b.Follows b') (hb : P b.ledger) : P b'.ledger := by
  have chain : ∀ {l l'}, Relation.ReflTransGen Entry l l' → P l → P l' := by
    intro l l' h hl
    induction h with
    | refl => exact hl
    | tail _ e ih => exact entry _ _ e ih
  rcases h.entries with h | ⟨m, h, -, start⟩
  · exact chain h hb
  · exact starts _ _ start (chain h hb)

/-- Of the roster an event makes moves, a reset, or the end of the restore. -/
theorem Book.Follows.cleaning (h : b.Follows b') (hb : b.roster.Cleaning) : b'.roster.Cleaning := by
  cases h with
  | serves h =>
    cases h with
    | leads h => exact h.roster.cleaning hb
    | starts m h _ _ moves => exact moves.cleaning (h.roster.cleaning hb)
  | resets h =>
    subst h
    simp only [Roster.Cleaning, Roster.cleaningOvens, State.book, State.reset, Cleaning.reset, State.oven]
    decide
  | readies _ old phase slots queue occupancy =>
    obtain ⟨count, nodup, free, rest⟩ := hb
    obtain ⟨none, empty⟩ := rest old
    refine ⟨?_, queue ▸ nodup, ?_, fun hp => absurd hp (by rw [phase]; decide)⟩
    · rcases occupancy with same | allFree
      · simpa [slots, Roster.cleaningOvens, same] using count
      · have noneCleans : b'.roster.cleaningOvens = 0 := List.countP_eq_zero.mpr fun j _ => by simp [allFree]
        rw [slots, none, noneCleans]
    · rw [queue, empty]; simp

theorem Book.Follows.resting (h : b.Follows b') (hb : b.roster.Resting) : b'.roster.Resting := by
  cases h with
  | serves h =>
    cases h with
    | leads h => exact h.roster.resting hb
    | starts m h _ _ moves => exact moves.resting (h.roster.resting hb)
  | resets h =>
    subst h
    intro _
    simp [State.book, State.reset, Cleaning.reset, State.oven, OvenEntry.reset]
  | readies _ _ phase => exact fun hp => absurd hp (by rw [phase]; decide)

end

/-- Settles O56: only a record can bring a serial, and it brings one no other entry expects; record and watch go with
the presence at each entry of the ledger. -/
theorem ovenTableLawsKept : Obligations.OvenTableLawsKept := by
  intro s t h
  have follows := step_follows h
  refine ⟨fun serial => ?_, fun presence => ?_⟩
  · rw [serialLaw_iff] at serial ⊢
    exact follows.keeps (fun _ _ => Entry.serials) (fun _ _ => Ledger.Starts.serials) serial
  · rw [presenceLaw_iff] at presence ⊢
    exact follows.keeps (P := fun l => ∀ i, l.PresentAt i) (fun _ _ => Entry.present)
      (fun _ _ => Ledger.Starts.present) presence

theorem occupancyLaw_kept {s t : State} (h : step s = .next t) (law : OccupancyLaw s) : OccupancyLaw t := by
  rw [occupancyLaw_iff] at law ⊢
  obtain ⟨jobs, rest⟩ := law
  have follows := step_follows h
  exact ⟨follows.keeps (fun _ _ => Entry.occupied) (fun _ _ => Ledger.Starts.occupied) jobs,
    follows.resting rest⟩

theorem cleaningLaw_kept {s t : State} (h : step s = .next t) (law : CleaningLaw s) : CleaningLaw t := by
  rw [cleaningLaw_iff] at law ⊢
  exact (step_follows h).cleaning law

end Sys2Proof.Machine
end

section
/-! SUPPORT. Who owns a step record (R21): versions that leave a recipe and versions that come to one, record by
record. -/

namespace Sys2Proof.Machine

/-! ### Recipe numbers, runs and their records -/

theorem recipeOf_eq_some_iff {n : Nat} {r : Fin 512} : recipeOf n = some r ↔ n = r.val + 1 := by
  unfold recipeOf
  split
  · simp only [Option.some.injEq, Fin.ext_iff]; omega
  · simp only [reduceCtorEq, false_iff]; omega

/-- A record index lies in a run. -/
abbrev Run.has (run : Run) (k : Fin 768) : Prop := run.first ≤ k.val ∧ k.val < run.first + run.count

theorem modStep_get (steps : Vector StepRec 768) (n : Nat) (f : StepRec → StepRec) (k : Fin 768) :
    (modStep steps n f)[k] = if n = k.val then f steps[k] else steps[k] := by
  unfold modStep
  split
  · by_cases h : n = k.val
    · subst h; simp
    · simp [h]
  · rw [if_neg (by omega)]

/-- Records changed one by one at different indices. -/
theorem foldl_modStep_get {f : StepRec → StepRec} {l : List Nat} (h : l.Nodup)
    (steps : Vector StepRec 768) (k : Fin 768) :
    (l.foldl (fun st n => modStep st n f) steps)[k] = if k.val ∈ l then f steps[k] else steps[k] := by
  induction l generalizing steps with
  | nil => simp
  | cons n rest ih =>
    obtain ⟨new, rest_nodup⟩ := List.nodup_cons.mp h
    rw [List.foldl_cons, ih rest_nodup, modStep_get]
    by_cases hk : n = k.val
    · subst hk; simp [new]
    · simp [hk, Ne.symm hk]

theorem Run.mem_indices {run : Run} {n : Nat} :
    n ∈ run.indices ↔ run.first ≤ n ∧ n < run.first + run.count := List.mem_range'_1

theorem Run.indices_nodup (run : Run) : run.indices.Nodup := List.nodup_range'

theorem modRun_get (steps : Vector StepRec 768) (run : Run) (f : StepRec → StepRec) (k : Fin 768) :
    (modRun steps run f)[k] = if run.has k then f steps[k] else steps[k] := by
  rw [modRun, foldl_modStep_get run.indices_nodup]
  simp only [Run.mem_indices, Run.has]

theorem freeOutside_get (steps : Vector StepRec 768) (old new : Run) (k : Fin 768) :
    (freeOutside steps old new)[k] =
      if old.has k ∧ ¬ new.has k then steps[k].freed else steps[k] := by
  rw [freeOutside, foldl_modStep_get (old.indices_nodup.filter _)]
  simp only [List.mem_filter, Run.mem_indices, Run.has, decide_eq_true_eq]

/-! ### Tenancy -/

/-- Who owns which record, and which runs the versions hold: the law of R21 on these two alone. -/
def Tenancy (runs : Fin 512 → Role → Option Run) (own : Fin 768 → Option Owner) : Prop :=
  (∀ (k : Fin 768) (o : Owner), own k = some o ↔
      ∃ r run, recipeOf o.recipe = some r ∧ runs r o.role = some run ∧ run.version = o.version ∧
        run.first ≤ k.val ∧ k.val < run.first + run.count) ∧
    (∀ (r : Fin 512) (role : Role) (run : Run), runs r role = some run → run.first + run.count ≤ 768) ∧
    ∀ (r : Fin 512) (a b : Role) (x y : Run), runs r a = some x → runs r b = some y →
      x.version = y.version → a = b

/-- The runs of a recipe map's versions. -/
def runsOf (recipes : Vector RecipeEntry 512) (r : Fin 512) (role : Role) : Option Run := recipes[r].runOf role

/-- The owners of a step store's records. -/
def ownersOf (steps : Vector StepRec 768) (k : Fin 768) : Option Owner := steps[k].owner

theorem ownersAgree_iff {recipes : Vector RecipeEntry 512} {steps : Vector StepRec 768} :
    OwnersAgree recipes steps ↔ Tenancy (runsOf recipes) (ownersOf steps) := Iff.rfl

/-- The version a recipe holds in a role changes. -/
def withRun (runs : Fin 512 → Role → Option Run) (r : Fin 512) (role : Role) (x : Option Run) :
    Fin 512 → Role → Option Run :=
  Function.update runs r (Function.update (runs r) role x)

@[simp] theorem withRun_self (runs : Fin 512 → Role → Option Run) (r : Fin 512) (role : Role) (x : Option Run) :
    withRun runs r role x r role = x := by simp [withRun]

theorem withRun_withRun (runs : Fin 512 → Role → Option Run) (r : Fin 512) (role : Role) (x y : Option Run) :
    withRun (withRun runs r role x) r role y = withRun runs r role y := by simp [withRun]

theorem withRun_other {runs : Fin 512 → Role → Option Run} {r q : Fin 512} {role ρ : Role} {x : Option Run}
    (h : ¬ (q = r ∧ ρ = role)) : withRun runs r role x q ρ = runs q ρ := by
  by_cases hq : q = r
  · subst hq
    rw [withRun, Function.update_self, Function.update_of_ne fun e => h ⟨rfl, e⟩]
  · rw [withRun, Function.update_of_ne hq]

namespace Tenancy

variable {runs : Fin 512 → Role → Option Run} {own own' : Fin 768 → Option Owner} {r : Fin 512} {role : Role}
  {run : Run}

/-- A version's run owns its records. -/
theorem owner_eq (h : Tenancy runs own) (held : runs r role = some run) {k : Fin 768} (hk : run.has k) :
    own k = some { recipe := r.val + 1, version := run.version, role := role } :=
  (h.1 k _).mpr ⟨r, run, recipeOf_eq_some_iff.mpr rfl, held, rfl, hk⟩

/-- A version leaves a recipe and its records become FREE. -/
theorem remove (h : Tenancy runs own) (held : runs r role = some run)
    (inside : ∀ k, run.has k → own' k = none) (outside : ∀ k, ¬ run.has k → own' k = own k) :
    Tenancy (withRun runs r role none) own' := by
  obtain ⟨owners, fits, distinct⟩ := h
  have sub : ∀ {q ρ x}, withRun runs r role none q ρ = some x →
      runs q ρ = some x ∧ ¬ (q = r ∧ ρ = role) := by
    intro q ρ x hx
    by_cases hq : q = r ∧ ρ = role
    · obtain ⟨rfl, rfl⟩ := hq; simp at hx
    · exact ⟨by rwa [withRun_other hq] at hx, hq⟩
  refine ⟨fun k o => ?_, fun q ρ x hx => fits q ρ x (sub hx).1,
    fun q a b x y hx hy => distinct q a b x y (sub hx).1 (sub hy).1⟩
  by_cases hk : run.has k
  · rw [inside k hk]
    refine iff_of_false (by simp) ?_
    rintro ⟨q, x, hq, hx, version, lo, hi⟩
    obtain ⟨hx, other⟩ := sub hx
    have owned := (owners k o).mpr ⟨q, x, hq, hx, version, lo, hi⟩
    rw [owner_eq ⟨owners, fits, distinct⟩ held hk] at owned
    cases owned
    exact other ⟨(Option.some.inj (hq.symm.trans (recipeOf_eq_some_iff.mpr rfl))), rfl⟩
  · rw [outside k hk, owners k o]
    refine exists_congr fun q => exists_congr fun x => and_congr_right fun hq => ?_
    by_cases same : q = r ∧ o.role = role
    · obtain ⟨rfl, rfl⟩ := same
      rw [withRun_self, held]
      refine iff_of_false ?_ (by simp)
      rintro ⟨e, -, lo, hi⟩
      cases e
      exact hk ⟨lo, hi⟩
    · rw [withRun_other same]

/-- A version comes to a recipe and takes FREE records. -/
theorem add (h : Tenancy runs own) (place : runs r role = none) (fits : run.first + run.count ≤ 768)
    (version : ∀ ρ x, runs r ρ = some x → x.version ≠ run.version) (free : ∀ k, run.has k → own k = none)
    (inside : ∀ k, run.has k → own' k = some { recipe := r.val + 1, version := run.version, role := role })
    (outside : ∀ k, ¬ run.has k → own' k = own k) :
    Tenancy (withRun runs r role (some run)) own' := by
  obtain ⟨owners, oldFits, distinct⟩ := h
  have cases_ : ∀ {q ρ x}, withRun runs r role (some run) q ρ = some x →
      (q = r ∧ ρ = role ∧ x = run) ∨ (¬ (q = r ∧ ρ = role) ∧ runs q ρ = some x) := by
    intro q ρ x hx
    by_cases hq : q = r ∧ ρ = role
    · obtain ⟨rfl, rfl⟩ := hq
      rw [withRun_self] at hx
      exact .inl ⟨rfl, rfl, (Option.some.inj hx).symm⟩
    · exact .inr ⟨hq, by rwa [withRun_other hq] at hx⟩
  refine ⟨fun k o => ?_, fun q ρ x hx => ?_, fun q a b x y hx hy hv => ?_⟩
  · by_cases hk : run.has k
    · rw [inside k hk]
      constructor
      · rintro e
        cases e
        exact ⟨r, run, recipeOf_eq_some_iff.mpr rfl, withRun_self .., rfl, hk⟩
      · rintro ⟨q, x, hq, hx, hv, lo, hi⟩
        rcases cases_ hx with ⟨rfl, hrole, rfl⟩ | ⟨-, hx⟩
        · obtain ⟨n, v, ρ⟩ := o
          cases hrole
          cases hv
          cases recipeOf_eq_some_iff.mp hq
          rfl
        · have := (owners k o).mpr ⟨q, x, hq, hx, hv, lo, hi⟩
          rw [free k hk] at this
          cases this
    · rw [outside k hk, owners k o]
      refine exists_congr fun q => exists_congr fun x => and_congr_right fun hq => ?_
      by_cases same : q = r ∧ o.role = role
      · obtain ⟨rfl, rfl⟩ := same
        rw [withRun_self, place]
        refine iff_of_false (by simp) ?_
        rintro ⟨e, -, lo, hi⟩
        cases e
        exact hk ⟨lo, hi⟩
      · rw [withRun_other same]
  · rcases cases_ hx with ⟨-, -, rfl⟩ | ⟨-, hx⟩
    · exact fits
    · exact oldFits q ρ x hx
  · rcases cases_ hx with ⟨rfl, rfl, rfl⟩ | ⟨-, oldX⟩
    · rcases cases_ hy with ⟨-, rfl, -⟩ | ⟨-, oldY⟩
      · rfl
      · exact absurd hv.symm (version b y oldY)
    · rcases cases_ hy with ⟨rfl, rfl, rfl⟩ | ⟨-, oldY⟩
      · exact absurd hv (version a x oldX)
      · exact distinct q a b x y oldX oldY hv

/-- A version changes its role in its recipe. -/
theorem move {σ : Role} (h : Tenancy runs own) (held : runs r role = some run) (place : runs r σ = none)
    (inside : ∀ k, run.has k → own' k = (own k).map fun o => { o with role := σ })
    (outside : ∀ k, ¬ run.has k → own' k = own k) :
    Tenancy (withRun (withRun runs r role none) r σ (some run)) own' := by
  have left := h.remove (own' := fun k => if run.has k then none else own k) held
    (fun k hk => if_pos hk) (fun k hk => if_neg hk)
  refine left.add ?_ (h.2.1 r role run held) ?_ (fun k hk => if_pos hk) ?_ ?_
  · by_cases same : σ = role
    · subst same; exact withRun_self ..
    · rw [withRun_other fun e => same e.2, place]
  · intro ρ x hx hv
    by_cases same : ρ = role
    · subst same; simp at hx
    · rw [withRun_other fun e => same e.2] at hx
      exact same (h.2.2 r ρ role x run hx held hv)
  · intro k hk
    rw [inside k hk, h.owner_eq held hk]
    rfl
  · exact fun k hk => (outside k hk).trans (if_neg hk).symm

/-- Versions of some roles leave every recipe, and their records become FREE. -/
theorem restrict {runs' : Fin 512 → Role → Option Run} (h : Tenancy runs own) (keep : Role → Prop)
    (hr : ∀ r ρ x, runs' r ρ = some x ↔ runs r ρ = some x ∧ keep ρ)
    (ho : ∀ k o, own' k = some o ↔ own k = some o ∧ keep o.role) : Tenancy runs' own' := by
  obtain ⟨owners, fits, distinct⟩ := h
  refine ⟨fun k o => ?_, fun r ρ x hx => fits r ρ x ((hr r ρ x).mp hx).1,
    fun r a b x y hx hy => distinct r a b x y ((hr r a x).mp hx).1 ((hr r b y).mp hy).1⟩
  rw [ho, owners]
  constructor
  · rintro ⟨⟨r, x, named, held, rest⟩, kept⟩
    exact ⟨r, x, named, (hr _ _ _).mpr ⟨held, kept⟩, rest⟩
  · rintro ⟨r, x, named, held, rest⟩
    obtain ⟨held, kept⟩ := (hr _ _ _).mp held
    exact ⟨⟨r, x, named, held, rest⟩, kept⟩

end Tenancy

/-! ### The runs of a changed recipe -/

theorem runsOf_set (recipes : Vector RecipeEntry 512) (r : Fin 512) (e : RecipeEntry) :
    runsOf (recipes.set r e) = Function.update (runsOf recipes) r e.runOf := by
  funext q
  by_cases h : q = r
  · subst h; funext role; simp [runsOf]
  · rw [Function.update_of_ne h]
    funext role
    simp [runsOf, Fin.val_ne_of_ne (Ne.symm h)]

/-- The runs stay where a recipe's versions keep their runs. -/
theorem runsOf_set_same {recipes : Vector RecipeEntry 512} {r : Fin 512} {e : RecipeEntry}
    (h : ∀ role, e.runOf role = recipes[r].runOf role) : runsOf (recipes.set r e) = runsOf recipes := by
  rw [runsOf_set, Function.update_eq_self_iff]
  exact funext h

theorem runsOf_set_one {recipes : Vector RecipeEntry 512} {r : Fin 512} {e : RecipeEntry} {role : Role}
    {x : Option Run} (own : e.runOf role = x) (others : ∀ ρ, ρ ≠ role → e.runOf ρ = recipes[r].runOf ρ) :
    runsOf (recipes.set r e) = withRun (runsOf recipes) r role x := by
  rw [runsOf_set, withRun]
  congr 1
  funext ρ
  by_cases h : ρ = role
  · subst h; rw [Function.update_self, own]
  · rw [Function.update_of_ne h, others ρ h]; rfl

theorem runsOf_set_two {recipes : Vector RecipeEntry 512} {r : Fin 512} {e : RecipeEntry} {role σ : Role}
    {x : Option Run} (left : e.runOf role = none) (own : e.runOf σ = x)
    (others : ∀ ρ, ρ ≠ role → ρ ≠ σ → e.runOf ρ = recipes[r].runOf ρ) :
    runsOf (recipes.set r e) = withRun (withRun (runsOf recipes) r role none) r σ x := by
  rw [runsOf_set]
  funext q ρ
  by_cases hq : q = r
  · subst hq
    rw [Function.update_self]
    by_cases ht : ρ = σ
    · subst ht; rw [withRun_self, own]
    · rw [withRun_other fun h => ht h.2]
      by_cases hr : ρ = role
      · subst hr; rw [withRun_self, left]
      · rw [withRun_other fun h => hr h.2, others ρ hr ht]; rfl
  · rw [Function.update_of_ne hq, withRun_other fun h => hq h.1, withRun_other fun h => hq h.1]

end Sys2Proof.Machine
end

section
/-! SUPPORT. The laws of step records and of user counts on the ledger (R21, R33), and that each entry keeps them and
the records of the cooks that run on. -/

namespace Sys2Proof.Machine

/-- A cook uses a version of a recipe. -/
def CookRun.uses (c : CookRun) (r : Fin 512) (version : Nat) : Bool :=
  c.active && c.recipe == r.val + 1 && c.version == version

/-- The run of a cook. -/
def CookRun.run (c : CookRun) : Run := { version := c.version, first := c.first, count := c.count }

theorem CookRun.uses_iff {c : CookRun} {r : Fin 512} {version : Nat} :
    c.uses r version = true ↔ c.active = true ∧ c.recipe = r.val + 1 ∧ c.version = version := by
  simp [CookRun.uses, and_assoc]

namespace Ledger

variable (l : Ledger)

/-- The number of cooks that use a version (R33). -/
def users (r : Fin 512) (version : Nat) : Nat := allOvens.countP fun i => (l.cook i).uses r version

/-- User counts are the numbers of cooks, a draining version has at least one (R33). -/
def Counted (r : Fin 512) (e : RecipeEntry) : Prop :=
  (∀ v, e.live = some v → v.users = l.users r v.run.version) ∧
    ∀ v, e.draining = some v → v.users = l.users r v.run.version ∧ 0 < v.users

/-- The laws of step records and of user counts (R21, R33, R36). -/
structure Recipes : Prop where
  owners : OwnersAgree l.recipes l.steps
  image : ∀ m, l.image = some m → OwnersAgree (m.content.recipes.map SavedRecipe.entry)
    (m.content.steps.map fun x => x.getD StepRec.blank)
  counts : ∀ r, l.Counted r l.recipes[r]
  cooks : ∀ i, (l.cook i).active = true → ∃ r role, recipeOf (l.cook i).recipe = some r ∧ role ≠ .staged ∧
    l.recipes[r].runOf role = some (l.cook i).run
  clearing : l.clearing = true → ∀ i, (l.cook i).active = false

/-- A cook that is active afterwards was the same before, and its records keep contents and written flag. -/
def Keeps (l' : Ledger) : Prop :=
  ∀ i, (l'.cook i).active = true → l.cook i = l'.cook i ∧
    ∀ k, (l.cook i).run.has k → l'.steps[k].params = l.steps[k].params ∧ l'.steps[k].written = l.steps[k].written

variable {l} {l' l'' : Ledger}

protected theorem Keeps.refl : l.Keeps l := fun _ _ => ⟨rfl, fun _ _ => ⟨rfl, rfl⟩⟩

protected theorem Keeps.trans (h : l.Keeps l') (h' : l'.Keeps l'') : l.Keeps l'' := by
  intro i active
  obtain ⟨same', records'⟩ := h' i active
  obtain ⟨same, records⟩ := h i (same' ▸ active)
  refine ⟨same.trans same', fun k hk => ?_⟩
  obtain ⟨params, written⟩ := records k hk
  obtain ⟨params', written'⟩ := records' k (same ▸ hk)
  exact ⟨params'.trans params, written'.trans written⟩

/-! ### Counting cooks -/

theorem users_pos {i : OvenId} {r : Fin 512} {n : Nat} (h : (l.cook i).uses r n = true) : 0 < l.users r n :=
  List.countP_pos_iff.mpr ⟨i, List.mem_finRange i, h⟩

theorem users_eq_zero {r : Fin 512} {n : Nat} (h : ∀ i, ¬ (l.cook i).uses r n = true) : l.users r n = 0 :=
  List.countP_eq_zero.mpr fun i _ => h i

/-- Where one cook context changes, the count changes by it. -/
theorem users_update {i : OvenId} {c : CookRun} (h : l'.cook = Function.update l.cook i c) (r : Fin 512)
    (n : Nat) : l'.users r n + (if (l.cook i).uses r n = true then 1 else 0) =
      l.users r n + if c.uses r n = true then 1 else 0 := by
  have := Roster.countP_allOvens_update (fun j => (l.cook j).uses r n) i (c.uses r n)
  rw [← field_update fun x : CookRun => x.uses r n, ← h] at this
  exact this

/-! ### Cooks and owners -/

namespace Recipes

variable (h : l.Recipes) {i : OvenId}
include h

/-- Versions a recipe holds in two roles carry different numbers (R26). -/
theorem distinct {r : Fin 512} {a b : Role} {x y : Run} (hx : l.recipes[r].runOf a = some x)
    (hy : l.recipes[r].runOf b = some y) (version : x.version = y.version) : a = b :=
  h.owners.2.2 r a b x y hx hy version

/-- The records of a running cook are owned by the live or the draining version it runs. -/
theorem owner_of_cook (active : (l.cook i).active = true) {k : Fin 768} (hk : (l.cook i).run.has k) :
    ∃ role, role ≠ Role.staged ∧ l.steps[k].owner =
      some { recipe := (l.cook i).recipe, version := (l.cook i).version, role := role } := by
  obtain ⟨r, role, named, live, held⟩ := h.cooks i active
  exact ⟨role, live, (h.owners.1 k _).mpr ⟨r, _, named, held, rfl, hk⟩⟩

/-- A cook whose records a version owns runs that version, and the version is not staged. -/
theorem cook_of_owner (active : (l.cook i).active = true) {k : Fin 768} (hk : (l.cook i).run.has k)
    {r : Fin 512} {role : Role} {run : Run} (held : l.recipes[r].runOf role = some run) (hr : run.has k) :
    role ≠ .staged ∧ (l.cook i).uses r run.version = true := by
  obtain ⟨ρ, live, owner⟩ := h.owner_of_cook active hk
  have same := owner.symm.trans (Tenancy.owner_eq (ownersAgree_iff.mp h.owners) held hr)
  simp only [Option.some.injEq, Owner.mk.injEq] at same
  obtain ⟨recipe, version, rfl⟩ := same
  exact ⟨live, CookRun.uses_iff.mpr ⟨active, recipe, version⟩⟩

/-- An active cook of a recipe runs one of its versions. -/
theorem cook_held (active : (l.cook i).active = true) {r : Fin 512} (recipe : (l.cook i).recipe = r.val + 1) :
    ∃ role, role ≠ Role.staged ∧ l.recipes[r].runOf role = some (l.cook i).run := by
  obtain ⟨q, role, named, live, held⟩ := h.cooks i active
  have : q = r := Option.some.inj (named.symm.trans (recipeOf_eq_some_iff.mpr recipe))
  exact ⟨role, live, this ▸ held⟩

/-- Where one recipe changes, its clauses are shown anew; cooks of other recipes stay. -/
theorem change {r : Fin 512} {e : RecipeEntry} (image : l'.image = l.image)
    (clearing : l'.clearing = true → ∀ i, (l'.cook i).active = false)
    (recipes : l'.recipes = l.recipes.set r e) (owners : OwnersAgree l'.recipes l'.steps)
    (elsewhere : ∀ q n, q ≠ r → l'.users q n = l.users q n) (counts : l'.Counted r e)
    (others : ∀ i, (l'.cook i).active = true → (l'.cook i).recipe ≠ r.val + 1 → l.cook i = l'.cook i)
    (cooks : ∀ i, (l'.cook i).active = true → (l'.cook i).recipe = r.val + 1 →
      ∃ role, role ≠ Role.staged ∧ e.runOf role = some (l'.cook i).run) : l'.Recipes where
  owners := owners
  image := image ▸ h.image
  counts q := by
    by_cases hq : q = r
    · subst hq
      have : l'.recipes[q] = e := by simp [recipes]
      rwa [this]
    · have : l'.recipes[q] = l.recipes[q] := by
        simp [recipes, Fin.val_ne_of_ne (Ne.symm hq)]
      rw [this]
      simpa only [Counted, elsewhere q _ hq] using h.counts q
  cooks i active := by
    by_cases recipe : (l'.cook i).recipe = r.val + 1
    · obtain ⟨role, live, held⟩ := cooks i active recipe
      exact ⟨r, role, recipeOf_eq_some_iff.mpr recipe, live, by simpa [recipes] using held⟩
    · have same := others i active recipe
      obtain ⟨q, role, named, live, held⟩ := h.cooks i (same ▸ active)
      rw [same] at named held
      have hq : q ≠ r := fun e => recipe (e ▸ recipeOf_eq_some_iff.mp named)
      refine ⟨q, role, named, live, ?_⟩
      have : l'.recipes[q] = l.recipes[q] := by
        simp [recipes, Fin.val_ne_of_ne (Ne.symm hq)]
      rwa [this]
  clearing := clearing

/-- A change of one recipe that leaves every cook. -/
theorem setTables_set {r : Fin 512} {e : RecipeEntry} {steps : Vector StepRec 768}
    (owners : OwnersAgree (l.recipes.set r e) steps) (counts : l.Counted r e)
    (cooks : ∀ i role, (l.cook i).active = true → (l.cook i).recipe = r.val + 1 → role ≠ Role.staged →
      l.recipes[r].runOf role = some (l.cook i).run →
        ∃ ρ, ρ ≠ Role.staged ∧ e.runOf ρ = some (l.cook i).run) :
    (l.setTables (l.recipes.set r e) steps).Recipes :=
  h.change rfl h.clearing rfl owners (fun _ _ _ => rfl) counts (fun _ _ _ => rfl) fun i active recipe => by
    obtain ⟨role, live, held⟩ := h.cook_held active recipe
    exact cooks i role active recipe live held

/-- A version without users leaves its records to no running cook. -/
theorem free_of_unused {r : Fin 512} {role : Role} {run : Run} (held : l.recipes[r].runOf role = some run)
    (unused : role = .staged ∨ l.users r run.version = 0) (active : (l.cook i).active = true) {k : Fin 768}
    (hk : (l.cook i).run.has k) : ¬ run.has k := by
  intro hr
  obtain ⟨live, uses⟩ := h.cook_of_owner active hk held hr
  rcases unused with staged | none
  · exact live staged
  · exact absurd (users_pos uses) (by omega)

end Recipes

/-! ### Requests of the Recipe Map and the Step Store -/

theorem ownersOf_set_write (steps : Vector StepRec 768) (k : Fin 768) (p : StepParams) :
    ownersOf (steps.set k { steps[k] with params := p, written := true }) = ownersOf steps := by
  funext j
  by_cases h : j = k
  · subst h; simp [ownersOf]
  · simp [ownersOf, Fin.val_ne_of_ne (Ne.symm h)]

theorem ownersOf_modRun_inside {steps : Vector StepRec 768} {run : Run} {f : StepRec → StepRec} {k : Fin 768}
    (h : run.has k) : ownersOf (modRun steps run f) k = (f steps[k]).owner := by
  rw [ownersOf, modRun_get, if_pos h]

theorem ownersOf_modRun_outside {steps : Vector StepRec 768} {run : Run} {f : StepRec → StepRec} {k : Fin 768}
    (h : ¬ run.has k) : ownersOf (modRun steps run f) k = ownersOf steps k := by
  rw [ownersOf, modRun_get, if_neg h]; rfl

/-- A version leaves a recipe and its records become FREE (R21). -/
theorem ownersAgree_free {recipes : Vector RecipeEntry 512} {steps : Vector StepRec 768} {r : Fin 512}
    {e : RecipeEntry} {role : Role} {run : Run} (h : OwnersAgree recipes steps)
    (held : recipes[r].runOf role = some run) (left : e.runOf role = none)
    (others : ∀ ρ, ρ ≠ role → e.runOf ρ = recipes[r].runOf ρ) :
    OwnersAgree (recipes.set r e) (modRun steps run StepRec.freed) := by
  rw [ownersAgree_iff, runsOf_set_one left others]
  exact Tenancy.remove h held (fun _ hk => ownersOf_modRun_inside hk) fun _ hk => ownersOf_modRun_outside hk

/-- A version changes its role, and its records with it (R31, R32). -/
theorem ownersAgree_move {recipes : Vector RecipeEntry 512} {steps : Vector StepRec 768} {r : Fin 512}
    {e : RecipeEntry} {role σ : Role} {run : Run} (h : OwnersAgree recipes steps)
    (held : recipes[r].runOf role = some run) (place : recipes[r].runOf σ = none) (left : e.runOf role = none)
    (own : e.runOf σ = some run) (others : ∀ ρ, ρ ≠ role → ρ ≠ σ → e.runOf ρ = recipes[r].runOf ρ) :
    OwnersAgree (recipes.set r e) (modRun steps run (StepRec.asRole σ)) := by
  rw [ownersAgree_iff, runsOf_set_two left own others]
  exact Tenancy.move h held place (fun _ hk => ownersOf_modRun_inside hk) fun _ hk => ownersOf_modRun_outside hk

/-- A version is staged in place of the one before (R27). -/
theorem ownersAgree_stage {recipes : Vector RecipeEntry 512} {steps : Vector StepRec 768} {r : Fin 512}
    {run : Run} (h : OwnersAgree recipes steps) (fits : run.first + run.count ≤ 768)
    (notLive : ∀ v, recipes[r].live = some v → v.run.version ≠ run.version)
    (notDraining : ∀ v, recipes[r].draining = some v → v.run.version ≠ run.version)
    (claimable : ∀ k : Fin 768, run.first ≤ k.val → k.val < run.first + run.count →
      steps[k].claimable (r.val + 1) = true) :
    OwnersAgree (recipes.set r { recipes[r] with staged := some run })
      (modRun ((recipes[r].staged.map fun old => freeOutside steps old run).getD steps) run
        (StepRec.claimed (r.val + 1) run.version)) := by
  rw [ownersAgree_iff] at h ⊢
  rw [runsOf_set_one (role := .staged) (x := some run) rfl fun ρ hρ => by
    cases ρ
    · exact absurd rfl hρ
    · rfl
    · rfl]
  have version : ∀ ρ x, ρ ≠ Role.staged → recipes[r].runOf ρ = some x → x.version ≠ run.version := by
    rintro (_ | _ | _) x hρ hx
    · exact absurd rfl hρ
    · obtain ⟨v, hv, rfl⟩ := Option.map_eq_some_iff.mp hx; exact notLive v hv
    · obtain ⟨v, hv, rfl⟩ := Option.map_eq_some_iff.mp hx; exact notDraining v hv
  /- A record of the run is FREE, or the old staged version owns it. -/
  have claim : ∀ k, run.has k → ownersOf steps k = none ∨
      ∃ old, recipes[r].staged = some old ∧ old.has k := by
    intro k hk
    have := claimable k hk.1 hk.2
    unfold StepRec.claimable at this
    cases owner : steps[k].owner with
    | none => exact .inl owner
    | some o =>
      rw [owner] at this
      simp only [Bool.and_eq_true, beq_iff_eq] at this
      obtain ⟨recipe, staged⟩ := this
      obtain ⟨q, old, named, held, -, inside⟩ := (h.1 k o).mp owner
      have : q = r := Option.some.inj (named.symm.trans (recipeOf_eq_some_iff.mpr recipe))
      subst this
      rw [staged] at held
      exact .inr ⟨old, held, inside⟩
  cases staged : recipes[r].staged with
  | none =>
    refine h.add staged fits (fun ρ x hx => ?_) (fun k hk => ?_) (fun _ hk => ?_) fun _ hk => ?_
    · refine version ρ x ?_ hx
      rintro rfl
      exact absurd (hx.symm.trans staged) (by simp)
    · rcases claim k hk with free | ⟨old, held, -⟩
      · exact free
      · rw [staged] at held; cases held
    · exact ownersOf_modRun_inside hk
    · exact ownersOf_modRun_outside hk
  | some old =>
    have left := h.remove (r := r) (role := .staged) (run := old)
      (own' := fun k => if old.has k then none else ownersOf steps k) staged
      (fun k hk => if_pos hk) (fun k hk => if_neg hk)
    have := left.add (run := run) (role := .staged)
      (own' := ownersOf (modRun (freeOutside steps old run) run (StepRec.claimed (r.val + 1) run.version)))
      (withRun_self ..) fits (fun ρ x hx => ?_) (fun k hk => ?_) (fun _ hk => ownersOf_modRun_inside hk)
      (fun k hk => ?_)
    · rw [withRun_withRun] at this; exact this
    · have hρ : ρ ≠ Role.staged := by rintro rfl; simp at hx
      rw [withRun_other fun e => hρ e.2] at hx
      exact version ρ x hρ hx
    · rcases claim k hk with free | ⟨x, held, inside⟩
      · simp [free]
      · rw [staged] at held
        cases held
        exact if_pos inside
    · rw [ownersOf_modRun_outside hk, ownersOf, freeOutside_get]
      by_cases inOld : old.has k
      · rw [if_pos ⟨inOld, hk⟩, if_pos inOld]; rfl
      · rw [if_neg fun e => inOld e.1, if_neg inOld]; rfl

end Ledger

open Ledger

theorem runOf_live {e : RecipeEntry} {v : LiveVersion} (h : e.live = some v) : e.runOf .live = some v.run := by
  simp [RecipeEntry.runOf, h]

theorem runOf_draining {e : RecipeEntry} {v : DrainVersion} (h : e.draining = some v) :
    e.runOf .draining = some v.run := by
  simp [RecipeEntry.runOf, h]

/-- A request of the two tables keeps the laws of records and user counts, and the records of running cooks. -/
theorem TableStep.keeps {l : Ledger} {recipes : Vector RecipeEntry 512} {steps : Vector StepRec 768}
    (change : TableStep l.recipes l.steps recipes steps) (h : l.Recipes) :
    (l.setTables recipes steps).Recipes ∧ l.Keeps (l.setTables recipes steps) := by
  /- Records outside the freed ones stay; the freed ones no running cook has. -/
  have freed : ∀ {r : Fin 512} {role : Role} {run : Run}, l.recipes[r].runOf role = some run →
      role = .staged ∨ l.users r run.version = 0 → ∀ e,
      l.Keeps (l.setTables (l.recipes.set r e) (modRun l.steps run StepRec.freed)) := by
    intro r role run held unused e i active
    refine ⟨rfl, fun k hk => ?_⟩
    have outside := h.free_of_unused held unused active hk
    simp only [setTables, modRun_get, if_neg outside, and_self]
  cases change with
  | masks r d m =>
    refine ⟨h.setTables_set ?_ (h.counts r) (fun i role _ _ live held => ⟨role, live, ?_⟩), .refl⟩
    · rw [ownersAgree_iff, runsOf_set_same fun role => by cases role <;> rfl]
      exact h.owners
    · cases role <;> exact held
  | write k p unused =>
    refine ⟨⟨?_, h.image, h.counts, h.cooks, h.clearing⟩, fun i active => ⟨rfl, fun j hj => ?_⟩⟩
    · rw [ownersAgree_iff]
      simp only [setTables, ownersOf_set_write]
      exact h.owners
    · have other : j ≠ k := by
        rintro rfl
        obtain ⟨role, live, owner⟩ := h.owner_of_cook active hj
        have used : l.steps[j].inUse = true := by rw [StepRec.inUse, owner]; simpa using live
        exact absurd (used.symm.trans unused) (by decide)
      simp [setTables, Fin.val_ne_of_ne (Ne.symm other)]
  | stage r run fits notLive notDraining claimable =>
    refine ⟨h.setTables_set (ownersAgree_stage h.owners fits notLive notDraining claimable) (h.counts r)
      (fun i role _ _ live held => ⟨role, live, ?_⟩), fun i active => ⟨rfl, fun k hk => ?_⟩⟩
    · cases role
      · exact absurd rfl live
      · exact held
      · exact held
    · have kept : ((l.recipes[r].staged.map fun old => freeOutside l.steps old run).getD l.steps)[k] =
          l.steps[k] := by
        cases staged : l.recipes[r].staged with
        | none => rfl
        | some old =>
          have outside := h.free_of_unused (role := .staged) staged (.inl rfl) active hk
          show (freeOutside l.steps old run)[k] = _
          rw [freeOutside_get, if_neg fun e => outside e.1]
      simp only [setTables, modRun_get, kept]
      split <;> exact ⟨rfl, rfl⟩
  | unstage r run held =>
    refine ⟨h.setTables_set (ownersAgree_free (role := .staged) h.owners held rfl fun ρ hρ => ?_) (h.counts r)
      (fun i role _ _ live held => ⟨role, live, ?_⟩), freed (role := .staged) held (.inl rfl) _⟩
    · cases ρ
      · exact absurd rfl hρ
      · rfl
      · rfl
    · cases role
      · exact absurd rfl live
      · exact held
      · exact held
  | drain r v held used single =>
    have place : l.recipes[r].runOf .draining = none := Option.map_eq_none_iff.mpr single
    refine ⟨h.setTables_set (ownersAgree_move (role := .live) (σ := .draining) h.owners (runOf_live held) place
      rfl rfl fun ρ hl hd => ?_) ⟨?_, ?_⟩ (fun i role _ _ live run => ⟨.draining, by decide, ?_⟩),
      fun i active => ⟨rfl, fun k hk => ?_⟩⟩
    · cases ρ
      · rfl
      · exact absurd rfl hl
      · exact absurd rfl hd
    · rintro x hx; cases hx
    · rintro x hx; cases hx; exact ⟨(h.counts r).1 v held, used⟩
    · cases role
      · exact absurd rfl live
      · exact (runOf_live held).symm.trans run
      · rw [place] at run; cases run
    · simp only [setTables, modRun_get]
      split <;> exact ⟨rfl, rfl⟩
  | withdraw r v held unused =>
    have none : l.users r v.run.version = 0 := ((h.counts r).1 v held).symm.trans unused
    refine ⟨h.setTables_set (ownersAgree_free (role := .live) h.owners (runOf_live held) rfl fun ρ hρ => ?_)
      ⟨?_, (h.counts r).2⟩ (fun i role active recipe live run => ?_),
      freed (role := .live) (runOf_live held) (.inr none) _⟩
    · cases ρ
      · rfl
      · exact absurd rfl hρ
      · rfl
    · rintro x hx; cases hx
    · cases role
      · exact absurd rfl live
      · have same := (runOf_live held).symm.trans run
        have uses : (l.cook i).uses r v.run.version = true :=
          CookRun.uses_iff.mpr ⟨active, recipe, by rw [Option.some.inj same]; rfl⟩
        exact absurd (users_pos uses) (by omega)
      · exact ⟨.draining, by decide, run⟩
  | live r run needs held place =>
    have place' : l.recipes[r].runOf .live = none := Option.map_eq_none_iff.mpr place
    have unused : l.users r run.version = 0 := by
      refine users_eq_zero fun i uses => ?_
      obtain ⟨active, recipe, version⟩ := CookRun.uses_iff.mp uses
      obtain ⟨role, live, hr⟩ := h.cook_held active recipe
      exact live (h.distinct (b := .staged) hr held version)
    refine ⟨h.setTables_set (ownersAgree_move (role := .staged) (σ := .live) h.owners held place' rfl rfl
      fun ρ hs hl => ?_) ⟨?_, (h.counts r).2⟩ (fun i role _ _ live hr => ?_),
      fun i active => ⟨rfl, fun k hk => ?_⟩⟩
    · cases ρ
      · exact absurd rfl hs
      · exact absurd rfl hl
      · rfl
    · rintro x hx; cases hx; exact unused.symm
    · cases role
      · exact absurd rfl live
      · rw [place'] at hr; cases hr
      · exact ⟨.draining, by decide, hr⟩
    · simp only [setTables, modRun_get]
      split <;> exact ⟨rfl, rfl⟩

end Sys2Proof.Machine
end

section
/-! PROOFS. Every step keeps step records owned, users counted, and the records of running cooks (R21, R33). -/

namespace Sys2Proof.Machine

open Ledger

section
variable {l l' : Ledger}

/-! ### Cooks that end and begin -/

/-- The cook of one oven is IDLE now. -/
def CookRun.ended (c : CookRun) : CookRun := { c with active := false }

@[simp] theorem CookRun.ended_uses (c : CookRun) (r : Fin 512) (n : Nat) : c.ended.uses r n = false := rfl

/-- The end of a cook takes it from the count of its own version alone. -/
theorem users_ended {i : OvenId} (h : l'.cook = Function.update l.cook i (l.cook i).ended) (r : Fin 512)
    (n : Nat) : l'.users r n + (if (l.cook i).uses r n = true then 1 else 0) = l.users r n := by
  simpa using users_update h r n

theorem users_ended_other {i : OvenId} (h : l'.cook = Function.update l.cook i (l.cook i).ended)
    {r : Fin 512} {n : Nat} (none : (l.cook i).uses r n = false) : l'.users r n = l.users r n := by
  simpa [none] using users_ended h r n

/-- A cook active after another one ended was the same before. -/
theorem cook_of_active_ended {i j : OvenId} (h : l'.cook = Function.update l.cook i (l.cook i).ended)
    (active : (l'.cook j).active = true) : j ≠ i ∧ l'.cook j = l.cook j := by
  have other : j ≠ i := by
    rintro rfl
    rw [h, Function.update_self] at active
    cases active
  exact ⟨other, by rw [h, Function.update_of_ne other]⟩

/-- The ledger after a cook has ended. -/
def Ledger.endCook (l : Ledger) (i : OvenId) (recipes : Vector RecipeEntry 512)
    (steps : Vector StepRec 768) : Ledger :=
  ((l.setTables recipes steps).setJob i (l.jobWithout i .cooking)).setCook i (l.cook i).ended

theorem Ledger.endCook_cook (l : Ledger) (i : OvenId) (recipes : Vector RecipeEntry 512)
    (steps : Vector StepRec 768) :
    (l.endCook i recipes steps).cook = Function.update l.cook i (l.cook i).ended := rfl

/-- The end of a cook changes the entry of its recipe; the other recipes' counts stay. -/
theorem Ledger.Recipes.endCook_set (h : l.Recipes) {i : OvenId} {r : Fin 512} {e : RecipeEntry}
    {steps : Vector StepRec 768} (named : recipeOf (l.cook i).recipe = some r)
    (owners : OwnersAgree (l.recipes.set r e) steps)
    (counts : (l.endCook i (l.recipes.set r e) steps).Counted r e)
    (cooks : ∀ j role, j ≠ i → (l.cook j).active = true → (l.cook j).recipe = r.val + 1 →
      role ≠ Role.staged → l.recipes[r].runOf role = some (l.cook j).run →
        ∃ ρ, ρ ≠ Role.staged ∧ e.runOf ρ = some (l.cook j).run) :
    (l.endCook i (l.recipes.set r e) steps).Recipes := by
  have cook := l.endCook_cook i (l.recipes.set r e) steps
  refine h.change rfl ?_ rfl owners (fun q n hq => users_ended_other cook ?_) counts ?_ ?_
  · intro clears j
    by_cases active : ((l.endCook i (l.recipes.set r e) steps).cook j).active = true
    · have := (cook_of_active_ended cook active).2
      exact (congrArg CookRun.active this).trans (h.clearing clears j)
    · simpa using active
  · by_cases uses : (l.cook i).uses q n = true
    · obtain ⟨-, recipe, -⟩ := CookRun.uses_iff.mp uses
      exact absurd (Option.some.inj ((recipeOf_eq_some_iff.mpr recipe).symm.trans named)) hq
    · simpa using uses
  · exact fun j active _ => (cook_of_active_ended cook active).2.symm
  · intro j active recipe
    obtain ⟨other, same⟩ := cook_of_active_ended cook active
    rw [same] at active recipe ⊢
    obtain ⟨role, live, held⟩ := h.cook_held active recipe
    exact cooks j role other active recipe live held

/-- The runs of a recipe stay while user counts change. -/
theorem ownersAgree_users {recipes : Vector RecipeEntry 512} {steps : Vector StepRec 768} {r : Fin 512}
    {e : RecipeEntry} (h : OwnersAgree recipes steps) (same : ∀ role, e.runOf role = recipes[r].runOf role) :
    OwnersAgree (recipes.set r e) steps := by
  rw [ownersAgree_iff, runsOf_set_same same]; exact h

/-- The end of a cook keeps the laws, and the records of the cooks that run on. -/
theorem DropsUser.keeps {i : OvenId} {recipes : Vector RecipeEntry 512} {steps : Vector StepRec 768}
    (drops : DropsUser l.recipes l.steps (l.cook i).recipe (l.cook i).version recipes steps)
    (active : (l.cook i).active = true) (h : l.Recipes) :
    (l.endCook i recipes steps).Recipes ∧ l.Keeps (l.endCook i recipes steps) := by
  have cook := l.endCook_cook i recipes steps
  /- The version the cook ran loses one, another version of the recipe none. -/
  have own : ∀ {r}, recipeOf (l.cook i).recipe = some r → ∀ {n}, n = (l.cook i).version →
      (l.endCook i recipes steps).users r n + 1 = l.users r n := by
    intro r named n version
    have uses : (l.cook i).uses r n = true :=
      CookRun.uses_iff.mpr ⟨active, recipeOf_eq_some_iff.mp named, version.symm⟩
    simpa [uses] using users_ended cook r n
  have other : ∀ {r n}, n ≠ (l.cook i).version → (l.endCook i recipes steps).users r n = l.users r n := by
    intro r n version
    refine users_ended_other cook ?_
    by_cases uses : (l.cook i).uses r n = true
    · exact absurd (CookRun.uses_iff.mp uses).2.2.symm version
    · simpa using uses
  cases drops with
  | live r v named held number =>
    have runs : ∀ role, RecipeEntry.runOf
        { l.recipes[r] with live := some { v with users := v.users - 1 } } role = l.recipes[r].runOf role := by
      intro role
      cases role
      · rfl
      · exact (runOf_live held).symm
      · rfl
    refine ⟨h.endCook_set named (ownersAgree_users h.owners runs) ⟨?_, ?_⟩
      (fun j role _ _ _ live run => ⟨role, live, (runs role).trans run⟩), fun j hj => ?_⟩
    · rintro x hx
      cases hx
      exact Nat.sub_eq_of_eq_add (((h.counts r).1 v held).trans (own named number).symm)
    · intro x hx
      obtain ⟨count, used⟩ := (h.counts r).2 x hx
      refine ⟨count.trans (other fun e => ?_).symm, used⟩
      exact absurd (h.distinct (runOf_draining hx) (runOf_live held) (e.trans number.symm)) (by decide)
    · exact ⟨(cook_of_active_ended cook hj).2.symm, fun _ _ => ⟨rfl, rfl⟩⟩
  | drains r v named notLive held number others =>
    have runs : ∀ role, RecipeEntry.runOf
        { l.recipes[r] with draining := some { v with users := v.users - 1 } } role =
          l.recipes[r].runOf role := by
      intro role
      cases role
      · rfl
      · rfl
      · exact (runOf_draining held).symm
    refine ⟨h.endCook_set named (ownersAgree_users h.owners runs) ⟨?_, ?_⟩
      (fun j role _ _ _ live run => ⟨role, live, (runs role).trans run⟩), fun j hj => ?_⟩
    · intro x hx
      exact ((h.counts r).1 x hx).trans (other (notLive x hx)).symm
    · rintro x hx
      cases hx
      exact ⟨Nat.sub_eq_of_eq_add (((h.counts r).2 v held).1.trans (own named number).symm),
        Nat.sub_pos_of_lt others⟩
    · exact ⟨(cook_of_active_ended cook hj).2.symm, fun _ _ => ⟨rfl, rfl⟩⟩
  | frees r v named notLive held number last =>
    obtain ⟨count, used⟩ := (h.counts r).2 v held
    have none := own named number
    /- It was the last: no other cook runs the draining version. -/
    have unused : ∀ j, j ≠ i → ¬ (l.cook j).uses r v.run.version = true := by
      intro j hj uses
      have same := congrFun cook j
      rw [Function.update_of_ne hj] at same
      exact absurd (users_pos (same ▸ uses)) (by omega)
    refine ⟨h.endCook_set named (ownersAgree_free (role := .draining) h.owners (runOf_draining held) rfl ?_)
      ⟨?_, ?_⟩ (fun j role hj activeJ recipe live run => ?_), fun j hj => ?_⟩
    · intro ρ hρ
      cases ρ
      · rfl
      · rfl
      · exact absurd rfl hρ
    · intro x hx
      exact ((h.counts r).1 x hx).trans (other (notLive x hx)).symm
    · rintro x hx; cases hx
    · cases role
      · exact absurd rfl live
      · exact ⟨.live, by decide, run⟩
      · have same := (runOf_draining held).symm.trans run
        exact absurd (CookRun.uses_iff.mpr ⟨activeJ, recipe, by rw [Option.some.inj same]; rfl⟩) (unused j hj)
    · obtain ⟨otherOven, same⟩ := cook_of_active_ended cook hj
      refine ⟨same.symm, fun k hk => ?_⟩
      have outside : ¬ v.run.has k := fun inside =>
        unused j otherOven (h.cook_of_owner (same ▸ hj) hk (runOf_draining held) inside).2
      simp only [endCook, setCook, setJob, setTables, modRun_get, if_neg outside, and_self]
  | unknown none =>
    obtain ⟨r, role, named, live, held⟩ := h.cooks i active
    obtain ⟨notLive, notDraining⟩ := none r named
    cases role
    · exact absurd rfl live
    · obtain ⟨x, hx, run⟩ := Option.map_eq_some_iff.mp held
      exact absurd (by rw [run]; rfl) (notLive x hx)
    · obtain ⟨x, hx, run⟩ := Option.map_eq_some_iff.mp held
      exact absurd (by rw [run]; rfl) (notDraining x hx)

/-- The begin of a cook adds it to the live version's count (R33, R47). -/
theorem Ledger.Starts.recipes (start : l.Starts l') (h : l.Recipes) (jobs : l.Occupied) : l'.Recipes := by
  obtain ⟨i, r, v, -, free, clear, held, rfl⟩ := start
  have idle : (l.cook i).active = false := by
    have := (jobs i).1
    rw [free] at this
    simpa using this
  have cook : (l.startCook i r v).cook = Function.update l.cook i
      { active := true, recipe := r.val + 1, version := v.run.version, first := v.run.first,
        count := v.run.count } := rfl
  /- The oven cooked nothing before. -/
  have users : ∀ q n, (l.startCook i r v).users q n =
      l.users q n + if q = r ∧ n = v.run.version then 1 else 0 := by
    intro q n
    have := users_update cook q n
    have none : (l.cook i).uses q n = false := by simp [CookRun.uses, idle]
    have own : (CookRun.mk true (r.val + 1) v.run.version v.run.first v.run.count).uses q n = true ↔
        q = r ∧ n = v.run.version := by
      rw [CookRun.uses_iff]
      simp only [true_and, Fin.ext_iff]
      omega
    simpa [none, own] using this
  have runs : ∀ role, RecipeEntry.runOf
      { l.recipes[r] with live := some { v with users := v.users + 1 } } role = l.recipes[r].runOf role := by
    intro role
    cases role
    · rfl
    · exact (runOf_live held).symm
    · rfl
  have others : ∀ j, j ≠ i → (l.startCook i r v).cook j = l.cook j := fun j hj => by
    rw [cook, Function.update_of_ne hj]
  refine h.change rfl (fun clears => absurd (clears.symm.trans clear) (by decide)) rfl
    (ownersAgree_users h.owners runs) (fun q n hq => by simp [users, hq]) ⟨?_, ?_⟩ ?_ ?_
  · rintro x hx
    cases hx
    have := (h.counts r).1 v held
    simp [users, this]
  · intro x hx
    obtain ⟨count, used⟩ := (h.counts r).2 x hx
    have : x.run.version ≠ v.run.version := fun e =>
      absurd (h.distinct (runOf_draining hx) (runOf_live held) e) (by decide)
    exact ⟨by simp [users, this, count], used⟩
  · intro j _ recipe
    by_cases hj : j = i
    · subst hj
      rw [cook, Function.update_self] at recipe
      exact absurd rfl recipe
    · exact (others j hj).symm
  · intro j active recipe
    by_cases hj : j = i
    · subst hj
      refine ⟨.live, by decide, ?_⟩
      rw [cook, Function.update_self]
      rfl
    · rw [others j hj] at active recipe ⊢
      obtain ⟨role, live, run⟩ := h.cook_held active recipe
      exact ⟨role, live, (runs role).trans run⟩

/-! ### The saved image (R39, R165) -/

/-- What a SAVE writes and a restore gives back of the tables: everything but the draining versions. -/
theorem ownersAgree_saved {recipes : Vector RecipeEntry 512} {steps : Vector StepRec 768}
    (h : OwnersAgree recipes steps) : OwnersAgree ((recipes.map RecipeEntry.saved).map SavedRecipe.entry)
      ((steps.map StepRec.saved).map fun x => x.getD StepRec.blank) := by
  refine Tenancy.restrict (ownersAgree_iff.mp h) (· ≠ .draining) (fun r ρ x => ?_) fun k o => ?_
  · have entry : ((recipes.map RecipeEntry.saved).map SavedRecipe.entry)[r] = recipes[r].saved.entry := by
      simp
    rw [entry, runsOf]
    cases ρ
    · simp [RecipeEntry.runOf, RecipeEntry.saved, SavedRecipe.entry]
    · simp [RecipeEntry.runOf, RecipeEntry.saved, SavedRecipe.entry, Function.comp_def]
    · simp [RecipeEntry.runOf, RecipeEntry.saved, SavedRecipe.entry]
  · have record : ((steps.map StepRec.saved).map fun x => x.getD StepRec.blank)[k] =
        steps[k].saved.getD StepRec.blank := by simp
    rw [record, ownersOf]
    unfold StepRec.saved
    cases owner : steps[k].owner with
    | none => simp [StepRec.blank]
    | some a =>
      by_cases role : a.role = .draining
      · simp only [role, if_true, Option.getD_none, StepRec.blank, reduceCtorEq, false_iff,
          Option.some.injEq, not_and, not_not]
        rintro rfl
        exact role
      · simp only [role, if_false, Option.getD_some, owner, Option.some.injEq]
        exact ⟨fun e => ⟨e, e ▸ role⟩, And.left⟩

/-- Empty tables: no version, no owner. -/
theorem ownersAgree_reset : OwnersAgree (Vector.replicate 512 RecipeEntry.reset)
    (Vector.replicate 768 StepRec.blank) := by
  have none : ∀ r role, runsOf (Vector.replicate 512 RecipeEntry.reset) r role = none := by
    intro r role
    cases role <;> simp [runsOf, RecipeEntry.reset, RecipeEntry.runOf]
  rw [ownersAgree_iff]
  refine ⟨fun k o => ?_, fun r ρ x hx => ?_, fun r a b x y hx => ?_⟩
  · simp [none, ownersOf, StepRec.blank]
  · rw [none] at hx; cases hx
  · rw [none] at hx; cases hx

theorem counted_reset (r : Fin 512) : l.Counted r RecipeEntry.reset :=
  ⟨fun _ h => (nomatch h), fun _ h => (nomatch h)⟩

/-! ### Every entry -/

/-- Without a running cook the cook clauses hold of themselves. -/
theorem Ledger.Recipes.of_idle (idle : ∀ i, (l.cook i).active = false) (owners : OwnersAgree l.recipes l.steps)
    (image : ∀ m, l.image = some m → OwnersAgree (m.content.recipes.map SavedRecipe.entry)
      (m.content.steps.map fun x => x.getD StepRec.blank)) (counts : ∀ r, l.Counted r l.recipes[r]) :
    l.Recipes where
  owners := owners
  image := image
  counts := counts
  cooks i active := absurd (active.symm.trans (idle i)) (by decide)
  clearing _ := idle

theorem Ledger.Keeps.of_idle (idle : ∀ i, (l'.cook i).active = false) : l.Keeps l' :=
  fun i active => absurd (active.symm.trans (idle i)) (by decide)

/-- Every entry keeps the laws of records and user counts, and the records of running cooks. -/
theorem Entry.recipes (e : Entry l l') (jobs : l.Occupied) (h : l.Recipes) : l'.Recipes ∧ l.Keeps l' := by
  /- During the restore no cook runs. -/
  have resting : l.phase = .restoring → ∀ i, (l.cook i).active = false := by
    intro hp i
    obtain ⟨cook, -, rest⟩ := jobs i
    rw [rest hp] at cook
    simpa using cook
  /- An entry that leaves tables, image, cooks and TABLE_CLEAR. -/
  have same : ∀ {m : Ledger}, m.recipes = l.recipes → m.steps = l.steps → m.image = l.image →
      m.cook = l.cook → m.clearing = l.clearing → m.Recipes ∧ l.Keeps m := by
    intro m hr hs hi hc hl
    refine ⟨⟨?_, ?_, ?_, ?_, ?_⟩, fun i _ => ⟨by rw [hc], fun k _ => by rw [hs]; exact ⟨rfl, rfl⟩⟩⟩
    · rw [hr, hs]; exact h.owners
    · rw [hi]; exact h.image
    · simpa only [Counted, users, hr, hc] using h.counts
    · rw [hr, hc]; exact h.cooks
    · rw [hl, hc]; exact h.clearing
  cases e with
  | watched => exact same rfl rfl rfl rfl rfl
  | announce => exact same rfl rfl rfl rfl rfl
  | commission => exact same rfl rfl rfl rfl rfl
  | activate => exact same rfl rfl rfl rfl rfl
  | mismatch => exact same rfl rfl rfl rfl rfl
  | settings => exact same rfl rfl rfl rfl rfl
  | service => exact same rfl rfl rfl rfl rfl
  | retire => exact same rfl rfl rfl rfl rfl
  | beginApply => exact same rfl rfl rfl rfl rfl
  | endApply => exact same rfl rfl rfl rfl rfl
  | endCook i recipes steps active drops => exact drops.keeps active h
  | tables recipes steps change => exact change.keeps h
  | clearBegins idle => exact ⟨⟨h.owners, h.image, h.counts, h.cooks, fun _ => idle⟩, .refl⟩
  | clearEnds clears =>
    have idle := h.clearing clears
    refine ⟨.of_idle idle ownersAgree_reset h.image fun r => ?_, .of_idle idle⟩
    simp only [setClearing, setTables, Fin.getElem_fin, Vector.getElem_replicate]
    exact counted_reset r
  | save m _ recipes steps =>
    refine ⟨⟨h.owners, fun n hn => ?_, h.counts, h.cooks, h.clearing⟩, .refl⟩
    cases hn
    rw [recipes, steps]
    exact ownersAgree_saved h.owners
  | saved m n old content =>
    refine ⟨⟨h.owners, fun x hx => ?_, h.counts, h.cooks, h.clearing⟩, .refl⟩
    cases hx
    rw [content]
    exact h.image m old
  | restart =>
    have idle : ∀ i, (l.restarted.cook i).active = false := fun i => by
      simp [restarted, State.book, State.reset, State.cook, CookCtx.reset, CookCtx.held]
    refine ⟨.of_idle idle ownersAgree_reset h.image fun r => ?_, .of_idle idle⟩
    simp only [restarted, State.book, State.reset, Fin.getElem_fin, Vector.getElem_replicate]
    exact counted_reset r
  | ready => exact same rfl rfl rfl rfl rfl
  | restore m old image =>
    have idle := resting old
    refine ⟨.of_idle idle (h.image m image) h.image fun r => ⟨fun v hv => ?_, fun v hv => ?_⟩, .of_idle idle⟩
    · have unused : v.users = 0 := by
        simp only [restored, Fin.getElem_fin, Vector.getElem_map, SavedRecipe.entry,
          Option.map_eq_some_iff] at hv
        obtain ⟨x, -, rfl⟩ := hv
        rfl
      rw [unused]
      exact (users_eq_zero fun i uses => by
        have := (CookRun.uses_iff.mp uses).1
        exact absurd (this.symm.trans (idle i)) (by decide)).symm
    · simp [restored, SavedRecipe.entry] at hv

end

/-! ### Every step -/

theorem recipeLaw_iff (s : State) : RecipeLaw s ↔ s.book.ledger.Recipes := by
  have cooking : ∀ i, (s.cook i).held.active = true ↔ (s.cook i).state ≠ .idle := by simp [CookCtx.held]
  have idle : ∀ i, (s.cook i).held.active = false ↔ (s.cook i).state = .idle := by simp [CookCtx.held]
  constructor
  · rintro ⟨owners, image, live, draining, cooks, clearing⟩
    exact ⟨owners, image, fun r => ⟨live r, draining r⟩, fun i active => cooks i ((cooking i).mp active),
      fun clears i => (idle i).mpr (clearing clears i)⟩
  · rintro ⟨owners, image, counts, cooks, clearing⟩
    exact ⟨owners, image, fun r => (counts r).1, fun r => (counts r).2,
      fun i active => cooks i ((cooking i).mpr active), fun clears i => (idle i).mp (clearing clears i)⟩

/-- Entries one after the other keep the laws, and the records of running cooks. -/
theorem entries_recipes {l l' : Ledger} (h : Relation.ReflTransGen Entry l l') (jobs : l.Occupied)
    (law : l.Recipes) : l'.Occupied ∧ l'.Recipes ∧ l.Keeps l' := by
  induction h with
  | refl => exact ⟨jobs, law, .refl⟩
  | tail _ e ih =>
    obtain ⟨jobs, law, keeps⟩ := ih
    obtain ⟨law', keeps'⟩ := e.recipes jobs law
    exact ⟨e.occupied jobs, law', keeps.trans keeps'⟩

/-- An event keeps the laws of records and user counts; the records of a cook that runs after it stay. -/
theorem Book.Follows.recipes {b b' : Book} (h : b.Follows b') (jobs : b.ledger.Occupied)
    (law : b.ledger.Recipes) : b'.ledger.Recipes ∧ ∀ i k, (b'.ledger.cook i).active = true →
      (b'.ledger.cook i).run.has k → b'.ledger.steps[k].params = b.ledger.steps[k].params ∧
        b'.ledger.steps[k].written = b.ledger.steps[k].written := by
  rcases h.entries with chain | ⟨m, chain, steps, start⟩
  · obtain ⟨-, law', keeps⟩ := entries_recipes chain jobs law
    refine ⟨law', fun i k active hk => ?_⟩
    obtain ⟨same, records⟩ := keeps i active
    exact records k (same ▸ hk)
  · obtain ⟨jobs', law', -⟩ := entries_recipes chain jobs law
    have steps' : b'.ledger.steps = b.ledger.steps := by
      obtain ⟨i, r, v, -, -, -, -, same⟩ := start
      rw [same]
      exact steps
    exact ⟨start.recipes law' jobs', fun i k _ _ => by rw [steps']; exact ⟨rfl, rfl⟩⟩

/-- Settles O57: an oven's job, its slot and its wait entry change together move by move; a version's records are
freed only when its last cook has ended, and only records no cook runs are written. -/
theorem occupancyAndCleaningLawsKept : Obligations.OccupancyAndCleaningLawsKept := by
  intro s t h
  refine ⟨occupancyLaw_kept h, cleaningLaw_kept h, fun occupancy recipe => ?_⟩
  rw [recipeLaw_iff] at recipe ⊢
  obtain ⟨law, records⟩ := (step_follows h).recipes ((occupancyLaw_iff s).mp occupancy).1 recipe
  refine ⟨law, fun i k active lo hi => ?_⟩
  by_cases inside : k < 768
  · have := records i ⟨k, inside⟩ (by simpa [State.book, CookCtx.held] using active) ⟨lo, hi⟩
    simpa [State.stepRec, inside, State.book] using this
  · simp [State.stepRec, inside]

end Sys2Proof.Machine
end

section
/-! PROOFS. Resets, OVEN_SET and WATCH_RELOAD; the way of a CONTROL request to its REPLY. -/

namespace Sys2Proof.Machine

variable {s : State} {f : StoreFrame} {i : OvenId}

/-! ### The way of a CONTROL request to its REPLY (R157, R158) -/

/-- A request that passes the common checks has its effect, and its REPLY is offered last. -/
theorem control_replies {g : Gate} {act : State → Answered} {u : State} {a : Reply}
    (h : Requested s f g.code g.lengths) (short : ∀ n ∈ g.lengths, n ≤ maxPayload)
    (saving : g.saved = true → s.saving = none) (taken : g.clear = .taken)
    (done : act (s.fromGateway f) = { after := u, reply := some a }) : s.control g f act = u.replies f a := by
  obtain ⟨ready, noReset, part, code, len, allowed⟩ := h
  rw [control_pass g act ready noReset part code len allowed (short _ allowed) saving
    (fun other => absurd taken other), done]
  rfl

theorem ovenOf_none {n : Nat} (h : n = 0 ∨ 16 < n) : ovenOf n = none := by
  unfold ovenOf
  rw [dif_neg (by omega)]

theorem forAddress_some {act : OvenId → Answered} (h : ovenOf (byteAt f.payload 0) = some i) :
    s.forAddress f act = act i := by
  rw [State.forAddress, h]

theorem forAddress_none {act : OvenId → Answered} (h : NoOven f) :
    s.forAddress f act = s.says .badField := by
  rw [State.forAddress, ovenOf_none h]

/-! ### The resets (R164) -/

/-- The reset values are those of the state the model starts from. -/
theorem resetValues_reset : ResetValues State.reset := by
  refine ⟨fun i => ?_, fun i => ⟨?_, ?_, ?_, ?_, ?_, ?_⟩, fun r => ?_, fun k hk => ?_, ⟨rfl, rfl, rfl⟩,
    ⟨fun p => ?_, rfl, rfl, rfl, rfl, rfl, rfl⟩, ⟨rfl, rfl⟩, ⟨rfl, rfl, rfl, rfl, rfl⟩, rfl, ⟨rfl, rfl⟩,
    ⟨rfl, rfl, rfl, rfl⟩, ⟨fun k => ?_, fun k => ?_⟩, rfl⟩
  · simp [State.reset, State.oven, OvenEntry.reset, OvenCounters.reset]
  · simp [State.reset, State.watch]
  · simp [State.reset, State.cook]
  · simp [State.reset, State.slot, SlotState.reset]
  · simp [State.reset, State.cleanRecord, Cleaning.reset, CleanRecord.reset]
  · simp [State.reset, State.update]
  · simp [State.reset, CallTable.reset]
  · simp [State.reset, State.recipe, RecipeEntry.reset]
  · simp [State.reset, State.stepRec]
  · simp [State.reset, State.call, CallTable.reset]
  · simp [State.reset]
  · simp [State.reset]

/-- A reset gives every volatile field its reset value and records its cause (R164). -/
theorem restart_resetOf (s : State) (c : ResetCause) : ResetOf s (s.restart c) c :=
  ⟨resetValues_reset, rfl, rfl, rfl, rfl, rfl, rfl, rfl, rfl⟩

/-- Settles O4: both resets are `restart` with their cause. -/
theorem resetsLeaveResetValues : Obligations.ResetsLeaveResetValues :=
  ⟨resetValues_reset, fun s =>
    ⟨⟨_, rfl, restart_resetOf s .powerOn⟩, ⟨_, rfl, restart_resetOf s .pin⟩⟩⟩

/-! ### OVEN_SET (R16) and WATCH_RELOAD (R127) -/

/-- A given setting was clamped where the window is 0, the scale none of 1, 2, 4, 8, or the decimation above 60
(R14). -/
theorem settings_clamped (p : List Byte) (off : Nat) : (settings p off).2 =
    decide (byteAt p off = 0 ∨ clampScale (byteAt p (off + 1)) ≠ byteAt p (off + 1) ∨
      60 < byteAt p (off + 2)) := by
  simp only [settings, decide_eq_decide]
  refine or_congr ?_ (or_congr Iff.rfl ?_) <;> omega

theorem doOvenSet_done (h : RequestedFor s f 13 [4] i) (saving : s.saving = none) {r : CommRecord}
    (record : (s.oven i).record = some r) : doOvenSet f s =
      ((s.fromGateway f).modOven i fun e => e.withSettings r (settings f.payload 1).1).replies f
        { result := .done, clamped := (settings f.payload 1).2 } := by
  refine control_replies h.1 (by decide) (fun _ => saving) rfl ?_
  rw [forAddress_some h.2, show ((s.fromGateway f).oven i).record = some r from record]

theorem doOvenSet_state (h : RequestedFor s f 13 [4] i) (saving : s.saving = none)
    (record : (s.oven i).record = none) :
    doOvenSet f s = (s.fromGateway f).replies f { result := .state } := by
  refine control_replies h.1 (by decide) (fun _ => saving) rfl ?_
  rw [forAddress_some h.2, show ((s.fromGateway f).oven i).record = none from record]
  rfl

theorem doOvenSet_badField (h : Requested s f 13 [4]) (saving : s.saving = none) (none : NoOven f) :
    doOvenSet f s = (s.fromGateway f).replies f { result := .badField } :=
  control_replies h (by decide) (fun _ => saving) rfl (forAddress_none none)

theorem doWatchReload_done (h : RequestedFor s f 16 [1] i)
    (watched : (s.oven i).presence = .active ∨ (s.oven i).presence = .silent) {r : CommRecord} {w : Watch}
    (record : (s.oven i).record = some r) (watch : s.watch i = some w) : doWatchReload f s =
      ((s.fromGateway f).setWatch i (some (Watch.loaded r w.frozen))).replies f
        { result := .done, detail := r.window } := by
  refine control_replies h.1 (by decide) (fun saved => nomatch saved) rfl ?_
  have loaded : (s.fromGateway f).reloadWatch i =
      (s.fromGateway f).setWatch i (some (Watch.loaded r w.frozen)) := reloadWatch_loaded watch record
  rw [forAddress_some h.2]
  refine (if_pos watched).trans ?_
  rw [loaded]
  simp [State.says, Watch.loaded]

theorem doWatchReload_state (h : RequestedFor s f 16 [1] i) (active : (s.oven i).presence ≠ .active)
    (silent : (s.oven i).presence ≠ .silent) :
    doWatchReload f s = (s.fromGateway f).replies f { result := .state } := by
  refine control_replies h.1 (by decide) (fun saved => nomatch saved) rfl ?_
  rw [forAddress_some h.2]
  exact if_neg (not_or.mpr ⟨active, silent⟩)

theorem doWatchReload_badField (h : Requested s f 16 [1]) (none : NoOven f) :
    doWatchReload f s = (s.fromGateway f).replies f { result := .badField } :=
  control_replies h (by decide) (fun saved => nomatch saved) rfl (forAddress_none none)

/-- Settles O24. -/
theorem ovenSetAndWatchReload : Obligations.OvenSetAndWatchReload := by
  intro s f i a
  refine ⟨fun r h saving record => ?_, fun h saving record => congrArg _ (doOvenSet_state h saving record),
    fun r w h record watch watched => congrArg _ (doWatchReload_done h watched record watch),
    fun h active silent => congrArg _ (doWatchReload_state h active silent),
    fun h saving none => congrArg _ (doOvenSet_badField h saving none),
    fun h none => congrArg _ (doWatchReload_badField h none)⟩
  have done := doOvenSet_done h saving record
  rw [settings_clamped] at done
  exact congrArg _ done

end Sys2Proof.Machine
end

section
/-! PROOFS. The expiries of watch and acknowledgement timer, and the dispatch of upward frames. -/

namespace Sys2Proof.Machine

variable {s t : State} {i : OvenId}

/-! ### An occurrence that is not LOCKOUT touches the Call Table and the Upward Queue alone -/

/-- The Call Table and the Upward Queue may have changed, and nothing else. -/
def State.Tells (s t : State) : Prop := ∃ calls up, t = { s with calls := calls, up := up }

namespace State.Tells

protected theorem refl : s.Tells s := ⟨_, _, rfl⟩

protected theorem trans {u : State} (h : s.Tells t) (h' : t.Tells u) : s.Tells u := by
  obtain ⟨calls, up, rfl⟩ := h
  obtain ⟨calls', up', rfl⟩ := h'
  exact ⟨calls', up', rfl⟩

theorem cook (h : s.Tells t) (i : OvenId) : t.cook i = s.cook i := by
  obtain ⟨calls, up, rfl⟩ := h
  rfl

end State.Tells

theorem reportCall_tells (p : Fin 32) : s.Tells (s.reportCall p) := by
  unfold State.reportCall
  repeat' split
  all_goals exact ⟨_, _, rfl⟩

theorem buildService_tells : s.Tells s.buildService :=
  buildService_induct (fun t => s.Tells t) (fun _ p h _ _ => h.trans (reportCall_tells p)) .refl

theorem mergeCall_tells (p : Fin 32) : s.Tells (s.mergeCall p) := by
  unfold State.mergeCall
  split
  · exact ⟨_, _, rfl⟩
  · exact .refl

theorem createCall_tells (p : Fin 32) (sub : Option OvenId) (code : Nat) (sev : Severity) (kind : CallKind) :
    s.Tells (s.createCall p sub code sev kind) :=
  State.Tells.trans ⟨_, _, rfl⟩ buildService_tells

theorem raise_tells (sub : Option OvenId) (code : Nat) (sev : Severity) (kind : CallKind)
    (h : sev ≠ .lockout) : s.Tells (s.raise sub code sev kind) := by
  obtain ⟨p, c, -, -, merged⟩ | ⟨-, ⟨-, lost⟩ | ⟨p, -, -, -, created⟩ | ⟨p, hl, -⟩ | ⟨p, hl, -⟩ |
    ⟨hl, -⟩⟩ := raise_cases (s := s) sub code sev kind
  · exact merged ▸ mergeCall_tells p
  · exact lost ▸ ⟨_, _, rfl⟩
  · exact created ▸ createCall_tells p sub code sev kind
  all_goals exact absurd hl h

/-! ### Expiries (R52, R128) -/

/-- A thawed watch at 0 has run out: it reloads before the oven goes SILENT (R128). -/
theorem silenceWatchExpiry_due {w : Watch} {r : CommRecord} (watch : s.watch i = some w)
    (thawed : w.frozen = false) (out : w.counter = 0) (record : (s.oven i).record = some r) :
    doSilenceWatchExpiry i s =
      let a := s.setWatch i (some (Watch.loaded r false))
      State.stopCook ((if (s.oven i).presence = .active then a.setPresence i .silent .silence else a).raise
        (some i) codeSilent .major .condition) i .abortedSilent := by
  have due : s.watchDue i = true := by simp [State.watchDue, watch, thawed, out]
  rw [doSilenceWatchExpiry, if_pos due, State.watchExpires, reloadWatch_loaded watch record, thawed]
  rfl

/-- A SENT frame whose count has run out: the slot is emptied and STEP_NO_ACK raised before the cook's end
(R52). -/
theorem ackTimerExpiry_due {fr : SlotFrame} (slot : s.slot i = { slot := .sent fr, timer := some 0 }) :
    doAckTimerExpiry i s =
      ((s.setSlot i SlotState.reset).raise (some i) codeStepNoAck .major .condition).ackLost i := by
  have due : (s.slot i).ackDue = true := by simp [SlotState.ackDue, slot]
  rw [doAckTimerExpiry, if_pos due]

/-- Settles O12. -/
theorem watchAndAckExpiries : Obligations.WatchAndAckExpiries := by
  refine ⟨fun s i w r watch thawed out record => ⟨fun active => ?_, fun other => ?_⟩, fun s i fr slot => ?_⟩
  · have due := silenceWatchExpiry_due watch thawed out record
    simp only [active, if_true] at due
    exact congrArg _ due
  · have due := silenceWatchExpiry_due watch thawed out record
    simp only [other, if_false] at due
    exact congrArg _ due
  · intro a
    have due : doAckTimerExpiry i s = a.ackLost i := ackTimerExpiry_due slot
    have cook : a.cook i = s.cook i :=
      ((raise_tells (s := s.setSlot i SlotState.reset) (some i) codeStepNoAck .major .condition
        (by decide)).cook i)
    have run : exec (.ackTimerExpiry i) s = .next (a.ackLost i) := congrArg _ due
    rw [run]
    refine ⟨fun state => ?_, fun state => ?_, fun state => ?_⟩
    · have busy : (a.cook i).state ≠ .idle := by rw [cook]; rcases state with h | h <;> simp [h]
      rw [← stopCook_running _ busy]
      rcases state with h | h <;> simp [State.ackLost, cook, h]
    · simp [State.ackLost, cook, state]
    · rcases state with h | h <;> simp [State.ackLost, cook, h]

/-! ### What the book tells of an oven -/

/-- Presence, record, service flag and occupancy stay with the book. -/
theorem oven_of_book (h : t.book = s.book) (i : OvenId) : (t.oven i).presence = (s.oven i).presence ∧
    (t.oven i).record = (s.oven i).record ∧ (t.oven i).service = (s.oven i).service ∧
    (t.oven i).occupancy = (s.oven i).occupancy :=
  ⟨congrArg (fun b => b.ledger.presence i) h, congrArg (fun b => b.ledger.record i) h,
    congrArg (fun b => b.ledger.service i) h, congrArg (fun b => b.roster.occupancy i) h⟩

theorem phase_of_book (h : t.book = s.book) : t.phase = s.phase := congrArg (fun b => b.ledger.phase) h

/-- A watch stays with its frozen flag. -/
theorem watch_of_book (h : t.book = s.book) {x : Watch} (watch : s.watch i = some x) :
    ∃ y, t.watch i = some y ∧ y.frozen = x.frozen := by
  have frozen : (t.watch i).map (·.frozen) = some x.frozen :=
    (congrArg (fun b => b.ledger.frozen i) h).trans (congrArg (Option.map (·.frozen)) watch)
  exact Option.map_eq_some_iff.mp frozen

/-- A reload of an oven with a watch loads it from the record and keeps the frozen flag, whatever has happened to
the rest (R127). -/
theorem reloadWatch_of_book (h : t.book = s.book) {x : Watch} {r : CommRecord} (watch : s.watch i = some x)
    (record : (s.oven i).record = some r) :
    t.reloadWatch i = t.setWatch i (some (Watch.loaded r x.frozen)) := by
  obtain ⟨y, hy, frozen⟩ := watch_of_book h watch
  rw [reloadWatch_loaded hy ((oven_of_book h i).2.1.trans record), frozen]

/-! ### The way of an upward frame to its dispatch (R3, R135, R154) -/

theorem upwardLengths_short {cls : Byte} {tag : BitVec 16} {lo hi : Nat}
    (h : upwardLengths cls tag = some (lo, hi)) : hi ≤ maxPayload := by
  unfold upwardLengths at h
  split at h
  · cases h; decide
  split at h
  · split at h
    all_goals cases h
    all_goals decide
  · cases h

/-- A frame of an oven, its payload length in range, is dispatched after the restore. -/
theorem arriveUp_pass {cls : Byte} {tag : BitVec 16} {f : UpFrame} {lo hi : Nat}
    {act : OvenId → State → State} (ready : s.phase = .ready) (source : ovenOf f.oven.toNat = some i)
    (range : upwardLengths cls tag = some (lo, hi)) (least : lo ≤ f.payload.length)
    (greatest : f.payload.length ≤ hi) : s.arriveUp cls tag f act = act i s.wholeFrame := by
  have phase : s.wholeFrame.phase ≠ .restoring := by rw [phase_of_book s.wholeFrame_book, ready]; decide
  have short : ¬ maxPayload < f.payload.length := by have := upwardLengths_short range; omega
  simp only [State.arriveUp, if_neg phase, if_neg short, source, range, if_pos (And.intro least greatest)]

theorem dispatchUp_vacant {forward owner : State → State} (h : (s.oven i).presence = .vacant) :
    s.dispatchUp i forward owner = s.countUnknownSource := by simp [State.dispatchUp, h]

theorem dispatchUp_unheard {forward owner : State → State}
    (h : (s.oven i).presence = .announced ∨ (s.oven i).presence = .commissioned) :
    s.dispatchUp i forward owner = s.countRefused i := by
  rcases h with h | h <;> simp [State.dispatchUp, h]

theorem dispatchUp_silent {forward owner : State → State} (h : (s.oven i).presence = .silent) :
    s.dispatchUp i forward owner =
      owner (forward (((s.returnFromSilent i .return).reloadWatch i).countReceived i)) := by
  simp [State.dispatchUp, h]

/-- Every upward frame but a HELLO is dispatched by the presence of its source. -/
theorem exec_dispatchUp {c : Instr} {x : UpForm} (h : upForm c = some x) (notHello : ∀ f, c ≠ .hello f) :
    ∃ forward owner : OvenId → State → State, ∀ s, exec c s = .next
      (s.arriveUp x.cls x.tag x.frame fun i t => t.dispatchUp i (forward i) (owner i)) := by
  cases c with
  | sample tag f => cases h; exact ⟨_, _, fun s => rfl⟩
  | hello f => exact absurd rfl (notHello f)
  | stepAck f => cases h; exact ⟨_, _, fun s => rfl⟩
  | panelStart f => cases h; exact ⟨_, _, fun s => rfl⟩
  | panelStop f => cases h; exact ⟨_, _, fun s => rfl⟩
  | fault f => cases h; exact ⟨_, _, fun s => rfl⟩
  | faultClear f => cases h; exact ⟨_, _, fun s => rfl⟩
  | cleanPhase f => cases h; exact ⟨_, _, fun s => rfl⟩
  | cleanDone f => cases h; exact ⟨_, _, fun s => rfl⟩
  | updateStatus f => cases h; exact ⟨_, _, fun s => rfl⟩
  | serviceKey f => cases h; exact ⟨_, _, fun s => rfl⟩
  | ovenNote f => cases h; exact ⟨_, _, fun s => rfl⟩
  | _ => cases h

/-- The dispatch of an ACTIVE or SILENT oven does the same before the owner acts. -/
theorem dispatched_eq (s : State) (i : OvenId) :
    ((s.oven i).presence = .silent →
      s.dispatched i = ((s.wholeFrame.returnFromSilent i .return).reloadWatch i).countReceived i) ∧
    ((s.oven i).presence ≠ .silent → s.dispatched i = (s.wholeFrame.reloadWatch i).countReceived i) := by
  have presence := (oven_of_book s.wholeFrame_book i).1
  refine ⟨fun h => ?_, fun h => ?_⟩
  · rw [State.dispatched, State.returned, if_pos (presence.trans h)]
  · rw [State.dispatched, State.returned, if_neg (presence.symm ▸ h)]

theorem wholeFrame_of_hunt (h : s.lineRx.partialFrame = none) :
    s.wholeFrame = { s with lineRx := .hunt false } := by
  simp only [State.wholeFrame, State.lineGap, h]

/-- Settles O48: the common way of an upward frame, then its dispatch by presence. -/
theorem upwardDispatch : Obligations.UpwardDispatch := by
  refine ⟨fun s i cause => ⟨fun r x record watch => reloadWatch_loaded watch record, fun missing => ?_, rfl,
      dispatched_eq s i⟩, fun c x lo hi s i form notHello range least greatest ready source => ?_,
    fun s f i ready source short => ?_⟩
  · rcases missing with h | h
    · simp [State.reloadWatch, h]
    · exact reloadWatch_none h
  · obtain ⟨forward, owner, run⟩ := exec_dispatchUp form notHello
    have presence := (oven_of_book s.wholeFrame_book i).1
    rw [run s, arriveUp_pass ready source range least greatest]
    exact ⟨fun h => congrArg _ (dispatchUp_vacant (presence.trans h)),
      fun h => congrArg _ (dispatchUp_unheard (by rw [presence]; exact h))⟩
  · have range : upwardLengths clsNotice tagOvenNote = some (0, 64) := by decide
    have presence := (oven_of_book s.wholeFrame_book i).1
    have run : exec (.ovenNote f) s = .next (s.wholeFrame.dispatchUp i
        (fun u => u.offerForward i (upCopy f clsNotice tagOvenNote)) fun u => u) := by
      show Host.Outcome.next (doOvenNote f s) = _
      rw [doOvenNote, State.takeNotice, arriveUp_pass ready source range (Nat.zero_le _) short]
      rfl
    rw [run]
    refine ⟨fun h => congrArg _ (dispatchUp_vacant (presence.trans h)),
      fun h => congrArg _ (dispatchUp_unheard (by rw [presence]; exact h)), fun r x h record watch => ?_,
      fun h => congrArg _ (dispatchUp_silent (presence.trans h)), wholeFrame_of_hunt⟩
    rw [dispatchUp_active i _ _ (presence.trans h), reloadWatch_of_book s.wholeFrame_book watch record]
    rfl

end Sys2Proof.Machine
end

section
/-! PROOFS. The HELLO by presence and serial, and the reconciliation of a match. -/

namespace Sys2Proof.Machine

variable {s t : State} {i : OvenId} {a : Announced} {k : KFrame}

/-! ### The payload of a HELLO (R3, R154) -/

/-- Model class 0 or an unknown activity makes a HELLO malformed. -/
theorem ofPayload_malformed {p : List Byte} (h : byteAt p 6 = 0 ∨ 3 < byteAt p 10) :
    Announced.ofPayload p = none := by
  rcases h with h | h
  · have zero : (p.getD 6 0).toNat = 0 := h
    unfold Announced.ofPayload
    split
    · exact if_pos zero
    · rfl
  · have unknown : Activity.ofByte (p.getD 10 0) = none := by
      have : 3 < (p.getD 10 0).toNat := h
      unfold Activity.ofByte
      split
      · omega
      · omega
      · omega
      · omega
      · rfl
    simp only [Announced.ofPayload, unknown]

theorem ofPayload_wellFormed {p : List Byte} {act : Activity} (h : ¬ (byteAt p 6 = 0 ∨ 3 < byteAt p 10))
    (activity : Activity.ofByte (p.getD 10 0) = some act) : Announced.ofPayload p = some
      { serial := BitVec.ofNat 48 (field p 0 6), modelClass := byteAt p 6, caps := Caps.ofByte (p.getD 7 0),
        version := ⟨p.getD 8 0, p.getD 9 0⟩, activity := act } := by
  have nonzero : ¬ (p.getD 6 0).toNat = 0 := fun e => h (.inl e)
  simp only [Announced.ofPayload, activity, if_neg nonzero]
  rfl

/-! ### The owner by presence and serial (R5 to R8) -/

theorem serialMatches_eq {e : OvenEntry} {r : CommRecord} (h : e.record = some r) :
    e.serialMatches a = (r.serial == a.serial) := by simp [OvenEntry.serialMatches, h]

theorem helloOwner_vacant (h : (t.oven i).presence = .vacant) :
    t.helloOwner i a = t.setPresence i .announced .hello := by simp [State.helloOwner, h]

theorem helloOwner_announced (h : (t.oven i).presence = .announced) : t.helloOwner i a = t := by
  simp [State.helloOwner, h]

theorem offerReport_oven (x : KFrame) (j : OvenId) : (t.offerReport x).oven j = t.oven j := by
  unfold State.offerReport
  split <;> rfl

/-- A presence change leaves the rest of the entry. -/
theorem setPresence_oven (p : Presence) (c : PresenceCause) :
    (t.setPresence i p c).oven i = { t.oven i with presence := p } := by
  simp [State.setPresence, offerReport_oven]

theorem helloOwner_commissioned {r : CommRecord} (h : (t.oven i).presence = .commissioned)
    (record : (t.oven i).record = some r) (same : r.serial = a.serial) : t.helloOwner i a =
      (((t.setPresence i .active .hello).setWatch i (some (Watch.loaded r (t.oven i).freezes))).clearOnMatch
        i).reconcile i a := by
  have matching : (t.oven i).serialMatches a = true := by simp [serialMatches_eq record, same]
  have entry := setPresence_oven (t := t) (i := i) .active .hello
  simp only [State.helloOwner, h, matching, if_true, State.startWatch, entry, record]
  rfl

theorem helloOwner_active {r : CommRecord} (h : (t.oven i).presence = .active)
    (record : (t.oven i).record = some r) (same : r.serial = a.serial) :
    t.helloOwner i a = ((t.reloadWatch i).clearOnMatch i).reconcile i a := by
  have matching : (t.oven i).serialMatches a = true := by simp [serialMatches_eq record, same]
  simp only [State.helloOwner, h, matching, if_true]

theorem helloOwner_foreign {r : CommRecord} (h : (t.oven i).presence = .commissioned)
    (record : (t.oven i).record = some r) (other : r.serial ≠ a.serial) :
    t.helloOwner i a = t.raise (some i) codeMismatch .lockout .condition := by
  have foreign : (t.oven i).serialMatches a = false := by simp [serialMatches_eq record, other]
  simp [State.helloOwner, h, foreign]

theorem helloOwner_mismatch {r : CommRecord}
    (h : (t.oven i).presence = .active ∨ (t.oven i).presence = .silent)
    (record : (t.oven i).record = some r) (other : r.serial ≠ a.serial) :
    t.helloOwner i a = t.helloMismatch i a := by
  have foreign : (t.oven i).serialMatches a = false := by simp [serialMatches_eq record, other]
  rcases h with h | h <;> simp [State.helloOwner, h, foreign]

/-! ### The order of a well-formed HELLO (R4, R10, R137) -/

/-- The announced fields are replaced. -/
def State.announce (s : State) (i : OvenId) (a : Announced) : State :=
  s.modOven i fun e => { e with announced := some a }

theorem announce_book (s : State) (i : OvenId) (a : Announced) : (s.announce i a).book = s.book :=
  State.modOven_book_same s i _ rfl rfl rfl rfl

/-- Without a return the copy is offered right after the announced fields. -/
theorem takeHello_heard (h : ¬ ((s.oven i).presence = .silent ∧ (s.oven i).serialMatches a = true)) :
    s.takeHello i a k = (((s.announce i a).offerForward i k).helloOwner i a).countReceived i := by
  obtain ⟨presence, record, -⟩ := oven_of_book (announce_book s i a) i
  have stays : ¬ (((s.announce i a).oven i).presence = .silent ∧
      ((s.announce i a).oven i).serialMatches a = true) := by
    rwa [presence, OvenEntry.serialMatches, record]
  unfold State.takeHello
  extract_lets s1 s2
  have same : s2 = s1 := if_neg stays
  rw [same]
  rfl

/-- A SILENT oven whose serial matches returns first (R10, R129). -/
theorem takeHello_returns {r : CommRecord} (silent : (s.oven i).presence = .silent)
    (record : (s.oven i).record = some r) (same : r.serial = a.serial) : s.takeHello i a k =
      ((((s.announce i a).returnFromSilent i .hello).offerForward i k).helloOwner i a).countReceived i := by
  obtain ⟨presence, record', -⟩ := oven_of_book (announce_book s i a) i
  have returns : ((s.announce i a).oven i).presence = .silent ∧
      ((s.announce i a).oven i).serialMatches a = true :=
    ⟨presence.trans silent, by simp [serialMatches_eq (record'.trans record), same]⟩
  unfold State.takeHello
  extract_lets s1 s2
  have returned : s2 = s1.returnFromSilent i .hello := if_pos returns
  rw [returned]
  rfl

/-- After the return and the copy the oven is ACTIVE with its record. -/
theorem returned_entry (t : State) (i : OvenId) (c : PresenceCause) (k : KFrame) :
    (((t.returnFromSilent i c).offerForward i k).oven i).presence = .active ∧
      (((t.returnFromSilent i c).offerForward i k).oven i).record = (t.oven i).record := by
  have ledger : ((t.returnFromSilent i c).offerForward i k).book.ledger =
      t.book.ledger.setPresence i .active := by
    rw [State.offerForward_book, State.returnFromSilent_ledger]
  have presence := congrArg (fun l => l.presence i) ledger
  have record := congrArg (fun l => l.record i) ledger
  generalize (t.returnFromSilent i c).offerForward i k = u at presence record ⊢
  simp only [Ledger.setPresence, Function.update_self] at presence
  exact ⟨presence, record⟩

/-- A malformed HELLO is counted by presence (R3). -/
theorem helloArrives_malformed {f : UpFrame} (h : byteAt f.payload 6 = 0 ∨ 3 < byteAt f.payload 10) :
    s.helloArrives i f =
      if (s.oven i).presence = .vacant then s.countUnknownSource else s.countRefused i := by
  simp only [State.helloArrives, ofPayload_malformed h]

theorem helloArrives_wellFormed {f : UpFrame} (h : Announced.ofPayload f.payload = some a) :
    s.helloArrives i f = s.takeHello i a (upCopy f clsNotice tagHello) := by
  simp only [State.helloArrives, h]

/-- A delivered HELLO reaches the Oven Table. -/
theorem doHello_arrives {f : UpFrame} (ready : s.phase = .ready) (source : ovenOf f.oven.toNat = some i)
    (length : f.payload.length = 11) : doHello f s = s.wholeFrame.helloArrives i f :=
  arriveUp_pass (lo := 11) (hi := 11) ready source (by decide) (by omega) (by omega)

/-! ### Reconciliation (R8, R9) -/

theorem reconcile_unfold (s : State) (i : OvenId) (a : Announced) :
    let s1 := if (s.update i).state = .applying then
        s.endApply i (if a.version = (s.update i).version then .noCause else .version) a.version else s
    let s2 := if (s1.cook i).state ≠ .idle then
        ((s1.cookGoIdle i .abortedRestart).putStop i).raise (some i) codeOvenRestart .major .event
      else if a.activity = .cooking then (s1.putStop i).raise (some i) codeCookLost .major .event
      else s1
    s.reconcile i a = s2.reconcileClean i a := by
  intro s1 s2
  have cooked : (s.reconcileApply i a).reconcileCook i a = s2 := by
    have applied : s.reconcileApply i a = s1 := rfl
    rw [applied, State.reconcileCook]
    by_cases busy : (s1.cook i).state ≠ .idle
    · rw [if_pos busy, stopCook_running _ busy]
      exact (if_pos busy).symm
    · rw [if_neg busy]
      exact (if_neg busy).symm
  rw [State.reconcile, cooked]

/-- An adoption takes a slot and opens the record of R9. -/
theorem adopt_eq (t : State) (i : OvenId) : t.adopt i = State.dropWait
    { t with
      ovens := t.ovens.set i { t.oven i with occupancy := .cleaning }
      cleaning := { t.cleaning with
        slotCount := t.cleaning.slotCount + 1
        records := t.cleaning.records.set i
          { isOpen := true, programme := none, phase := 0, admitted := t.lineTime,
            deadline := t.lineTime + BitVec.ofNat 32 (t.config.heavy * 60), timer := .running,
            overtime := false, requestSent := true, cancelSent := false, seq := 0 } } } i .adopted := by
  unfold State.adopt
  congr 1

theorem reconcileClean_adopts (free : (t.oven i).occupancy = .free) (cleaning : a.activity = .cleaning) :
    t.reconcileClean i a = t.adopt i := by
  simp [State.reconcileClean, free, cleaning]

theorem reconcileClean_ends (cleaning : (t.oven i).occupancy = .cleaning) (other : a.activity ≠ .cleaning) :
    t.reconcileClean i a = t.endCleaning i .aborted .reconcile := by
  unfold State.reconcileClean
  rw [cleaning]
  cases activity : a.activity
  case cleaning => exact absurd activity other
  all_goals rfl

/-- A cleaning both know stays, and so does an oven with another job or none. -/
theorem reconcileClean_keeps (h : (t.oven i).occupancy = .cleaning ∧ a.activity = .cleaning ∨
    (t.oven i).occupancy = .free ∧ a.activity ≠ .cleaning ∨ (t.oven i).occupancy = .cooking ∨
    (t.oven i).occupancy = .applying) : t.reconcileClean i a = t := by
  unfold State.reconcileClean
  rcases h with ⟨h, h'⟩ | ⟨h, h'⟩ | h | h
  · rw [h, h']
  · rw [h]
    cases activity : a.activity
    case cleaning => exact absurd activity h'
    all_goals rfl
  · rw [h]
  · rw [h]

/-- Settles O49: the HELLO is judged after its announced fields and its copy. -/
theorem helloAndReconciliation : Obligations.HelloAndReconciliation := by
  refine ⟨fun s f i ready source length => ?_, fun s i a => ?_⟩
  · intro w p malformed copy received
    have run : exec (.hello f) s = .next (w.helloArrives i f) :=
      congrArg Host.Outcome.next (doHello_arrives ready source length)
    obtain ⟨presence, record, service, occupancy⟩ := oven_of_book s.wholeFrame_book i
    rw [run]
    refine ⟨fun bad vacant => ?_, fun bad other => ?_, fun act good activity => ?_⟩
    · rw [helloArrives_malformed bad, if_pos (presence.trans vacant)]
      rfl
    · rw [helloArrives_malformed bad, if_neg fun e => other (presence.symm.trans e)]
      rfl
    · intro a b c matching
      have taken : w.helloArrives i f = w.takeHello i a copy :=
        helloArrives_wellFormed (ofPayload_wellFormed good activity)
      have same : c.book = s.book :=
        (State.offerForward_book b i copy).trans ((announce_book w i a).trans s.wholeFrame_book)
      obtain ⟨presenceC, recordC, serviceC, occupancyC⟩ := oven_of_book same i
      have freezes : (c.oven i).freezes = ((s.oven i).service || (s.oven i).occupancy == .applying) := by
        rw [OvenEntry.freezes, serviceC, occupancyC]
      /- Without a return the owner acts on the state with the copy offered. -/
      have heard : ¬ ((s.oven i).presence = .silent ∧ (s.oven i).serialMatches a = true) →
          w.takeHello i a copy = (c.helloOwner i a).countReceived i := fun h =>
        takeHello_heard (by rwa [presence, OvenEntry.serialMatches, record])
      have notSilent : ∀ {x}, (s.oven i).presence = x → x ≠ .silent →
          ¬ ((s.oven i).presence = .silent ∧ (s.oven i).serialMatches a = true) :=
        fun h ne e => ne (h.symm.trans e.1)
      rw [taken]
      refine ⟨fun h => ?_, fun h => ?_, fun r held serial => ⟨fun h => ?_, fun h => ?_, fun h => ?_⟩,
        fun r held serial => ?_⟩
      · rw [heard (notSilent h (by decide)), helloOwner_vacant (presenceC.trans h)]
        rfl
      · rw [heard (notSilent h (by decide)), helloOwner_announced (presenceC.trans h)]
        rfl
      · rw [heard (notSilent h (by decide)),
          helloOwner_commissioned (presenceC.trans h) (recordC.trans held) serial, freezes]
        rfl
      · rw [heard (notSilent h (by decide)),
          helloOwner_active (presenceC.trans h) (recordC.trans held) serial]
        rfl
      · rw [takeHello_returns (presence.trans h) (record.trans held) serial]
        obtain ⟨active, kept⟩ := returned_entry (w.announce i a) i .hello copy
        have announced := (oven_of_book (announce_book w i a) i).2.1
        rw [helloOwner_active active (kept.trans (announced.trans (record.trans held))) serial]
        rfl
      · have foreign : (s.oven i).serialMatches a = false := by simp [serialMatches_eq held, serial]
        have stays : ¬ ((s.oven i).presence = .silent ∧ (s.oven i).serialMatches a = true) := by simp [foreign]
        rw [heard stays]
        refine ⟨fun h => ?_, fun h => ?_⟩
        · rw [helloOwner_foreign (presenceC.trans h) (recordC.trans held) serial]
          rfl
        · intro d g x
          rw [helloOwner_mismatch (by rw [presenceC]; exact h) (recordC.trans held) serial]
          have wasSilent : ((c.oven i).presence == .silent) = decide ((s.oven i).presence = .silent) := by
            rw [presenceC]; cases (s.oven i).presence <;> decide
          simp only [State.helloMismatch, wasSilent, decide_eq_true_eq]
          rfl
  · intro s1 s2
    have outcome : s.reconcile i a = s2.reconcileClean i a := reconcile_unfold s i a
    rw [outcome]
    clear_value s2
    exact ⟨fun free cleaning => (reconcileClean_adopts free cleaning).trans (adopt_eq s2 i),
      reconcileClean_ends, reconcileClean_keeps⟩

end Sys2Proof.Machine
end

section
/-! PROOFS. OVEN_COMMISSION: its checks in order, and the two ways an entry takes its record. -/

namespace Sys2Proof.Machine

variable {s t : State} {f : StoreFrame} {i : OvenId}

/-! ### A reconciliation leaves every presence -/

theorem endApply_presence (cause : FailCause) (v : Version) :
    (s.endApply i cause v).book.ledger.presence = s.book.ledger.presence := by
  unfold State.endApply
  extract_lets failed s1 s2 s3 s4
  have raised : s3.book = s2.book := by
    unfold s3
    split
    · exact State.raise_book _ _ _ _ _ (by decide)
    · rfl
  have released : s2.book.ledger = _ := State.releaseOccupancy_ledger s1 i (by decide) (by decide)
  have ended : s1.book = _ := State.modUpdate_book s i _
  rw [(State.admissionPass_passes _).ledger, State.reloadWatch_book, State.refreeze_book,
    show s4.book = s3.book from State.offerReport_book _ _, raised, released, ended]
  rfl

theorem cookGoIdle_presence (r : CookResult) :
    (s.cookGoIdle i r).book.ledger.presence = s.book.ledger.presence := by
  unfold State.cookGoIdle
  extract_lets old s1 s2 s3 s4 s5
  have cleared : s4.book.Passes s5.book :=
    ((State.clearAtSource_passes _ _ _).trans (State.clearAtSource_passes _ _ _)).trans
      (State.clearAtSource_passes _ _ _)
  obtain ⟨rs, ss, -, dropped⟩ := s2.dropUser_book (s1.cook i).recipe (s1.cook i).version
  have reported : s2.book = s.book :=
    (State.offerReport_book _ _).trans
      ((State.modCook_book_same _ i _ (State.atEnd_held _)).trans (s.setSlot_book i _))
  have before : s5.book.ledger.presence = s.book.ledger.presence := by
    rw [cleared.ledger, State.releaseOccupancy_ledger s3 i (by decide) (by decide), dropped, reported]
    rfl
  clear_value s5
  rw [State.modCook_book]
  exact before

theorem stopCook_presence (r : CookResult) :
    (s.stopCook i r).book.ledger.presence = s.book.ledger.presence := by
  by_cases idle : (s.cook i).state = .idle
  · rw [stopCook_idle r idle]
  · rw [stopCook_running r idle, State.putStop_book, cookGoIdle_presence]

theorem reconcileCook_presence (a : Announced) :
    (s.reconcileCook i a).book.ledger.presence = s.book.ledger.presence := by
  unfold State.reconcileCook
  split
  · rw [State.raise_book _ _ _ _ _ (by decide), stopCook_presence]
  split
  · rw [State.raise_book _ _ _ _ _ (by decide), State.putStop_book]
  · rfl

theorem reconcileClean_presence (a : Announced) :
    (s.reconcileClean i a).book.ledger.presence = s.book.ledger.presence := by
  unfold State.reconcileClean
  split
  · rename_i free _
    rw [State.adopt, State.dropWait_book, State.modCleanRecord_book, State.takeSlot_book s i free]
  · rfl
  · rw [(State.endCleaning_passes s i _ _).ledger]
  · rfl

theorem reconcile_presence (a : Announced) :
    (s.reconcile i a).book.ledger.presence = s.book.ledger.presence := by
  have applied : (s.reconcileApply i a).book.ledger.presence = s.book.ledger.presence := by
    unfold State.reconcileApply
    split
    · exact endApply_presence _ _
    · rfl
  rw [State.reconcile, reconcileClean_presence, reconcileCook_presence, applied]

/-! ### The record a request writes (R14) -/

/-- The settings of a request: given and clamped, or the defaults. -/
theorem commissionSettings_eq (p : List Byte) : commissionSettings p =
    ({ window := if p.length = 12 then max 1 (byteAt p 9) else 30
       scale := if p.length = 12 then clampScale (byteAt p 10) else 1
       decimation := if p.length = 12 then min 60 (byteAt p 11) else 10 },
      decide (p.length = 12 ∧ (byteAt p 9 = 0 ∨ clampScale (byteAt p 10) ≠ byteAt p 10 ∨
        60 < byteAt p 11))) := by
  by_cases given : p.length = 12
  · have clamped := settings_clamped p 9
    simp only [commissionSettings, given, if_true, true_and]
    exact Prod.ext rfl clamped
  · simp [commissionSettings, given, Settings.default]

/-! ### The checks (R14) -/

theorem serialTaken_iff {serial : BitVec 48} : s.serialTaken i serial = true ↔
    ∃ j q, j ≠ i ∧ (s.oven j).record = some q ∧ q.serial = serial := by
  simp only [State.serialTaken, List.any_eq_true, Bool.and_eq_true, bne_iff_ne]
  constructor
  · rintro ⟨j, -, other, taken⟩
    cases record : (s.oven j).record with
    | none => simp [record] at taken
    | some q => exact ⟨j, q, other, record, by simpa [record] using taken⟩
  · rintro ⟨j, q, other, record, same⟩
    exact ⟨j, List.mem_finRange j, other, by simp [record, same]⟩

theorem recorded_iff {p : Presence} :
    p.recorded = true ↔ p = .commissioned ∨ p = .active ∨ p = .silent := by
  cases p <;> simp [Presence.recorded]

/-- The record an OVEN_COMMISSION writes. -/
abbrev requestedRecord (f : StoreFrame) : CommRecord :=
  commissionRecord f.payload (commissionSettings f.payload).1

/-- A request that passes every check commissions the entry; the detail numbers its new presence (R14, R15). -/
theorem doOvenCommission_done (h : RequestedFor s f 10 [9, 12] i) (saving : s.saving = none)
    (least : 1 ≤ byteAt f.payload 7) (greatest : byteAt f.payload 7 ≤ 15)
    (fresh : (s.oven i).presence = .vacant ∨ (s.oven i).presence = .announced)
    (unique : ∀ j q, j ≠ i → (s.oven j).record = some q → q.serial ≠ (requestedRecord f).serial) :
    let u := (s.fromGateway f).commission i (requestedRecord f)
    doOvenCommission f s = u.replies f
      { result := .done, detail := (u.oven i).presence.code,
        clamped := (commissionSettings f.payload).2 } := by
  refine control_replies h.1 (by decide) (fun _ => saving) rfl ?_
  have class' : ¬ ((requestedRecord f).modelClass < 1 ∨ 15 < (requestedRecord f).modelClass) := by
    show ¬ (byteAt f.payload 7 < 1 ∨ 15 < byteAt f.payload 7)
    omega
  have notRecorded : ¬ ((s.fromGateway f).oven i).presence.recorded = true := by
    rw [show (s.fromGateway f).oven i = s.oven i from rfl]
    rcases fresh with h | h <;> simp [h, Presence.recorded]
  have notTaken : ¬ (s.fromGateway f).serialTaken i (requestedRecord f).serial = true := by
    rw [serialTaken_iff]
    rintro ⟨j, q, other, record, same⟩
    exact unique j q other record same
  rw [forAddress_some h.2]
  dsimp only
  rw [if_neg class', if_neg notRecorded, if_neg notTaken]

theorem doOvenCommission_badField (h : Requested s f 10 [9, 12]) (saving : s.saving = none)
    (bad : NoOven f ∨ byteAt f.payload 7 = 0 ∨ 15 < byteAt f.payload 7) :
    doOvenCommission f s = (s.fromGateway f).replies f { result := .badField } := by
  refine control_replies h (by decide) (fun _ => saving) rfl ?_
  by_cases none : NoOven f
  · exact forAddress_none none
  · have class' : (requestedRecord f).modelClass < 1 ∨ 15 < (requestedRecord f).modelClass := by
      show byteAt f.payload 7 < 1 ∨ 15 < byteAt f.payload 7
      have := bad.resolve_left none
      omega
    unfold State.forAddress
    split
    · exact if_pos class'
    · rfl

theorem doOvenCommission_state (h : RequestedFor s f 10 [9, 12] i) (saving : s.saving = none)
    (least : 1 ≤ byteAt f.payload 7) (greatest : byteAt f.payload 7 ≤ 15)
    (recorded : (s.oven i).presence = .commissioned ∨ (s.oven i).presence = .active ∨
      (s.oven i).presence = .silent) :
    doOvenCommission f s = (s.fromGateway f).replies f { result := .state } := by
  refine control_replies h.1 (by decide) (fun _ => saving) rfl ?_
  have class' : ¬ ((requestedRecord f).modelClass < 1 ∨ 15 < (requestedRecord f).modelClass) := by
    show ¬ (byteAt f.payload 7 < 1 ∨ 15 < byteAt f.payload 7)
    omega
  have held : ((s.fromGateway f).oven i).presence.recorded = true := recorded_iff.mpr recorded
  rw [forAddress_some h.2]
  dsimp only
  rw [if_neg class', if_pos held]
  rfl

theorem doOvenCommission_duplicate (h : RequestedFor s f 10 [9, 12] i) (saving : s.saving = none)
    (least : 1 ≤ byteAt f.payload 7) (greatest : byteAt f.payload 7 ≤ 15)
    (fresh : (s.oven i).presence = .vacant ∨ (s.oven i).presence = .announced)
    (taken : ∃ j q, j ≠ i ∧ (s.oven j).record = some q ∧ q.serial = BitVec.ofNat 48 (field f.payload 1 6)) :
    doOvenCommission f s = (s.fromGateway f).replies f { result := .duplicate } := by
  refine control_replies h.1 (by decide) (fun _ => saving) rfl ?_
  have class' : ¬ ((requestedRecord f).modelClass < 1 ∨ 15 < (requestedRecord f).modelClass) := by
    show ¬ (byteAt f.payload 7 < 1 ∨ 15 < byteAt f.payload 7)
    omega
  have notRecorded : ¬ ((s.fromGateway f).oven i).presence.recorded = true := by
    rw [show (s.fromGateway f).oven i = s.oven i from rfl]
    rcases fresh with h | h <;> simp [h, Presence.recorded]
  have held : (s.fromGateway f).serialTaken i (requestedRecord f).serial = true := serialTaken_iff.mpr taken
  rw [forAddress_some h.2]
  dsimp only
  rw [if_neg class', if_neg notRecorded, if_pos held]
  rfl

/-! ### The two ways an entry takes its record (R15) -/

/-- The entry with its record. -/
def State.withRecord (s : State) (i : OvenId) (r : CommRecord) : State :=
  s.modOven i fun e => { e with record := some r }

theorem withRecord_oven (s : State) (i : OvenId) (r : CommRecord) :
    (s.withRecord i r).oven i = { s.oven i with record := some r } := by
  simp [State.withRecord]

/-- An entry ANNOUNCED with the serial becomes ACTIVE and its watch starts. -/
theorem commission_activates {r : CommRecord} {a : Announced} (presence : (s.oven i).presence = .announced)
    (announced : (s.oven i).announced = some a) (same : a.serial = r.serial) : s.commission i r =
      ((((s.withRecord i r).setPresence i .active .commission).setWatch i
        (some (Watch.loaded r (s.oven i).freezes))).reconcile i a) := by
  have entry := setPresence_oven (t := s.withRecord i r) (i := i) .active .commission
  rw [withRecord_oven] at entry
  have as_ : (s.oven i).announcedAs r.serial = true := by
    simp [OvenEntry.announcedAs, presence, announced, same]
  simp only [State.commission, announced, as_, if_true, State.startWatch]
  rw [show (s.modOven i fun e => { e with record := some r }) = s.withRecord i r from rfl, entry]
  rfl

/-- Any other entry becomes COMMISSIONED. -/
theorem commission_waits {r : CommRecord} (h : (s.oven i).announcedAs r.serial = false) :
    s.commission i r = (s.withRecord i r).setPresence i .commissioned .commission := by
  unfold State.commission
  dsimp only
  split
  · rw [if_neg (by simp [h])]
    rfl
  · rfl

/-- The presence after the commissioning of an announced oven is ACTIVE, whatever its reconciliation ends. -/
theorem commission_active {r : CommRecord} {w : Option Watch} {c : PresenceCause} (a : Announced) :
    (((((s.withRecord i r).setPresence i .active c).setWatch i w).reconcile i a).oven i).presence =
      .active := by
  have kept := congrFun (reconcile_presence
    (s := ((s.withRecord i r).setPresence i .active c).setWatch i w) (i := i) a) i
  rw [State.setWatch_book, State.setPresence_book] at kept
  simp only [Ledger.setFrozen, Ledger.setPresence, Function.update_self] at kept
  generalize (((s.withRecord i r).setPresence i .active c).setWatch i w).reconcile i a = u at kept ⊢
  exact kept

/-- Settles O22. -/
theorem ovenCommission : Obligations.OvenCommission := by
  refine ⟨fun s f i h saving => ?_, fun s f h saving => ?_⟩
  · intro p given w c d scale r clamped a least greatest fresh unique
    have settings := commissionSettings_eq f.payload
    have record : requestedRecord f = r := by
      unfold requestedRecord
      rw [settings]
      rfl
    have mark : (commissionSettings f.payload).2 = clamped := by
      rw [settings]
      exact decide_eq_decide.mpr Iff.rfl
    have done := doOvenCommission_done h saving least greatest fresh (record ▸ unique)
    rw [record, mark] at done
    dsimp only at done
    have entry : (s.fromGateway f).oven i = s.oven i := rfl
    refine ⟨fun x presence announced same => ?_, fun other => ?_⟩
    · have way := commission_activates (s := s.fromGateway f) presence announced same
      have active : (((s.fromGateway f).commission i r).oven i).presence = .active := by
        rw [way, commission_active x]
      rw [active, way, OvenEntry.freezes, entry] at done
      exact congrArg Host.Outcome.next done
    · have unannounced : ((s.fromGateway f).oven i).announcedAs r.serial = false := by
        rw [entry, OvenEntry.announcedAs]
        rcases other with h | h | ⟨x, h, ne⟩
        · rw [h]
        · rw [h]; cases (s.oven i).presence <;> rfl
        · rw [h]; cases (s.oven i).presence <;> simp [ne]
      have way := commission_waits unannounced
      have waits : (((s.fromGateway f).commission i r).oven i).presence = .commissioned := by
        rw [way, setPresence_oven]
      rw [waits, way] at done
      exact congrArg Host.Outcome.next done
  · intro refused n m
    refine ⟨fun bad => ?_, fun i named least greatest recorded => ?_,
      fun i j q named least greatest fresh other record same => ?_⟩
    · exact congrArg Host.Outcome.next (doOvenCommission_badField h saving (or_assoc.mpr bad))
    · exact congrArg Host.Outcome.next (doOvenCommission_state ⟨h, named⟩ saving least greatest recorded)
    · exact congrArg Host.Outcome.next
        (doOvenCommission_duplicate ⟨h, named⟩ saving least greatest fresh ⟨j, q, other, record, same⟩)

end Sys2Proof.Machine
end

section
/-! PROOFS. The reading requests: their data, field by field, and that they change nothing. -/

namespace Sys2Proof.Machine

variable {s : State} {f : StoreFrame} {i : OvenId}

/-! ### Fields and bytes (R152) -/

theorem spells_nil : spells [] = [] := rfl

theorem spells_cons (x : Nat × Nat) (l : List (Nat × Nat)) : spells (x :: l) = be x.1 x.2 ++ spells l := by
  simp [spells]

theorem spells_append (l m : List (Nat × Nat)) : spells (l ++ m) = spells l ++ spells m := by
  simp [spells]

theorem spells_flatMap {α : Type} (l : List α) (g : α → List (Nat × Nat)) :
    spells (l.flatMap g) = l.flatMap fun x => spells (g x) := by
  simp [spells, List.flatMap_assoc]

/-- A byte is its number in one byte. -/
theorem be_byte (b : Byte) : be 1 b.toNat = [b] := by
  simp [be]

theorem beFlag_eq (b : Bool) : beFlag b = be 1 (if b then 1 else 0) := by
  cases b <;> rfl

theorem programmeCode_eq (p : Option Programme) : programmeCode p = (p.map (·.code)).getD 0 := by
  cases p <;> rfl

theorem foldl_add_if {α : Type} (l : List α) (m : α → Bool) (g : α → Nat) (n : Nat) :
    l.foldl (fun a i => if m i then a + g i else a) n =
      n + (l.map fun i => if m i then g i else 0).sum := by
  induction l generalizing n with
  | nil => rfl
  | cons x rest ih =>
    rw [List.foldl_cons, ih, List.map_cons, List.sum_cons]
    cases m x <;> simp [Nat.add_assoc]

/-- A mask sums the bits of its line addresses (R156). -/
theorem addrMask_eq (m : OvenId → Bool) :
    addrMask m = ((List.finRange 16).map fun i => if m i then 2 ^ (i.val + 1) else 0).sum := by
  rw [addrMask, foldl_add_if, Nat.zero_add]
  rfl

/-! ### The data of STATUS_READ (R160) -/

theorem statusCleaning_eq (s : State) :
    statusCleaning s =
      be 1 s.config.slotLimit ++ be 1 s.cleaning.slotCount ++ be 1 s.cleaning.queue.length ++
        s.cleaning.queue.flatMap waitData ++ be 1 (openRecords s).length ++
        (openRecords s).flatMap fun i => cleanRecordData i (s.cleanRecord i) := rfl

theorem waitData_spells : waitData = fun w => spells
    [(1, w.oven.val + 1), (1, w.programme.code), (4, w.taken.toNat), (1, w.seq.toNat)] := by
  funext w
  simp only [waitData, spells_cons, spells_nil, be_byte, beWord, List.append_nil, List.append_assoc]
  rfl

theorem cleanRecordData_spells (i : OvenId) (r : CleanRecord) : cleanRecordData i r = spells
    [(1, (r.programme.map (·.code)).getD 0), (1, r.phase), (4, r.admitted.toNat), (4, r.deadline.toNat),
      (1, if r.overtime then 1 else 0), (1, if r.requestSent then 1 else 0),
      (1, if r.cancelSent then 1 else 0), (1, r.seq.toNat), (1, i.val + 1)] := by
  simp only [cleanRecordData, spells_cons, spells_nil, be_byte, beWord, beFlag_eq, programmeCode_eq,
    List.append_nil, List.append_assoc]
  rfl

/-! ### The data of OVEN_READ (R18) -/

theorem recordData_spells (r : Option CommRecord) : recordData r = spells
    ((r.map fun r => [(1, 1), (6, r.serial.toNat), (1, r.modelClass), (1, r.caps.code),
      (1, r.window), (1, r.scale), (1, r.decimation)]).getD
        [(1, 0), (6, 0), (1, 0), (1, 0), (1, 0), (1, 0), (1, 0)]) := by
  cases r <;>
    simp [recordData, spells_cons, spells_nil, beWord, beFlag_eq]

theorem announcedData_spells (a : Option Announced) : announcedData a = spells
    ((a.map fun a => [(1, 1), (6, a.serial.toNat), (1, a.modelClass), (1, a.caps.code),
      (1, a.version.major.toNat), (1, a.version.minor.toNat), (1, a.activity.code)]).getD
        [(1, 0), (6, 0), (1, 0), (1, 0), (1, 0), (1, 0), (1, 0)]) := by
  cases a <;>
    simp [announcedData, spells_cons, spells_nil, beWord, beFlag_eq, be_byte]

theorem countersData_spells (c : OvenCounters) : countersData c = spells
    [(2, c.received), (2, c.refused), (2, c.clamped), (2, c.gaps), (2, c.dropped), (2, c.duplicates),
      (2, c.staleAcks), (1, c.phase)] := by
  unfold countersData
  simp only [spells_cons, spells_nil, List.append_nil, List.append_assoc]

theorem cookData_spells (c : CookCtx) : cookData c = spells
    [(1, c.state.code), (1, c.origin.code), (2, c.recipe), (1, c.version), (2, c.first), (1, c.count),
      (2, c.batch.toNat), (1, c.stepIndex), (1, c.stepsDone), (4, c.stepClock), (4, c.holdClock), (4, c.dev),
      (1, if c.tripped then 1 else 0), (4, c.doorOpen), (2, c.gaps), (2, c.missingRun),
      (2, c.lastStamp.toNat), (1, if c.baseline then 1 else 0), (4, c.total), (4, c.started.toNat)] := by
  unfold cookData
  simp only [spells_cons, spells_nil, beWord, beFlag_eq, List.append_nil, List.append_assoc]

theorem updateData_spells (u : UpdateCtx) : updateData u = spells
    [(1, u.state.code), (2, u.imageId), (4, u.length), (4, u.expectedCrc.toNat),
      (1, u.version.major.toNat), (1, u.version.minor.toNat), (4, u.passed), (4, u.crc.toNat),
      (1, u.queued), (2, u.repeated), (4, u.deadline.toNat), (1, if u.begun then 1 else 0),
      (1, u.cause.code)] := by
  unfold updateData
  simp only [spells_cons, spells_nil, beWord, beFlag_eq, be_byte, List.append_nil,
    List.append_assoc, List.cons_append, List.nil_append]

theorem ovenData_eq (e : OvenEntry) (overflow : Bool) (c : CookCtx) (u : UpdateCtx) : ovenData e overflow c u =
    be 1 e.presence.code ++ recordData e.record ++ announcedData e.announced ++
      be 1 e.occupancy.code ++ beFlag e.service ++ beFlag e.locked ++ beFlag overflow ++
      countersData e.counters ++ cookData c ++ updateData u := rfl

/-! ### The fourteen parameters (R161) -/

/-- Width and value of each parameter, in the order of their numbers. -/
def Params.values (p : Params) : List (Nat × Nat) :=
  [(2, p.kitchenType.toNat), (1, p.cleanMask.toNat), (1, p.updateMask.toNat), (1, p.slotLimit),
    (2, p.rinse), (2, p.light), (2, p.medium), (2, p.heavy), (1, p.bulkLimit), (1, p.bulkHoldOff),
    (1, p.stepAckTimeout), (1, p.gapLimit), (2, p.applyTimeout), (1, p.lineErrorThreshold)]

theorem read_eq_values (p : Params) : ∀ k, p.values[k]? = (p.read (k + 1)).map fun x => (x.2, x.1)
  | 0 | 1 | 2 | 3 | 4 | 5 | 6 | 7 | 8 | 9 | 10 | 11 | 12 | 13 => rfl
  | _ + 14 => rfl

theorem readBytes_spells {p : Params} {k : Nat} {x : Nat × Nat} (h : p.values[k]? = some x) :
    p.readBytes (k + 1) = spells [x] := by
  rw [read_eq_values] at h
  obtain ⟨⟨v, w⟩, read, rfl⟩ := Option.map_eq_some_iff.mp h
  rw [Params.readBytes, read, spells_cons, spells_nil, List.append_nil]

theorem allBytes_spells (p : Params) : p.allBytes = spells p.values := by
  simp only [spells_cons, spells_nil, Params.values]
  rfl

theorem read_isSome_iff {p : Params} {n : Nat} : (p.read n).isSome = true ↔ 1 ≤ n ∧ n ≤ 14 := by
  cases n with
  | zero => simp [Params.read]
  | succ k =>
    have same := congrArg Option.isSome (read_eq_values p k)
    rw [Option.isSome_map] at same
    have inside : p.values[k]?.isSome = true ↔ k < 14 := by
      rw [Option.isSome_iff_ne_none, ne_eq, List.getElem?_eq_none_iff, not_le]
      rfl
    rw [← same, inside]
    omega

/-! ### The data of CALL_READ (R108) -/

theorem callEntry_eq (s : State) : s.callEntry = fun p =>
    ((s.call p).map fun c => serviceBytes c c.state ++ be 1 p.val).getD [] := by
  funext p
  unfold State.callEntry
  cases s.call p <;> rfl

/-- The position to start at next is the first one left over, or past the last (log 34). -/
theorem callReadData_eq (s : State) (first : Nat) : callReadData s first =
    ((s.usedFrom first).take 16).flatMap s.callEntry ++
      be 1 ((((s.usedFrom first).drop 16).head?.map (·.val)).getD 32) ++
      be 4 (addrMask fun i => s.calls.overflow[i]) ++ be 2 s.calls.lost ++ be 2 s.calls.ignored ++
      be 1 s.callsInUse := by
  unfold callReadData
  dsimp only
  generalize (s.usedFrom first).drop 16 = beyond
  cases beyond <;> rfl

/-! ### The requests change nothing (R18, R108, R160, R161) -/

theorem doStatusRead_part (h : Requested s f 1 [1]) (section1 : byteAt f.payload 0 = 1) :
    doStatusRead f s =
      (s.fromGateway f).replies f { result := .done, data := statusPart (s.fromGateway f) } := by
  refine control_replies h (by decide) (fun saved => nomatch saved) rfl ?_
  simp only [section1]
  rfl

theorem doStatusRead_cleaning (h : Requested s f 1 [1]) (section2 : byteAt f.payload 0 = 2) :
    doStatusRead f s =
      (s.fromGateway f).replies f { result := .done, data := statusCleaning (s.fromGateway f) } := by
  refine control_replies h (by decide) (fun saved => nomatch saved) rfl ?_
  simp only [section2]
  rfl

theorem doStatusRead_badField (h : Requested s f 1 [1]) (not1 : byteAt f.payload 0 ≠ 1)
    (not2 : byteAt f.payload 0 ≠ 2) :
    doStatusRead f s = (s.fromGateway f).replies f { result := .badField } := by
  refine control_replies h (by decide) (fun saved => nomatch saved) rfl ?_
  split
  · exact absurd ‹_› not1
  · exact absurd ‹_› not2
  · rfl

theorem doConfigRead_all (h : Requested s f 3 [0]) : doConfigRead f s =
    (s.fromGateway f).replies f { result := .done, data := s.config.allBytes } := by
  obtain ⟨ready, reset, part, code, len, length⟩ := h
  have length : f.payload.length = 0 := List.mem_singleton.mp length
  refine control_replies ⟨ready, reset, part, code, len, by simp [gateConfigRead, length]⟩ (by decide)
    (fun saved => nomatch saved) rfl ?_
  rw [if_pos length]
  rfl

theorem doConfigRead_one (h : Requested s f 3 [1]) : doConfigRead f s =
    if 1 ≤ byteAt f.payload 0 ∧ byteAt f.payload 0 ≤ 14 then
      (s.fromGateway f).replies f { result := .done, data := s.config.readBytes (byteAt f.payload 0) }
    else (s.fromGateway f).replies f { result := .badField } := by
  obtain ⟨ready, reset, part, code, len, length⟩ := h
  have length : f.payload.length = 1 := List.mem_singleton.mp length
  have allowed : Requested s f gateConfigRead.code gateConfigRead.lengths :=
    ⟨ready, reset, part, code, len, by simp [gateConfigRead, length]⟩
  have known := read_isSome_iff (p := (s.fromGateway f).config) (n := byteAt f.payload 0)
  by_cases number : 1 ≤ byteAt f.payload 0 ∧ byteAt f.payload 0 ≤ 14
  · rw [if_pos number]
    refine control_replies allowed (by decide) (fun saved => nomatch saved) rfl ?_
    rw [if_neg (by simp [length]), if_pos (known.mpr number)]
    rfl
  · rw [if_neg number]
    refine control_replies allowed (by decide) (fun saved => nomatch saved) rfl ?_
    rw [if_neg (by simp [length]), if_neg (mt known.mp number)]
    rfl

theorem doOvenRead_done (h : RequestedFor s f 12 [1] i) : doOvenRead f s =
    (s.fromGateway f).replies f
      { result := .done, data := ovenData (s.oven i) s.calls.overflow[i] (s.cook i) (s.update i) } := by
  refine control_replies h.1 (by decide) (fun saved => nomatch saved) rfl ?_
  rw [forAddress_some h.2]
  rfl

theorem doOvenRead_badField (h : Requested s f 12 [1]) (none : NoOven f) :
    doOvenRead f s = (s.fromGateway f).replies f { result := .badField } :=
  control_replies h (by decide) (fun saved => nomatch saved) rfl (forAddress_none none)

theorem doCallRead_reads (h : Requested s f 44 [1]) : doCallRead f s =
    if byteAt f.payload 0 ≤ 31 then
      (s.fromGateway f).replies f { result := .done, data := callReadData s (byteAt f.payload 0) }
    else (s.fromGateway f).replies f { result := .badField } := by
  by_cases position : byteAt f.payload 0 ≤ 31
  · rw [if_pos position]
    refine control_replies h (by decide) (fun saved => nomatch saved) rfl ?_
    rw [if_neg (by omega)]
    rfl
  · rw [if_neg position]
    refine control_replies h (by decide) (fun saved => nomatch saved) rfl ?_
    rw [if_pos (by omega)]
    rfl

/-- Settles O19: each layout is spelled part by part, and each request has no effect but its REPLY. -/
theorem readsChangeNothing : Obligations.ReadsChangeNothing := by
  refine ⟨?_, fun s f => ?_⟩
  · intro flag mask calls
    have flags : ∀ b, beFlag b = be 1 (flag b) := beFlag_eq
    refine ⟨fun s => ?_, fun s => ?_, fun p => ⟨allBytes_spells p, fun k x => readBytes_spells⟩,
      fun e overflow c u => ?_, fun s first => ?_, fun c => ?_, rfl, rfl, rfl, rfl⟩
    · have masks : ∀ m, addrMask m = mask m := addrMask_eq
      have inUse : s.callsInUse = calls s := rfl
      clear_value mask calls flag
      unfold statusPart discardsData overflowData
      simp only [masks, inUse, spells_cons, spells_nil, beWord, flags,
        List.append_nil, List.append_assoc, Fin.getElem_fin]
      rfl
    · intro opened
      simp only [statusCleaning_eq, spells_append, spells_cons, spells_nil, spells_flatMap, List.append_nil,
        List.append_assoc, waitData_spells, cleanRecordData_spells]
      rfl
    · simp only [ovenData_eq, countersData_spells, cookData_spells, updateData_spells, recordData_spells,
        announcedData_spells, flags]
      simp only [spells_append, spells_cons, spells_nil, List.append_nil, List.append_assoc]
      rfl
    · intro used
      have masks : ∀ m, addrMask m = mask m := addrMask_eq
      rw [callReadData_eq, callEntry_eq]
      simp only [masks, spells_cons, spells_nil, List.append_nil, List.append_assoc]
      rfl
    · obtain ⟨steam, probe, clean⟩ := c
      cases steam <;> cases probe <;> cases clean <;> rfl
  · intro a bad reads n
    refine ⟨fun h => ?_, fun h => congrArg Host.Outcome.next (doConfigRead_all h),
      fun h => congrArg Host.Outcome.next (doConfigRead_one h),
      fun i h => congrArg Host.Outcome.next (doOvenRead_done h),
      fun h none => congrArg Host.Outcome.next (doOvenRead_badField h none),
      fun h => congrArg Host.Outcome.next (doCallRead_reads h)⟩
    by_cases one : n = 1
    · rw [if_pos one]
      exact congrArg Host.Outcome.next (doStatusRead_part h one)
    by_cases two : n = 2
    · rw [if_neg one, if_pos two]
      exact congrArg Host.Outcome.next (doStatusRead_cleaning h two)
    · rw [if_neg one, if_neg two]
      exact congrArg Host.Outcome.next (doStatusRead_badField h one two)

end Sys2Proof.Machine
end

section
/-! PROOFS. The fields of the frames the part builds, and the way back from the bytes of a frame to its command. -/

namespace Sys2Proof.Machine

/-! ### From bytes to the frame (R136, R152) -/

theorem be_two (v : Nat) : be 2 v = [BitVec.ofNat 8 (v / 256), BitVec.ofNat 8 v] := by
  simp [be]

/-- Two bytes spell a 16-bit number. -/
theorem ofBe_be_two {v : Nat} (h : v < 65536) : ofBe [BitVec.ofNat 8 (v / 256), BitVec.ofNat 8 v] = v := by
  simp only [ofBe, List.foldl_cons, List.foldl_nil, BitVec.toNat_ofNat]
  omega

/-- The seven header bytes one by one, then the payload. -/
theorem bytes_eq (k : KFrame) : k.bytes = k.cls :: k.oven :: BitVec.ofNat 8 (k.tag.toNat / 256) ::
    BitVec.ofNat 8 k.tag.toNat :: k.seq :: BitVec.ofNat 8 (k.payload.length / 256) ::
    BitVec.ofNat 8 k.payload.length :: k.payload := by
  simp [KFrame.bytes, beWord, be_two]

/-- A frame is read back from its bytes, whatever follows them. -/
theorem ofBytes_bytes (k : KFrame) (rest : List Byte) (short : k.payload.length < 65536) :
    KFrame.ofBytes (k.bytes ++ rest) = some k := by
  have len : headerLen (k.bytes ++ rest) = k.payload.length := by
    rw [bytes_eq]; refine Eq.trans ?_ (ofBe_be_two short)
    simp only [headerLen, field, List.cons_append, List.drop_succ_cons, List.drop_zero, List.take_succ_cons,
      List.take_zero]
  have tag : field (k.bytes ++ rest) 2 2 = k.tag.toNat := by
    have small : k.tag.toNat < 65536 := k.tag.isLt
    rw [bytes_eq]; refine Eq.trans ?_ (ofBe_be_two small)
    simp only [field, List.cons_append, List.drop_succ_cons, List.drop_zero, List.take_succ_cons,
      List.take_zero]
  have whole : 7 ≤ (k.bytes ++ rest).length ∧
      7 + headerLen (k.bytes ++ rest) ≤ (k.bytes ++ rest).length := by
    rw [len, bytes_eq]; simp only [List.length_cons, List.length_append]; omega
  have payload : ((k.bytes ++ rest).drop 7).take k.payload.length = k.payload := by
    rw [bytes_eq]; exact List.take_left
  rw [KFrame.ofBytes, if_pos whole, len, tag, payload, BitVec.ofNat_toNat, bytes_eq]
  simp

/-! ### From the frame to the command (R152, R157) -/

/-- A well-formed command of the Store Link is the one its class and tag name, by its own frame. -/
theorem wellFormed_store {c : Instr} {x : StoreForm} (form : storeForm c = some x)
    (fits : wellFormed c = true) : x.frame.len.toNat = x.frame.payload.length ∧
      x.frame.payload.length ≤ maxPayload ∧
      ∃ g, storeCommand x.cls x.frame.tag.toNat = some g ∧ g x.frame = c := by
  simp only [wellFormed, form, Bool.and_eq_true, StoreForm.lengthFits, decide_eq_true_eq] at fits
  obtain ⟨⟨⟨short, same⟩, -⟩, tag⟩ := fits
  refine ⟨same, same ▸ short, ?_⟩
  unfold StoreForm.tagFits at tag
  split at tag
  · exact ⟨_, ‹_›, by simpa using tag⟩
  · cases tag

theorem decode_store {c : Instr} {x : StoreForm} (rest : List Byte) (form : storeForm c = some x)
    (fits : wellFormed c = true) : decodeFrame x.frame.src (x.kframe.bytes ++ rest) = some c := by
  obtain ⟨len, short, g, named, command⟩ := wellFormed_store form fits
  have read := ofBytes_bytes x.kframe rest (Nat.lt_of_le_of_lt short (by decide))
  have header : BitVec.ofNat 16 x.frame.payload.length = x.frame.len := by
    rw [← len, BitVec.ofNat_toNat]; simp
  have spelled : commandOf x.frame.src x.kframe = some (g x.frame) := by
    simp only [commandOf, StoreForm.kframe, named, header]
  rw [decodeFrame, read, Option.bind_some, spelled, command]

/-- An upward class and tag name the upward command, and no command of the Store Link. -/
theorem upForm_command {c : Instr} {x : UpForm} (form : upForm c = some x) :
    storeForm c = none ∧ storeCommand x.cls x.tag.toNat = none ∧
      ∃ g, upCommand x.cls x.tag = some g ∧ g x.frame = c := by
  cases c with
  | sample tag f => cases form; exact ⟨rfl, rfl, _, rfl, rfl⟩
  | hello f => cases form; exact ⟨rfl, rfl, _, rfl, rfl⟩
  | stepAck f => cases form; exact ⟨rfl, rfl, _, rfl, rfl⟩
  | panelStart f => cases form; exact ⟨rfl, rfl, _, rfl, rfl⟩
  | panelStop f => cases form; exact ⟨rfl, rfl, _, rfl, rfl⟩
  | fault f => cases form; exact ⟨rfl, rfl, _, rfl, rfl⟩
  | faultClear f => cases form; exact ⟨rfl, rfl, _, rfl, rfl⟩
  | cleanPhase f => cases form; exact ⟨rfl, rfl, _, rfl, rfl⟩
  | cleanDone f => cases form; exact ⟨rfl, rfl, _, rfl, rfl⟩
  | updateStatus f => cases form; exact ⟨rfl, rfl, _, rfl, rfl⟩
  | serviceKey f => cases form; exact ⟨rfl, rfl, _, rfl, rfl⟩
  | ovenNote f => cases form; exact ⟨rfl, rfl, _, rfl, rfl⟩
  | _ => cases form

theorem wellFormed_up {c : Instr} {x : UpForm} (form : upForm c = some x) (fits : wellFormed c = true) :
    x.frame.payload.length ≤ maxPayload := by
  simp only [wellFormed, (upForm_command form).1, form, Bool.and_eq_true] at fits
  have range := fits.2
  unfold UpForm.lengthFits at range
  split at range
  · rename_i lo hi lengths
    simp only [Bool.and_eq_true, decide_eq_true_eq] at range
    exact range.2.trans (upwardLengths_short lengths)
  · cases range

theorem decode_up {c : Instr} {x : UpForm} (src : EthAddr) (form : upForm c = some x)
    (fits : wellFormed c = true) : decodeFrame src x.kframe.bytes = some c := by
  obtain ⟨-, noStore, g, named, command⟩ := upForm_command form
  have read := ofBytes_bytes x.kframe [] (Nat.lt_of_le_of_lt (wellFormed_up form fits) (by decide))
  have spelled : commandOf src x.kframe = some (g x.frame) := by
    simp only [commandOf, UpForm.kframe, noStore, named, Option.map_some]
  rw [List.append_nil] at read
  rw [decodeFrame, read, Option.bind_some, spelled, command]

/-! ### The fields of the frames the part builds (R19, R48, R58, R82 to R88, R123, R153, R155, R167) -/

/-- A REPORT frame with its fields in order. -/
theorem reportFrame_spells {p : List Byte} {fields : List (Nat × Nat)} (tag : BitVec 16)
    (h : p = spells fields) : reportFrame tag p =
      { cls := 10, oven := 0, tag := tag, seq := 0, payload := spells fields } := by
  rw [h]; rfl

/-- The serial of REPORT OVEN_STATE is the announced one for HELLO and MISMATCH, else the expected one (R19). -/
theorem reportSerial_eq (e : OvenEntry) (c : PresenceCause) : e.reportSerial c =
    if c = .hello ∨ c = .mismatch then (e.announced.map (·.serial)).getD 0
    else (e.record.map (·.serial)).getD 0 := by
  cases c <;> rfl

/-- Settles O54. -/
theorem framesSpellTheirCommands : Obligations.FramesSpellTheirCommands := by
  refine ⟨?_, fun c x n form fits => decode_store _ form fits, fun c x src form fits => decode_up src form fits⟩
  intro report flag addr
  have flags : ∀ b, beFlag b = be 1 (flag b) := beFlag_eq
  refine ⟨fun c r n t => reportFrame_spells 1 ?_, fun i recipe version x told t => reportFrame_spells 2 ?_,
    fun i c r now => reportFrame_spells 3 ?_, fun i p q taken admitted n r => reportFrame_spells 4 ?_,
    fun i c r e now n => reportFrame_spells 5 ?_, fun w r now => reportFrame_spells 6 ?_,
    fun i u r c v now => reportFrame_spells 7 ?_, fun s i p c => ?_, fun r a => ?_, ?_,
    rfl, rfl, rfl, rfl, rfl, rfl, rfl, rfl, rfl, rfl, rfl, rfl, rfl, rfl, rfl, rfl, rfl, rfl, rfl, rfl, rfl⟩
  · simp only [spells_cons, spells_nil, beWord, List.append_nil, List.append_assoc]
  · simp only [spells_cons, spells_nil, beWord, flags, List.append_nil, List.append_assoc]
    rfl
  · simp only [spells_cons, spells_nil, beWord, List.append_nil, List.append_assoc]
    rfl
  · simp only [spells_cons, spells_nil, beWord, be_byte, List.append_nil, List.append_assoc]
    rfl
  · simp only [spells_cons, spells_nil, beWord, flags, programmeCode_eq, List.append_nil, List.append_assoc]
    rfl
  · simp only [spells_cons, spells_nil, beWord, be_byte, List.append_nil, List.append_assoc]
    rfl
  · simp only [spells_cons, spells_nil, beWord, flags, be_byte, List.append_nil, List.append_assoc,
      List.cons_append, List.nil_append]
    rfl
  · intro serial
    have same : (s.oven i).reportSerial c = serial := reportSerial_eq _ c
    rw [State.setPresence, same]
    rfl
  · have payload : [r.cls] ++ beWord 2 r.tag ++ be 1 a.result.code ++ beFlag a.clamped ++ be 4 a.detail =
        spells [(1, r.cls.toNat), (2, r.tag.toNat), (1, a.result.code), (1, flag a.clamped), (4, a.detail)] := by
      simp only [spells_cons, spells_nil, beWord, flags, be_byte, List.append_nil, List.append_assoc]
    rw [replyFrame, payload]
  · intro step i
    refine ⟨fun n k h => ?_, fun n => ?_, rfl, fun q x => ?_⟩
    · have payload : be 1 n ++ be 1 k ++ be 1 h.mode.code ++ beSigned h.cavity ++ be 1 h.humidity ++
          be 1 h.fan ++ be 1 h.endKind.code = spells [(1, n), (1, k), (1, h.mode.code),
            (2, (BitVec.ofInt 16 h.cavity).toNat), (1, h.humidity), (1, h.fan), (1, h.endKind.code)] := by
        simp only [spells_cons, spells_nil, beSigned, List.append_nil, List.append_assoc]
      rw [slotKFrame, payload]
      rfl
    · have payload : be 1 n = spells [(1, n)] := by simp only [spells_cons, spells_nil, List.append_nil]
      rw [slotKFrame, payload]
      rfl
    · have payload : be 2 q ++ be 1 x.code = spells [(2, q), (1, x.code)] := by
        simp only [spells_cons, spells_nil, List.append_nil]
      rw [slotKFrame, payload]
      rfl

end Sys2Proof.Machine
end

section
/-! PROOFS. The retirement of an entry (R17, R142): what its steps may do to the rest of the part. -/

namespace Sys2Proof.Machine

variable {s t u : State} {i : OvenId} {q : List WaitEntry}

/-! ### Reports that are offered -/

namespace State

/-- Frames have joined the Upward Queue, and the lost reports are counted. -/
def reported (s : State) (built : List KFrame) (lost : Nat) : State :=
  { s with up := { s.up with frames := s.up.frames ++ built, reportsLost := lost } }

theorem reported_nil : s.reported [] s.up.reportsLost = s := by simp [reported]

theorem reported_reported (a b : List KFrame) (m n : Nat) :
    (s.reported a m).reported b n = s.reported (a ++ b) n := by
  simp [reported]

theorem reported_calls (built : List KFrame) (lost : Nat) : (s.reported built lost).calls = s.calls := rfl

theorem reported_down (built : List KFrame) (lost : Nat) : (s.reported built lost).down = s.down := rfl

theorem reported_oven (built : List KFrame) (lost : Nat) (j : OvenId) :
    (s.reported built lost).oven j = s.oven j := rfl

/-- A report joins the queue where there is room, and is counted as lost where there is none (R145). -/
theorem offerReport_reported (k : KFrame) : ∃ built lost, s.offerReport k = s.reported built lost ∧
    built.length ≤ 1 ∧ (s.up.frames.length < 32 → built = [k]) := by
  by_cases room : s.up.frames.length < 32
  · exact ⟨[k], s.up.reportsLost, offerReport_room s k (by simpa [upRoom] using room), le_rfl, fun _ => rfl⟩
  · refine ⟨[], sat16 s.up.reportsLost, ?_, Nat.zero_le 1, fun h => absurd h room⟩
    rw [offerReport_full s k (by simpa [upRoom] using room)]
    simp [reported]

theorem removeWait_absent (h : ∀ w ∈ s.cleaning.queue, w.oven ≠ i) : s.removeWait i = s := by
  have all : s.cleaning.queue.filter (fun w => w.oven != i) = s.cleaning.queue :=
    List.filter_eq_self.mpr (by simpa using h)
  rw [removeWait, all]

/-- A dropped wait entry leaves the queue with its report (R84). -/
theorem dropWait_reported (i : OvenId) (r : DropReason) : ∃ built lost,
    s.dropWait i r = (s.removeWait i).reported built lost ∧ built.length ≤ 1 ∧
      ∀ w, s.cleaning.queue.find? (fun w => w.oven == i) = some w → s.up.frames.length < 32 →
        built = [reportCleanDropped w r s.lineTime] := by
  cases found : s.cleaning.queue.find? (fun w => w.oven == i) with
  | none =>
    refine ⟨[], s.up.reportsLost, ?_, Nat.zero_le 1, fun _ h => nomatch h⟩
    have absent : ∀ w ∈ s.cleaning.queue, w.oven ≠ i := by simpa using List.find?_eq_none.mp found
    rw [dropWait, found, removeWait_absent absent]
    exact reported_nil.symm
  | some w =>
    obtain ⟨built, lost, offered, few, room⟩ :=
      offerReport_reported (s := s.removeWait i) (reportCleanDropped w r s.lineTime)
    refine ⟨built, lost, ?_, few, fun w' same => Option.some.inj same ▸ room⟩
    rw [dropWait, found]
    exact offered

end State

/-! ### What an admission pass and the steps after the purge may do -/

/-- The REQUEST an admission from the wait queue puts in class 1 (R82). -/
def WaitEntry.request (w : WaitEntry) : DownFrame :=
  downFrame clsClean tagCleanRequest w.oven w.seq (be 1 w.programme.code)

/-- A FREE oven with an entry among `q` has become CLEANING, and its record is open; or its entry and record are
as they were. -/
def State.MayAdmit (q : List WaitEntry) (s t : State) (j : OvenId) : Prop :=
  t.oven j = s.oven j ∧ t.cleanRecord j = s.cleanRecord j ∨
    (∃ w ∈ q, w.oven = j) ∧ (s.oven j).occupancy = .free ∧
      t.oven j = { s.oven j with occupancy := .cleaning } ∧ (t.cleanRecord j).isOpen = true

theorem State.MayAdmit.trans {j : OvenId} (h : s.MayAdmit q t j) (h' : t.MayAdmit q u j) :
    s.MayAdmit q u j := by
  obtain ⟨same, record⟩ | ⟨waits, free, taken, opened⟩ := h
  · obtain ⟨same', record'⟩ | ⟨waits, free, taken, opened⟩ := h'
    · exact .inl ⟨same'.trans same, record'.trans record⟩
    · exact .inr ⟨waits, same ▸ free, same ▸ taken, opened⟩
  · obtain ⟨same', record'⟩ | ⟨-, free', -⟩ := h'
    · exact .inr ⟨waits, free, same'.trans taken, record' ▸ opened⟩
    · rw [taken] at free'
      cases free'

/-- What may happen between the purge of oven `i` and the end of its retirement: calls and locks change, and
admission passes take or drop wait entries among `q`. -/
structure State.Clears (i : OvenId) (q : List WaitEntry) (s t : State) : Prop where
  rest : ∃ ovens cleaning slots order reports overflow down up, t =
    { s with
      ovens := ovens, cleaning := cleaning, down := down, up := up
      calls := { s.calls with slots := slots, order := order, reports := reports, overflow := overflow } }
  queue : t.cleaning.queue.Sublist s.cleaning.queue
  own : { t.oven i with locked := false } = { s.oven i with locked := false } ∧
    t.cleanRecord i = s.cleanRecord i
  others : ∀ j, j ≠ i → s.MayAdmit q t j
  requests : ∃ more, t.down = { s.down with classes := s.down.classes.set 1 (s.down.classes[1] ++ more) } ∧
    ∀ fr ∈ more, ∃ w ∈ q, fr = w.request
  reports : ∃ built lost, t.up = (s.reported built lost).up

namespace State.Clears

/-- Nothing was admitted: only calls, the lock of the oven and the Upward Queue may differ. -/
theorem of_calm (rest : ∃ ovens slots order reports overflow built lost, t =
      { s.reported built lost with
        ovens := ovens
        calls := { s.calls with slots := slots, order := order, reports := reports, overflow := overflow } })
    (own : { t.oven i with locked := false } = { s.oven i with locked := false })
    (others : ∀ j, j ≠ i → t.oven j = s.oven j) : s.Clears i q t := by
  obtain ⟨ovens, slots, order, reports, overflow, built, lost, rfl⟩ := rest
  exact ⟨⟨_, _, _, _, _, _, _, _, rfl⟩, .refl _, ⟨own, rfl⟩, fun j hj => .inl ⟨others j hj, rfl⟩,
    ⟨[], by simp [reported], fun _ h => nomatch h⟩, ⟨built, lost, rfl⟩⟩

/-- The fields nothing clears. -/
theorem keeps (h : s.Clears i q t) : t.watches = s.watches ∧ t.slots = s.slots ∧ t.updates = s.updates ∧
    t.lineTime = s.lineTime := by
  obtain ⟨_, _, _, _, _, _, _, _, rfl⟩ := h.rest
  exact ⟨rfl, rfl, rfl, rfl⟩

theorem of_reported (built : List KFrame) (lost : Nat) : s.Clears i q (s.reported built lost) :=
  of_calm ⟨_, _, _, _, _, built, lost, rfl⟩ rfl fun _ _ => rfl

protected theorem refl : s.Clears i q s :=
  of_calm ⟨_, _, _, _, _, [], s.up.reportsLost, by rw [reported_nil]⟩ rfl fun _ _ => rfl

protected theorem trans (h : s.Clears i q t) (h' : t.Clears i q u) : s.Clears i q u := by
  obtain ⟨⟨ovens, cleaning, slots, order, reports, overflow, down, up, rfl⟩, queue, own, others,
    ⟨more, frames, requests⟩, ⟨built, lost, told⟩⟩ := h
  obtain ⟨⟨ovens', cleaning', slots', order', reports', overflow', down', up', rfl⟩, queue', own', others',
    ⟨more', frames', requests'⟩, ⟨built', lost', told'⟩⟩ := h'
  refine ⟨⟨ovens', cleaning', slots', order', reports', overflow', down', up', rfl⟩, queue'.trans queue,
    ⟨own'.1.trans own.1, own'.2.trans own.2⟩, fun j hj => (others j hj).trans (others' j hj),
    ⟨more ++ more', ?_, fun fr hfr => (List.mem_append.mp hfr).elim (requests fr) (requests' fr)⟩,
    ⟨built ++ built', lost', ?_⟩⟩
  · dsimp only at frames frames'
    subst frames
    simpa using frames'
  · dsimp only [reported] at told told'
    subst told
    simpa [reported] using told'

end State.Clears

namespace State

/-! ### Admission passes -/

theorem dropWait_clears (j : OvenId) (r : DropReason) : s.Clears i q (s.dropWait j r) := by
  obtain ⟨built, lost, dropped, -⟩ := dropWait_reported (s := s) j r
  rw [dropped]
  exact ⟨⟨_, _, _, _, _, _, _, _, rfl⟩, List.filter_sublist, ⟨rfl, rfl⟩, fun _ _ => .inl ⟨rfl, rfl⟩,
    ⟨[], by simp [reported, removeWait], fun _ h => nomatch h⟩, ⟨built, lost, rfl⟩⟩

/-- An admission from the wait queue without its report (R82). -/
def admitting (s : State) (w : WaitEntry) : State :=
  (((s.takeSlot w.oven).modCleanRecord w.oven fun _ =>
    admittedRecord w.programme w.seq s.lineTime (s.config.duration w.programme)).pushDown 1
      w.request).removeWait w.oven

theorem admitOven_reported (w : WaitEntry) : ∃ built lost,
    (s.admitOven w.oven w.programme w.seq w.taken .queue).removeWait w.oven =
      (s.admitting w).reported built lost := by
  unfold admitOven
  extract_lets s1 s2 s3
  obtain ⟨built, lost, offered, -⟩ := offerReport_reported (s := s3)
    (reportCleanAdmitted w.oven w.programme w.seq w.taken s.lineTime s3.cleaning.slotCount .queue)
  exact ⟨built, lost, by rw [offered]; rfl⟩

theorem admitting_calls (w : WaitEntry) : (s.admitting w).calls = s.calls := by
  cases s
  rfl

theorem admitting_up (w : WaitEntry) : (s.admitting w).up = s.up := by
  cases s
  rfl

theorem admitting_ovens (w : WaitEntry) : (s.admitting w).ovens =
    s.ovens.set w.oven { s.ovens[w.oven] with occupancy := .cleaning } := rfl

theorem admitting_records (w : WaitEntry) : (s.admitting w).cleaning.records =
    s.cleaning.records.set w.oven
      (admittedRecord w.programme w.seq s.lineTime (s.config.duration w.programme)) := rfl

theorem admitting_oven (w : WaitEntry) (j : OvenId) :
    (s.admitting w).oven j = (s.setOccupancy w.oven .cleaning).oven j := by
  unfold oven
  rw [admitting_ovens]
  rfl

theorem admitting_cleanRecord (w : WaitEntry) (j : OvenId) : (s.admitting w).cleanRecord j =
    (s.modCleanRecord w.oven fun _ =>
      admittedRecord w.programme w.seq s.lineTime (s.config.duration w.programme)).cleanRecord j := by
  unfold cleanRecord
  rw [admitting_records]
  rfl

theorem admitting_other {w : WaitEntry} {j : OvenId} (h : w.oven ≠ j) :
    (s.admitting w).oven j = s.oven j ∧ (s.admitting w).cleanRecord j = s.cleanRecord j :=
  ⟨(admitting_oven w j).trans (modOven_other s _ _ _ h),
    (admitting_cleanRecord w j).trans (modCleanRecord_other s _ _ _ h)⟩

theorem admitting_locked (w : WaitEntry) (j : OvenId) :
    ((s.admitting w).oven j).locked = (s.oven j).locked := by
  rw [admitting_oven, setOccupancy]
  by_cases hj : w.oven = j
  · rw [hj, modOven_self]
  · rw [modOven_other s _ _ _ hj]

theorem admitting_clears (away : ∀ w ∈ q, w.oven ≠ i) {w : WaitEntry} (hw : w ∈ q)
    (free : (s.oven w.oven).occupancy = .free) : s.Clears i q (s.admitting w) := by
  obtain ⟨same, record⟩ := admitting_other (s := s) (away w hw)
  refine ⟨⟨_, _, _, _, _, _, _, _, rfl⟩, List.filter_sublist, ⟨by rw [same], record⟩, fun j _ => ?_,
    ⟨[w.request], rfl, by simpa using ⟨w, hw, rfl⟩⟩,
    ⟨[], s.up.reportsLost, by rw [reported_nil, admitting_up]⟩⟩
  by_cases hj : w.oven = j
  · subst hj
    refine .inr ⟨⟨w, hw, rfl⟩, free, (admitting_oven w w.oven).trans (modOven_self s _ _), ?_⟩
    rw [admitting_cleanRecord, modCleanRecord_self]
    rfl
  · exact .inl (admitting_other hj)

theorem admitOven_clears (away : ∀ w ∈ q, w.oven ≠ i) {w : WaitEntry} (hw : w ∈ q)
    (free : (s.oven w.oven).occupancy = .free) :
    s.Clears i q ((s.admitOven w.oven w.programme w.seq w.taken .queue).removeWait w.oven) := by
  obtain ⟨built, lost, admitted⟩ := admitOven_reported (s := s) w
  rw [admitted]
  exact (admitting_clears away hw free).trans (.of_reported built lost)

theorem passHeld_clears (b : Bool) :
    s.Clears i q { s with cleaning := { s.cleaning with passHeld := b } } :=
  ⟨⟨_, _, _, _, _, _, _, _, rfl⟩, .refl _, ⟨rfl, rfl⟩, fun _ _ => .inl ⟨rfl, rfl⟩,
    ⟨[], by simp, fun _ h => nomatch h⟩, ⟨[], s.up.reportsLost, by rw [reported_nil]⟩⟩

/-- The walk looks at entries of `q` alone, and `q` holds none of the oven's. -/
theorem passWalk_clears (away : ∀ w ∈ q, w.oven ≠ i) (l : List WaitEntry) (sub : ∀ w ∈ l, w ∈ q) :
    s.Clears i q (passWalk l s) := by
  induction l generalizing s with
  | nil => exact .refl
  | cons w rest ih =>
    have hw : w ∈ q := sub w (by simp)
    have next : ∀ t : State, t.Clears i q (passWalk rest t) := fun t => ih fun x hx => sub x (by simp [hx])
    unfold passWalk
    split
    · exact .refl
    split
    · exact (dropWait_clears w.oven .locked).trans (next _)
    split
    · exact (dropWait_clears w.oven .capability).trans (next _)
    split
    · exact next s
    rename_i busy
    split
    · have free : (s.oven w.oven).occupancy = .free := by
        simp only [Bool.or_eq_true, not_or, occupancyFree, Bool.not_eq_true', Bool.not_eq_false,
          beq_iff_eq] at busy
        exact busy.2
      exact (admitOven_clears away hw free).trans (next _)
    · exact passHeld_clears true

theorem admissionPass_clears (away : ∀ w ∈ q, w.oven ≠ i) (sub : ∀ w ∈ s.cleaning.queue, w ∈ q) :
    s.Clears i q s.admissionPass :=
  (passHeld_clears false).trans (passWalk_clears away _ sub)

/-- A pass leaves the Call Table and the locks. -/
theorem admissionPass_keeps (i : OvenId) : s.admissionPass.calls = s.calls ∧
    (s.admissionPass.oven i).locked = (s.oven i).locked := by
  refine admissionPass_induct (fun t => t.calls = s.calls ∧ (t.oven i).locked = (s.oven i).locked)
    (fun _ _ h => h) (fun t j r h => ?_) (fun t w h _ _ _ _ _ _ _ => ?_) ⟨rfl, rfl⟩
  · obtain ⟨built, lost, dropped, -⟩ := dropWait_reported (s := t) j r
    rw [dropped]
    exact h
  · obtain ⟨built, lost, admitted⟩ := admitOven_reported (s := t) w
    rw [admitted]
    rw [reported_calls, reported_oven, admitting_calls, admitting_locked]
    exact h

end State
end Sys2Proof.Machine
end

section
/-! PROOFS. The retirement of an entry (R17): its calls, its frames and its lock. -/

namespace Sys2Proof.Machine

variable {s t : State} {i : OvenId} {q : List WaitEntry}

/-! ### Calls (R17, R102, R104) -/

/-- What the retirement of oven `i` makes of a call: an unresolved one of the oven is cleared and RESOLVED. -/
def Call.retired (i : OvenId) (c : Call) : Call :=
  if c.oven = some i ∧ c.unresolved = true then { c with cleared := true, state := .resolved } else c

theorem Call.retired_other {c : Call} (h : c.oven ≠ some i) : c.retired i = c :=
  if_neg fun own => h own.1

theorem Call.retired_own {c : Call} (h : c.oven = some i) : c.retired i =
    if c.state = .resolved then c else { c with cleared := true, state := .resolved } := by
  by_cases hr : c.state = .resolved <;> simp [Call.retired, Call.unresolved, h, hr]

theorem Call.retired_state {c : Call} (h : c.oven = some i) : (c.retired i).state = .resolved := by
  rw [Call.retired_own h]
  split
  · assumption
  · rfl

theorem Call.retired_oven (c : Call) : (c.retired i).oven = c.oven := by
  unfold Call.retired
  split <;> rfl

theorem Call.retired_retired (c : Call) : (c.retired i).retired i = c.retired i := by
  by_cases h : c.oven = some i
  · rw [Call.retired_own (c := c.retired i) ((c.retired_oven).trans h), if_pos (Call.retired_state h)]
  · rw [Call.retired_other h, Call.retired_other h]

/-- What SERVICE frames make of a position: nothing, a REPORTED call of an OPEN one, or a free position of a
RESOLVED one. -/
inductive Served : Option Call → Option Call → Prop
  | same (x : Option Call) : Served x x
  | reported {c : Call} (h : c.state = .opened) : Served (some c) (some { c with state := .reported })
  | freed {c : Call} (h : c.state = .resolved) : Served (some c) none

theorem Served.trans {x y z : Option Call} (h : Served x y) (h' : Served y z) : Served x z := by
  cases h with
  | same => exact h'
  | reported opened =>
    cases h' with
    | same => exact .reported opened
    | reported opened' => exact .reported opened
    | freed resolved => cases resolved
  | freed resolved =>
    cases h'
    exact .freed resolved

theorem Served.of_none {x : Option Call} (h : Served none x) : x = none := by
  cases h
  rfl

theorem Served.of_resolved {c : Call} {x : Option Call} (h : Served (some c) x) (resolved : c.state = .resolved) :
    x = none ∨ x = some c := by
  cases h with
  | same => exact .inr rfl
  | reported opened => rw [resolved] at opened; cases opened
  | freed => exact .inl rfl

theorem Served.of_some {c : Call} {x : Option Call} (h : Served (some c) x) : x = some c ∨
    (c.state = .opened ∧ x = some { c with state := .reported }) ∨ (c.state = .resolved ∧ x = none) := by
  cases h with
  | same => exact .inl rfl
  | reported opened => exact .inr (.inl ⟨opened, rfl⟩)
  | freed resolved => exact .inr (.inr ⟨resolved, rfl⟩)

namespace State

theorem setCall_served {p : Fin 32} {x : Option Call} (h : Served (s.call p) x) (r : Fin 32) :
    Served (s.call r) ((s.setCall p x).call r) := by
  by_cases hp : p = r
  · subst hp
    rw [setCall_self]
    exact h
  · rw [setCall_other s p r x hp]
    exact .same _

theorem reportCall_served (p r : Fin 32) : Served (s.call r) ((s.reportCall p).call r) := by
  unfold reportCall
  split
  · rename_i c hc
    split
    · exact setCall_served (hc ▸ .reported ‹_›) r
    · exact setCall_served (x := none) (hc ▸ .freed ‹_›) r
    · exact .same _
  · exact .same _

theorem buildService_served (r : Fin 32) : Served (s.call r) (s.buildService.call r) :=
  buildService_induct (fun t => Served (s.call r) (t.call r))
    (fun _ p h _ _ => h.trans (reportCall_served p r)) (.same _)

theorem retireCall_call (p r : Fin 32) : (s.retireCall i p).call r =
    if r = p then (s.call r).map (Call.retired i) else s.call r := by
  unfold retireCall
  split
  · rename_i c hc
    split
    · rename_i own
      have put : (((s.setCall p (some { c with cleared := true, state := .resolved })).leaveReports
          p).joinReports p).call r =
            (s.setCall p (some { c with cleared := true, state := .resolved })).call r := rfl
      rw [put]
      by_cases hr : r = p
      · rw [if_pos hr, hr, setCall_self, hc, Option.map_some, Call.retired, if_pos own]
      · rw [if_neg hr, setCall_other s _ _ _ (Ne.symm hr)]
    · rename_i other
      by_cases hr : r = p
      · rw [if_pos hr, hr, hc, Option.map_some, Call.retired, if_neg other]
      · rw [if_neg hr]
  · rename_i hc
    by_cases hr : r = p
    · rw [if_pos hr, hr, hc, Option.map_none]
    · rw [if_neg hr]

/-- The walk over the creation order retires the call at each position that stands in it. -/
theorem retireWalk_call (l : List (Fin 32)) (r : Fin 32) :
    (l.foldl (fun t p => t.retireCall i p) s).call r =
      if r ∈ l then (s.call r).map (Call.retired i) else s.call r := by
  induction l generalizing s with
  | nil => rfl
  | cons p rest ih =>
    rw [List.foldl_cons, ih, retireCall_call]
    by_cases here : r = p
    · simp [here, Option.map_map, Function.comp_def, Call.retired_retired]
    · simp [here]

theorem retireCalls_served (r : Fin 32) : Served
    (if r ∈ s.calls.order then (s.call r).map (Call.retired i) else s.call r) ((s.retireCalls i).call r) :=
  retireWalk_call (s := s) (i := i) s.calls.order r ▸ buildService_served r

theorem retireCall_overflow (p : Fin 32) : (s.retireCall i p).calls.overflow = s.calls.overflow := by
  unfold retireCall
  split
  · split <;> rfl
  · rfl

theorem reportCall_overflow (p : Fin 32) : (s.reportCall p).calls.overflow = s.calls.overflow := by
  unfold reportCall
  split
  · split <;> rfl
  · rfl

theorem retireCalls_overflow : (s.retireCalls i).calls.overflow = s.calls.overflow := by
  have walk : ∀ (l : List (Fin 32)) (t : State),
      (l.foldl (fun t p => t.retireCall i p) t).calls.overflow = t.calls.overflow := by
    intro l
    induction l with
    | nil => exact fun _ => rfl
    | cons p rest ih => exact fun t => (ih _).trans (retireCall_overflow p)
  exact buildService_induct (fun t => t.calls.overflow = s.calls.overflow)
    (fun t p h _ _ => (reportCall_overflow p).trans h) (walk _ s)

/-! ### The steps that clear -/

theorem reportCall_clears (p : Fin 32) : s.Clears i q (s.reportCall p) := by
  unfold reportCall
  split
  · split
    · rename_i c _ _ _
      exact .of_calm ⟨_, _, _, _, _, [serviceFrame c .reported], s.up.reportsLost, rfl⟩ rfl fun _ _ => rfl
    · rename_i c _ _ _
      exact .of_calm ⟨_, _, _, _, _, [serviceFrame c .resolved], s.up.reportsLost, rfl⟩ rfl fun _ _ => rfl
    · exact .of_calm ⟨_, _, _, _, _, [], s.up.reportsLost, by rw [reported_nil]; rfl⟩ rfl fun _ _ => rfl
  · exact .of_calm ⟨_, _, _, _, _, [], s.up.reportsLost, by rw [reported_nil]; rfl⟩ rfl fun _ _ => rfl

theorem retireCall_clears (p : Fin 32) : s.Clears i q (s.retireCall i p) := by
  unfold retireCall
  split
  · split
    · exact .of_calm ⟨_, _, _, _, _, [], s.up.reportsLost, by rw [reported_nil]; rfl⟩ rfl fun _ _ => rfl
    · exact .refl
  · exact .refl

theorem retireCalls_clears : s.Clears i q (s.retireCalls i) := by
  have walk : ∀ (l : List (Fin 32)) (t : State),
      t.Clears i q (l.foldl (fun t p => t.retireCall i p) t) := by
    intro l
    induction l with
    | nil => exact fun _ => .refl
    | cons p rest ih => exact fun t => (retireCall_clears p).trans (ih _)
  exact buildService_induct (fun t => s.Clears i q t)
    (fun t p h _ _ => h.trans (reportCall_clears p)) (walk _ s)

theorem setOverflow_clears (b : Bool) : s.Clears i q (s.setOverflow i b) :=
  .of_calm ⟨_, _, _, _, _, [], s.up.reportsLost, by rw [reported_nil]; rfl⟩ rfl fun _ _ => rfl

theorem unlock_clears : s.Clears i q (s.modOven i fun e => { e with locked := false }) := by
  refine .of_calm ⟨_, _, _, _, _, [], s.up.reportsLost, by rw [reported_nil]; rfl⟩ ?_ fun j hj =>
    modOven_other s _ _ _ (Ne.symm hj)
  rw [modOven_self]

theorem relock_clears (away : ∀ w ∈ q, w.oven ≠ i) (sub : ∀ w ∈ s.cleaning.queue, w ∈ q) :
    s.Clears i q (s.relock i) := by
  obtain left | ⟨-, -, cleared⟩ := relock_cases (s := s) i
  · rw [left]; exact .refl
  · exact cleared ▸ unlock_clears.trans (admissionPass_clears away sub)

theorem relock_calls : (s.relock i).calls = s.calls := by
  obtain left | ⟨-, -, cleared⟩ := relock_cases (s := s) i
  · rw [left]
  · rw [cleared]
    exact (admissionPass_keeps i).1

/-- Where nothing holds the lock, it is left clear (R105). -/
theorem relock_locked (h : s.lockDerived i = false) : ((s.relock i).oven i).locked = false := by
  cases locked : (s.oven i).locked with
  | false =>
    obtain left | ⟨set, -, -⟩ := relock_cases (s := s) i
    · rw [left, locked]
    · rw [locked] at set; cases set
  | true =>
    rw [relock, locked, h]
    exact (admissionPass_keeps i).2.trans (by rw [modOven_self])

/-! ### The purge (R142) -/

/-- The oven's frames have left the class queues and are counted. -/
def withoutFrames (s : State) (i : OvenId) : State :=
  { s with down :=
      { s.down.purgedQueues i with
        purged := satAdd max16 s.down.purged (s.down.inUse - (s.down.purgedQueues i).inUse) } }

theorem purge_clears (away : ∀ w ∈ q, w.oven ≠ i) (sub : ∀ w ∈ s.cleaning.queue, w ∈ q) :
    (s.withoutFrames i).Clears i q (s.purge i) := by
  have freed : (s.withoutFrames i).Clears i q (s.withoutFrames i).bufferFreed := by
    unfold bufferFreed
    split
    · exact admissionPass_clears away sub
    · exact .refl
  unfold purge
  dsimp only
  split
  · exact freed
  · exact .refl

theorem purge_calls : (s.purge i).calls = s.calls := by
  have freed : (s.withoutFrames i).bufferFreed.calls = s.calls := by
    unfold bufferFreed
    split
    · exact (admissionPass_keeps i).1
    · rfl
  unfold purge
  dsimp only
  split
  · exact freed
  · rfl

end State
end Sys2Proof.Machine
end

section
/-! PROOFS. OVEN_RETIRE (R17, R142): the steps of a retirement put together. -/

namespace Sys2Proof.Machine

variable {s t v : State} {f : StoreFrame} {i : OvenId} {q : List WaitEntry}

/-- The entry of a retired oven: reset, but for occupancy and lock. -/
def OvenEntry.emptied (e : OvenEntry) : OvenEntry :=
  { OvenEntry.reset with occupancy := e.occupancy, locked := e.locked }

namespace State

/-! ### The steps before the calls -/

/-- Wait entry, update context and step slot of an oven are gone, without the reports of it. -/
def detached (s : State) (i : OvenId) : State :=
  ((s.removeWait i).modUpdate i fun u => { u with state := .idle, queued := 0 }).setSlot i SlotState.reset

/-- The first steps of a retirement without their reports: its frames are gone too. -/
def retiring (s : State) (i : OvenId) : State := (s.detached i).withoutFrames i

theorem modUpdate_modUpdate (g h : UpdateCtx → UpdateCtx) :
    (s.modUpdate i g).modUpdate i h = s.modUpdate i fun u => h (g u) := by
  simp [modUpdate]

theorem modOven_modOven (g h : OvenEntry → OvenEntry) :
    (s.modOven i g).modOven i h = s.modOven i fun e => h (g e) := by
  simp [modOven]

theorem retireUpdate_reported (i : OvenId) : ∃ built lost,
    s.retireUpdate i = (s.modUpdate i fun u => { u with state := .idle }).reported built lost ∧
      ((s.update i).state ≠ .idle → s.up.frames.length < 32 →
        built = [reportUpdateEnd i (s.update i) .retired .noCause ⟨0, 0⟩ s.lineTime]) := by
  by_cases idle : (s.update i).state = .idle
  · refine ⟨[], s.up.reportsLost, ?_, fun h => absurd idle h⟩
    have same : (s.modUpdate i fun u => { u with state := .idle }) = s := by
      have held : { s.updates[i] with state := .idle } = s.updates[i] := by
        rw [← show s.updates[i].state = .idle from idle]
      simp only [modUpdate, held]
      simp
    rw [retireUpdate, if_pos idle, same, reported_nil]
  · obtain ⟨built, lost, offered, -, room⟩ :=
      offerReport_reported (s := s.modUpdate i fun u => { u with state := .idle })
        (reportUpdateEnd i ((s.modUpdate i fun u => { u with state := .idle }).update i) .retired .noCause
          ⟨0, 0⟩ s.lineTime)
    refine ⟨built, lost, ?_, fun _ h => (room h).trans ?_⟩
    · rw [retireUpdate, if_neg idle]
      exact offered
    · rw [modUpdate_self]
      rfl

/-- The state in which the oven's frames are purged. -/
theorem retire_before_purge (s : State) (i : OvenId) : ∃ first lost,
    (((s.dropWait i .retired).retireUpdate i).modUpdate i fun u => { u with queued := 0 }).setSlot i
      SlotState.reset = (s.detached i).reported first lost ∧
    (∀ w, s.cleaning.queue.find? (fun w => w.oven == i) = some w → s.up.frames.length < 32 →
      reportCleanDropped w .retired s.lineTime ∈ first) ∧
    ((s.update i).state ≠ .idle → s.up.frames.length < 31 →
      reportUpdateEnd i (s.update i) .retired .noCause ⟨0, 0⟩ s.lineTime ∈ first) := by
  obtain ⟨a, m, dropped, few, waited⟩ := dropWait_reported (s := s) i .retired
  obtain ⟨b, n, updated, ended⟩ := retireUpdate_reported (s := (s.removeWait i).reported a m) i
  refine ⟨a ++ b, n, ?_, fun w found room => by simp [waited w found room], fun busy room => ?_⟩
  · have twice := modUpdate_modUpdate (s := s.removeWait i) (i := i) (fun u => { u with state := .idle })
      fun u => { u with queued := 0 }
    rw [dropped, updated, ← reported_reported a b m n, detached, ← twice]
    rfl
  · have shorter : ((s.removeWait i).reported a m).up.frames.length < 32 := by
      simp only [reported, removeWait, List.length_append]
      omega
    rw [ended busy shorter]
    exact List.mem_append_right a (List.mem_singleton.mpr rfl)

/-! ### The last step -/

/-- The entry and watch a retirement leaves (R17). -/
def emptied (v : State) (i : OvenId) : State := (v.modOven i OvenEntry.emptied).setWatch i none

/-- The last step of R17: VACANT with its report, the entry and the watch gone. -/
def vacate (v : State) (i : OvenId) : State :=
  ((v.setPresence i .vacant .retire).modOven i fun e =>
    { e with record := none, announced := none, service := false,
             counters := OvenCounters.reset }).setWatch i none

theorem vacate_reported (v : State) (i : OvenId) : ∃ last lost, v.vacate i = (v.emptied i).reported last lost ∧
    last.length ≤ 1 ∧ (v.up.frames.length < 32 → last =
      [reportOvenState i (v.oven i).presence .vacant .retire (((v.oven i).record.map (·.serial)).getD 0)
        v.lineTime]) := by
  obtain ⟨last, lost, offered, few, room⟩ :=
    offerReport_reported (s := v.modOven i fun e => { e with presence := .vacant })
      (reportOvenState i (v.oven i).presence .vacant .retire ((v.oven i).reportSerial .retire) v.lineTime)
  refine ⟨last, lost, ?_, few, room⟩
  rw [vacate, setPresence, offered, emptied]
  have entry : v.modOven i OvenEntry.emptied =
      (v.modOven i fun e => { e with presence := .vacant }).modOven i fun e =>
        { e with record := none, announced := none, service := false, counters := OvenCounters.reset } := by
    rw [modOven_modOven]
    rfl
  rw [entry]
  rfl

theorem call_of_calls (h : t.calls = s.calls) (r : Fin 32) : t.call r = s.call r := by
  rw [call, call, h]

theorem lockDerived_of_calls (h : t.calls = s.calls) : t.lockDerived i = s.lockDerived i := by
  simp only [lockDerived, call, h]

theorem setOverflow_call (b : Bool) (r : Fin 32) : (s.setOverflow i b).call r = s.call r := rfl

theorem setOverflow_overflow (b : Bool) : (s.setOverflow i b).calls.overflow = s.calls.overflow.set i b := rfl

/-- The steps of a retirement: up to the purge, with the reports `first`; what clears, up to `v`; the last. -/
structure Retires (s : State) (i : OvenId) (first : List KFrame) (v : State) : Prop where
  dropped : ∀ w, s.cleaning.queue.find? (fun w => w.oven == i) = some w → s.up.frames.length < 32 →
    reportCleanDropped w .retired s.lineTime ∈ first
  ended : (s.update i).state ≠ .idle → s.up.frames.length < 31 →
    reportUpdateEnd i (s.update i) .retired .noCause ⟨0, 0⟩ s.lineTime ∈ first
  clears : ∃ lost, ((s.retiring i).reported first lost).Clears i (s.removeWait i).cleaning.queue v
  overflow : v.calls.overflow = s.calls.overflow.set i false
  served : ∀ r, Served (if r ∈ s.calls.order then (s.call r).map (Call.retired i) else s.call r) (v.call r)
  unlocked : v.lockDerived i = false → (v.oven i).locked = false

theorem removeWait_away : ∀ w ∈ (s.removeWait i).cleaning.queue, w.oven ≠ i := by
  intro w hw
  simpa using (List.mem_filter.mp hw).2

theorem retire_steps (s : State) (i : OvenId) : ∃ first v, s.Retires i first v ∧ s.retire i = v.vacate i := by
  obtain ⟨first, lost, before, dropped, ended⟩ := retire_before_purge s i
  obtain ⟨x, hx⟩ : ∃ x, x = (s.detached i).reported first lost := ⟨_, rfl⟩
  refine ⟨first, ((((x.purge i).retireCalls i).setOverflow i false).relock i), ⟨dropped, ended, ⟨lost, ?_⟩, ?_,
    fun r => ?_, fun free => ?_⟩, by rw [hx, ← before]; rfl⟩
  · have start : (s.retiring i).reported first lost = x.withoutFrames i := hx ▸ rfl
    have queue : x.cleaning.queue = (s.removeWait i).cleaning.queue := hx ▸ rfl
    have purged := purge_clears (s := x) removeWait_away fun w hw => queue ▸ hw
    have calm := (purged.trans retireCalls_clears).trans (setOverflow_clears false)
    rw [start]
    exact calm.trans (relock_clears removeWait_away fun w hw => queue ▸ calm.queue.subset hw)
  · have calls : (x.purge i).calls = s.calls := purge_calls.trans (hx ▸ rfl)
    rw [relock_calls, setOverflow_overflow, retireCalls_overflow, calls]
  · have calls : (x.purge i).calls = s.calls := purge_calls.trans (hx ▸ rfl)
    have served := retireCalls_served (s := x.purge i) (i := i) r
    rw [call_of_calls calls, calls] at served
    rw [call_of_calls relock_calls, setOverflow_call]
    exact served
  · rw [lockDerived_of_calls relock_calls] at free
    exact relock_locked free

end State
end Sys2Proof.Machine
end

section
/-! PROOFS. OVEN_RETIRE (R17, R142): what a retirement leaves. -/

namespace Sys2Proof.Machine

variable {s t v : State} {f : StoreFrame} {i : OvenId} {first : List KFrame}

namespace State

/-! ### The first steps without their reports -/

theorem retiring_ovens : (s.retiring i).ovens = s.ovens := by cases s; rfl

theorem retiring_watches : (s.retiring i).watches = s.watches := by cases s; rfl

theorem retiring_slots : (s.retiring i).slots = s.slots.set i SlotState.reset := by cases s; rfl

theorem retiring_updates : (s.retiring i).updates =
    s.updates.set i { s.updates[i] with state := .idle, queued := 0 } := by cases s; rfl

theorem retiring_records : (s.retiring i).cleaning.records = s.cleaning.records := by cases s; rfl

theorem retiring_queue : (s.retiring i).cleaning.queue = s.cleaning.queue.filter fun w => w.oven != i := by
  cases s; rfl

theorem retiring_up : (s.retiring i).up = s.up := by cases s; rfl

theorem retiring_lineTime : (s.retiring i).lineTime = s.lineTime := by cases s; rfl

theorem retiring_down : (s.retiring i).down = (s.withoutFrames i).down := by cases s; rfl

theorem retiring_oven (j : OvenId) : (s.retiring i).oven j = s.oven j := by
  rw [oven, oven, retiring_ovens]

theorem retiring_cleanRecord (j : OvenId) : (s.retiring i).cleanRecord j = s.cleanRecord j := by
  rw [cleanRecord, cleanRecord, retiring_records]

namespace Retires

/-! ### The state before the last step -/

theorem contexts (h : s.Retires i first v) : v.watches = s.watches ∧
    v.slots = s.slots.set i SlotState.reset ∧
    v.updates = s.updates.set i { s.updates[i] with state := .idle, queued := 0 } ∧
    v.lineTime = s.lineTime := by
  obtain ⟨lost, clears⟩ := h.clears
  obtain ⟨watches, slots, updates, lineTime⟩ := clears.keeps
  rw [watches, slots, updates, lineTime, ← retiring_watches (s := s) (i := i),
    ← retiring_slots (s := s) (i := i), ← retiring_updates (s := s) (i := i),
    ← retiring_lineTime (s := s) (i := i)]
  exact ⟨rfl, rfl, rfl, rfl⟩

theorem own (h : s.Retires i first v) : (v.oven i).presence = (s.oven i).presence ∧
    (v.oven i).record = (s.oven i).record ∧ (v.oven i).occupancy = (s.oven i).occupancy ∧
    v.cleanRecord i = s.cleanRecord i := by
  obtain ⟨lost, clears⟩ := h.clears
  obtain ⟨entry, record⟩ := clears.own
  rw [reported_oven, retiring_oven] at entry
  have presence := congrArg OvenEntry.presence entry
  have commission := congrArg OvenEntry.record entry
  have occupancy := congrArg OvenEntry.occupancy entry
  exact ⟨presence, commission, occupancy, record.trans (retiring_cleanRecord i)⟩

theorem others (h : s.Retires i first v) {j : OvenId} (hj : j ≠ i) :
    s.MayAdmit (s.removeWait i).cleaning.queue v j := by
  obtain ⟨lost, clears⟩ := h.clears
  have may := clears.others j hj
  have record : ((s.retiring i).reported first lost).cleanRecord j = s.cleanRecord j := retiring_cleanRecord j
  rw [MayAdmit, reported_oven, retiring_oven, record] at may
  exact may

theorem queue (h : s.Retires i first v) : v.cleaning.queue.Sublist (s.removeWait i).cleaning.queue := by
  obtain ⟨lost, clears⟩ := h.clears
  exact (clears.queue.trans (retiring_queue (s := s) (i := i) ▸ .refl _))

theorem up (h : s.Retires i first v) : ∃ built lost, v.up = (s.reported (first ++ built) lost).up := by
  obtain ⟨lost, clears⟩ := h.clears
  obtain ⟨built, lost', told⟩ := clears.reports
  refine ⟨built, lost', told.trans ?_⟩
  rw [reported_reported, reported, retiring_up]
  rfl

theorem requests (h : s.Retires i first v) : ∃ more,
    v.down = { (s.withoutFrames i).down with
      classes := (s.withoutFrames i).down.classes.set 1 ((s.withoutFrames i).down.classes[1] ++ more) } ∧
    ∀ fr ∈ more, ∃ w ∈ (s.removeWait i).cleaning.queue, fr = w.request := by
  obtain ⟨lost, clears⟩ := h.clears
  obtain ⟨more, frames, requests⟩ := clears.requests
  rw [reported_down, retiring_down] at frames
  exact ⟨more, frames, requests⟩

/-! ### The calls -/

theorem call_none (h : s.Retires i first v) {p : Fin 32} (free : s.call p = none) : v.call p = none := by
  have served := h.served p
  rw [free, Option.map_none, ite_self] at served
  exact served.of_none

/-- Every call of the oven stands in the creation order, so the walk has met it. -/
theorem call_own (h : s.Retires i first v) (law : NumberLaw s) {p : Fin 32} {c : Call}
    (held : s.call p = some c) (own : c.oven = some i) :
    v.call p = none ∨ v.call p = some (c.retired i) := by
  obtain ⟨-, -, -, ordered⟩ := law
  have served := h.served p
  rw [if_pos (ordered p c held), held] at served
  exact served.of_resolved (Call.retired_state own)

theorem call_other (h : s.Retires i first v) {p : Fin 32} {c : Call} (held : s.call p = some c)
    (other : c.oven ≠ some i) : v.call p = some c ∨
      (c.state = .opened ∧ v.call p = some { c with state := .reported }) ∨
      (c.state = .resolved ∧ v.call p = none) := by
  have served := h.served p
  rw [held, Option.map_some, Call.retired_other other, ite_self] at served
  exact served.of_some

/-- No call left unresolved is the oven's, and its overflow bit is clear. -/
theorem lock_free (h : s.Retires i first v) (law : NumberLaw s) : (v.oven i).locked = false := by
  refine h.unlocked ?_
  have overflow : v.calls.overflow[i] = false := by rw [h.overflow]; simp
  rw [lockDerived, overflow, Bool.false_or, List.any_eq_false]
  intro p _
  cases held : s.call p with
  | none => simp [h.call_none held]
  | some c =>
    by_cases own : c.oven = some i
    · obtain gone | kept := h.call_own law held own
      · simp [gone]
      · simp [kept, Call.unresolved, Call.retired_state own]
    · obtain kept | ⟨-, kept⟩ | ⟨-, gone⟩ := h.call_other held own
      · simp [kept, own]
      · simp [kept, own]
      · simp [gone]

/-! ### The state after the last step -/

theorem emptied_oven (j : OvenId) : (v.emptied i).oven j = (v.modOven i OvenEntry.emptied).oven j := rfl

theorem emptied_self : (v.emptied i).oven i = (v.oven i).emptied := by
  rw [emptied_oven, modOven_self]

theorem emptied_other {j : OvenId} (h : j ≠ i) :
    (v.emptied i).oven j = v.oven j ∧ (v.emptied i).watch j = v.watch j := by
  rw [emptied_oven, modOven_other v i j _ (Ne.symm h), emptied, setWatch_other _ i j none (Ne.symm h)]
  exact ⟨rfl, rfl⟩

theorem emptied_entry (h : s.Retires i first v) (free : (s.oven i).occupancy = .free) :
    { (v.emptied i).oven i with locked := false } = OvenEntry.reset := by
  obtain ⟨-, -, occupancy, -⟩ := h.own
  rw [emptied_self, OvenEntry.emptied, occupancy, free]
  rfl

theorem emptied_locked (h : s.Retires i first v) (law : NumberLaw s) :
    ((v.emptied i).oven i).locked = false := by
  rw [emptied_self]
  exact h.lock_free law

theorem emptied_slot (h : s.Retires i first v) : (v.emptied i).slot i = SlotState.reset ∧
    ∀ j, j ≠ i → (v.emptied i).slot j = s.slot j := by
  obtain ⟨-, slots, -⟩ := h.contexts
  have same : ∀ j, (v.emptied i).slot j = (s.setSlot i SlotState.reset).slot j :=
    fun j => congrArg (fun x : Vector SlotState 16 => x[j]) slots
  exact ⟨(same i).trans (setSlot_self s _ _), fun j hj => (same j).trans (setSlot_other s _ _ _ (Ne.symm hj))⟩

theorem emptied_update (h : s.Retires i first v) :
    (v.emptied i).update i = { s.update i with state := .idle, queued := 0 } ∧
      ∀ j, j ≠ i → (v.emptied i).update j = s.update j := by
  obtain ⟨-, -, updates, -⟩ := h.contexts
  have same : ∀ j, (v.emptied i).update j =
      (s.modUpdate i fun u => { u with state := .idle, queued := 0 }).update j :=
    fun j => congrArg (fun x : Vector UpdateCtx 16 => x[j]) updates
  exact ⟨(same i).trans (modUpdate_self s _ _),
    fun j hj => (same j).trans (modUpdate_other s _ _ _ (Ne.symm hj))⟩

/-- Of the other entries a retirement changes those it admits from the wait queue. -/
theorem emptied_others (h : s.Retires i first v) {j : OvenId} (hj : j ≠ i) :
    (v.emptied i).watch j = s.watch j ∧ s.MayAdmit s.cleaning.queue (v.emptied i) j := by
  obtain ⟨watches, -⟩ := h.contexts
  obtain ⟨entry, watch⟩ := emptied_other (v := v) hj
  have record : (v.emptied i).cleanRecord j = v.cleanRecord j := rfl
  refine ⟨watch.trans (congrArg (fun x : Vector (Option Watch) 16 => x[j]) watches), ?_⟩
  rw [MayAdmit, entry, record]
  exact (h.others hj).imp_right fun ⟨⟨w, waits, own⟩, admitted⟩ =>
    ⟨⟨w, (List.mem_filter.mp waits).1, own⟩, admitted⟩

/-- The fields a retirement leaves are as they were. -/
theorem emptied_rest (h : s.Retires i first v) (g : EthAddr) :
    { v.emptied i with
      gateway := g, ovens := s.ovens, watches := s.watches, slots := s.slots,
      updates := s.updates, cleaning := s.cleaning, up := s.up,
      calls := { v.calls with
        slots := s.calls.slots, order := s.calls.order, reports := s.calls.reports,
        overflow := s.calls.overflow }
      down := { v.down with classes := s.down.classes, purged := s.down.purged } } =
    { s with gateway := g } ∧ v.gateway = s.gateway := by
  obtain ⟨more, down, -⟩ := h.requests
  rw [down]
  clear down
  obtain ⟨lost, clears⟩ := h.clears
  obtain ⟨_, _, _, _, _, _, _, _, rfl⟩ := clears.rest
  clear h clears
  cases s
  exact ⟨rfl, rfl⟩

end Retires
end State

/-! ### The class queues after the purge (R142) -/

/-- The frames of a class queue after the purge. -/
def Down.kept (d : Down) (i : OvenId) (k : Fin 4) : List DownFrame := purgeClass i (d.sending k) d.classes[k]

theorem Down.purgedQueues_class (d : Down) (i : OvenId) (k : Fin 4) :
    (d.purgedQueues i).classes[k] = d.kept i k := by
  simp [Down.purgedQueues, Down.kept]

theorem Down.kept_waiting {d : Down} {k : Fin 4} (h : ∀ x, d.tx = some x → x.source ≠ .cls k) :
    d.kept i k = d.classes[k].filter fun fr => fr.frame.oven != ovenByte i := by
  have idle : d.sending k = false := by
    cases tx : d.tx with
    | none => simp [Down.sending, tx]
    | some x => simpa [Down.sending, tx] using h x tx
  rw [Down.kept, idle]
  rfl

theorem Down.kept_sending {d : Down} {k : Fin 4} {x : LineTx} (tx : d.tx = some x) (source : x.source = .cls k) :
    (d.classes[k] = [] → d.kept i k = []) ∧ ∀ h rest, d.classes[k] = h :: rest → d.kept i k =
      (if h.frame.oven = ovenByte i then { h with live := false } else h) ::
        rest.filter fun fr => fr.frame.oven != ovenByte i := by
  have busy : d.sending k = true := by simp [Down.sending, tx, source]
  rw [Down.kept, busy]
  exact ⟨fun empty => by rw [empty]; rfl, fun h rest held => by rw [held]; rfl⟩

/-- The classes after a pass has put requests in class 1. -/
theorem classes_of_requests {d : Vector (List DownFrame) 4} (more : List DownFrame) (k : Fin 4) :
    (d.set 1 (d[1] ++ more))[k] = d[k] ++ if k = 1 then more else [] := by
  by_cases hk : k = 1
  · subst hk
    simp
  · have : (1 : Nat) ≠ k.val := fun e => hk (Fin.ext e.symm)
    simp [hk, this]

/-! ### OVEN_RETIRE -/

theorem doOvenRetire_badField (h : Requested s f 11 [1]) (saving : s.saving = none) (none : NoOven f) :
    doOvenRetire f s = (s.fromGateway f).replies f { result := .badField } :=
  control_replies h (by decide) (fun _ => saving) rfl (forAddress_none none)

theorem doOvenRetire_state (h : RequestedFor s f 11 [1] i) (saving : s.saving = none)
    (vacant : (s.oven i).presence = .vacant) :
    doOvenRetire f s = (s.fromGateway f).replies f { result := .state } := by
  refine control_replies h.1 (by decide) (fun _ => saving) rfl ?_
  rw [forAddress_some h.2]
  exact if_pos vacant

theorem doOvenRetire_occupied (h : RequestedFor s f 11 [1] i) (saving : s.saving = none)
    (present : (s.oven i).presence ≠ .vacant) (busy : (s.oven i).occupancy ≠ .free) :
    doOvenRetire f s = (s.fromGateway f).replies f { result := .occupied } := by
  refine control_replies h.1 (by decide) (fun _ => saving) rfl ?_
  rw [forAddress_some h.2]
  exact (if_neg present).trans (if_pos busy)

theorem doOvenRetire_done (h : RequestedFor s f 11 [1] i) (saving : s.saving = none)
    (present : (s.oven i).presence ≠ .vacant) (free : (s.oven i).occupancy = .free) :
    doOvenRetire f s = ((s.fromGateway f).retire i).replies f { result := .done } := by
  refine control_replies h.1 (by decide) (fun _ => saving) rfl ?_
  rw [forAddress_some h.2]
  exact (if_neg present).trans (if_neg (not_not_intro free))

/-- The frames purged and the pool's count (R142). -/
theorem withoutFrames_down (s : State) (i : OvenId) : (s.withoutFrames i).down.purged =
    min 65535 (s.down.purged + (s.down.inUse - ((s.down.kept i 0).length + (s.down.kept i 1).length +
      (s.down.kept i 2).length + (s.down.kept i 3).length))) := by
  have count : (s.down.purgedQueues i).inUse = (s.down.kept i 0).length + (s.down.kept i 1).length +
      (s.down.kept i 2).length + (s.down.kept i 3).length := by
    simp only [← Down.purgedQueues_class]
    rfl
  rw [← count]
  rfl

/-- The class queues a retirement leaves: what the purge kept, and in class 1 the REQUESTs of admitted ovens. -/
theorem retired_classes (h : s.Retires i first v) : ∃ more : Fin 4 → List DownFrame,
    v.down.purged = (s.withoutFrames i).down.purged ∧
    ∀ k : Fin 4, v.down.classes[k] = s.down.kept i k ++ more k ∧ (k ≠ 1 → more k = []) ∧
      ∀ fr ∈ more k, ∃ w ∈ s.cleaning.queue, w.oven ≠ i ∧ fr = w.request := by
  obtain ⟨more, down, requests⟩ := h.requests
  refine ⟨fun k => if k = 1 then more else [], by rw [down], fun k => ⟨?_, fun other => if_neg other,
    fun fr joined => ?_⟩⟩
  · rw [down, ← Down.purgedQueues_class]
    exact classes_of_requests more k
  · by_cases hk : k = 1
    · obtain ⟨w, waits, request⟩ := requests fr (by simpa [hk] using joined)
      obtain ⟨held, away⟩ := List.mem_filter.mp waits
      exact ⟨w, held, by simpa using away, request⟩
    · simp [hk] at joined

/-- The first wait entry of the oven in the queue is the one that is dropped. -/
theorem find_wait {before after : List WaitEntry} {w : WaitEntry} (queue : s.cleaning.queue = before ++ w :: after)
    (own : w.oven = i) (none : ∀ y ∈ before, y.oven ≠ i) :
    s.cleaning.queue.find? (fun w => w.oven == i) = some w := by
  rw [queue, List.find?_append, List.find?_eq_none.mpr (by simpa using none), Option.none_or,
    List.find?_cons_of_pos (by simpa using own)]

/-- Settles O23: a retirement is its first steps, what clears, and its last step. -/
theorem ovenRetire : Obligations.OvenRetire := by
  refine ⟨fun s f h saving none => congrArg Host.Outcome.next (doOvenRetire_badField h saving none),
    fun s f i h saving => ?_⟩
  intro a others inUse
  refine ⟨fun vacant => congrArg Host.Outcome.next (doOvenRetire_state h saving vacant),
    fun present busy => congrArg Host.Outcome.next (doOvenRetire_occupied h saving present busy),
    fun present free => ?_⟩
  obtain ⟨first, v, steps, retired⟩ := State.retire_steps a i
  obtain ⟨last, lost, gone, few, room⟩ := v.vacate_reported i
  obtain ⟨built, lost', up⟩ := steps.up
  obtain ⟨more, purged, classes⟩ := retired_classes steps
  obtain ⟨-, -, -, lineTime⟩ := steps.contexts
  obtain ⟨presence, record, -, cleanRecord⟩ := steps.own
  obtain ⟨rest, gateway⟩ := steps.emptied_rest s.gateway
  have done : doOvenRetire f s = ((v.emptied i).reported last lost).replies f { result := .done } := by
    rw [doOvenRetire_done h saving present free, ← gone, ← retired]
  have frames : v.up.frames ++ last = s.up.frames ++ (first ++ built ++ last) := by
    rw [up]
    exact List.append_assoc _ _ _
  have repliesLost := congrArg Up.repliesLost up
  have tx := congrArg Up.tx up
  have told : ∀ {x}, x ∈ first → x ∈ first ++ built ++ last := fun hx => by simp [hx]
  refine ⟨(v.emptied i).reported last lost, a.down.kept i, more, first ++ built ++ last,
    congrArg Host.Outcome.next done, steps.emptied_entry free, steps.emptied_locked,
    State.setWatch_self _ _ _, steps.emptied_slot.1, steps.emptied_update.1, steps.overflow,
    fun p => steps.call_none, fun law p c held own => ?_, fun p c => steps.call_other, fun k => ?_, ?_,
    ?_, ?_, cleanRecord, fun j hj => ?_, frames, ?_, ?_, ?_, ?_, ?_, rest, gateway⟩
  · rw [← Call.retired_own own]
    exact steps.call_own law held own
  · obtain ⟨split, only, requests⟩ := classes k
    exact ⟨split, Down.kept_waiting, fun x => Down.kept_sending, only, requests⟩
  · exact purged.trans (withoutFrames_down a i)
  · exact steps.queue.trans List.filter_sublist
  · exact fun w hw => State.removeWait_away w (steps.queue.subset hw)
  · obtain ⟨watch, admitted⟩ := steps.emptied_others hj
    exact ⟨watch, steps.emptied_slot.2 j hj, steps.emptied_update.2 j hj, admitted⟩
  · exact repliesLost
  · exact tx
  · exact fun before w after queue own none short =>
      told (steps.dropped w (find_wait queue own none) short)
  · exact fun busy short => told (steps.ended busy short)
  · intro short
    have space : v.up.frames.length < 32 := by
      have : (v.up.frames ++ last).length < 32 := short
      rw [List.length_append] at this
      omega
    rw [room space, presence, record, lineTime, List.getLast?_append]
    rfl

end Sys2Proof.Machine
end

section
/-! PROOFS. The way of a CONTROL request during a SAVE and a TABLE_CLEAR and outside them; the masks, the two maps,
and TABLE_CLEAR. -/

namespace Sys2Proof.Machine

variable {s u : State} {f : StoreFrame} {r : Fin 512} {g : Gate} {a : Reply}

/-! ### The way of a request to its answer (R37, R157, R158) -/

/-- The common checks let a request through. -/
structure Passes (s : State) (g : Gate) (f : StoreFrame) : Prop where
  requested : Requested s f g.code g.lengths
  saving : g.saved = true → s.saving = none
  clearing : g.clear ≠ .taken → s.clearing = none
  short : ∀ n ∈ g.lengths, n ≤ maxPayload

theorem Passes.of_table (h : RequestedTable s f g.code g.lengths) (short : ∀ n ∈ g.lengths, n ≤ maxPayload) :
    Passes s g f :=
  ⟨h.1, fun _ => h.2.1, fun _ => h.2.2, short⟩

/-- A request that is let through acts. -/
theorem Passes.control (h : Passes s g f) (act : State → Answered) :
    s.control g f act = (act (s.fromGateway f)).finish (replyTo clsControl f) := by
  obtain ⟨⟨ready, noReset, part, code, len, allowed⟩, saving, clearing, short⟩ := h
  exact control_pass g act ready noReset part code len allowed (short _ allowed) saving clearing

/-- Its REPLY is offered after its effect. -/
theorem Passes.replies (h : Passes s g f) {act : State → Answered}
    (done : act (s.fromGateway f) = { after := u, reply := some a }) : s.control g f act = u.replies f a := by
  rw [h.control, done]
  rfl

theorem recipeOf_none (h : NoRecipe f) : recipeOf (field f.payload 0 2) = none := by
  unfold recipeOf
  rw [dif_neg (by omega)]

theorem forRecipe_some {act : Fin 512 → Answered} (h : recipeOf (field f.payload 0 2) = some r) :
    s.forRecipe f act = act r := by
  rw [State.forRecipe, h]

/-- A request that names a recipe. -/
theorem Passes.recipe (h : Passes s g f) {act : State → Fin 512 → Answered}
    (named : recipeOf (field f.payload 0 2) = some r)
    (done : act (s.fromGateway f) r = { after := u, reply := some a }) :
    s.control g f (fun t => t.forRecipe f (act t)) = u.replies f a :=
  h.replies ((forRecipe_some named).trans done)

theorem Passes.noRecipe (h : Passes s g f) {act : State → Fin 512 → Answered}
    (none : recipeOf (field f.payload 0 2) = none) :
    s.control g f (fun t => t.forRecipe f (act t)) = (s.fromGateway f).replies f { result := .badField } := by
  refine h.replies ?_
  rw [State.forRecipe, none]
  rfl

/-- A request that fails a common check is answered with the refusal alone. -/
theorem control_refused {act : State → Answered} (ready : s.phase = .ready) (part : f.oven = 0)
    (len : f.len.toNat = f.payload.length) (short : f.payload.length ≤ maxPayload)
    (refusal : (s.fromGateway f).gateRefusal g f = some a) :
    s.control g f act = (s.fromGateway f).replies f a := by
  unfold State.control
  rw [arriveStore_pass clsControl _ ready len short (by simp [part, storeAddressOk])]
  dsimp only
  rw [refusal]
  rfl

section
variable (noReset : s.softReset = none) (part : f.oven = 0) (code : f.tag = g.code)
include noReset part code

theorem gateRefusal_saving (saved : g.saved = true) (saving : s.saving.isSome = true) :
    s.gateRefusal g f = some { result := .busy, detail := 6 } := by
  simp [State.gateRefusal, noReset, part, code, saved, saving]

theorem gateRefusal_clearing (saving : s.saving = none) (clearing : s.clearing.isSome = true)
    (refused : g.clear ≠ .taken) : s.gateRefusal g f = g.clear.refusal := by
  simp [State.gateRefusal, noReset, part, code, saving, clearing, refused]

theorem gateRefusal_length (saving : s.saving = none) (clearing : s.clearing = none)
    (length : f.payload.length ∉ g.lengths) : s.gateRefusal g f = some { result := .badField } := by
  simp [State.gateRefusal, noReset, part, code, saving, clearing, length]

end

/-! ### TABLE_CLEAR (R36, R38) -/

theorem anyCook_iff : s.anyCook = true ↔ ∃ i, (s.cook i).state ≠ .idle := by
  simp [State.anyCook, allOvens]

theorem doTableClear_begins (h : RequestedTable s f 31 [0]) (idle : ∀ i, (s.cook i).state = .idle) :
    doTableClear f s = { s.fromGateway f with clearing := some (replyTo clsControl f) } := by
  have none : ¬ (s.fromGateway f).anyCook = true := by
    rw [anyCook_iff]
    exact not_exists.mpr fun i => not_not.mpr (idle i)
  refine ((Passes.of_table h (by decide)).control _).trans ?_
  rw [if_neg none]
  rfl

theorem doTableClear_busy (h : RequestedTable s f 31 [0]) {i : OvenId} (cooking : (s.cook i).state ≠ .idle) :
    doTableClear f s = (s.fromGateway f).replies f { result := .busy } := by
  have any : (s.fromGateway f).anyCook = true := anyCook_iff.mpr ⟨i, cooking⟩
  exact (Passes.of_table h (by decide)).replies (if_pos any)

/-- The two tables at their reset values, and the clear over (R38). -/
def State.cleared (s : State) : State :=
  { s with
    recipes := Vector.replicate 512 RecipeEntry.reset
    steps := Vector.replicate 768 StepRec.blank
    clearing := none }

theorem doTableClearCompletion_clearing {x : ReplyTo} (h : s.clearing = some x) :
    doTableClearCompletion s = s.cleared.offerReply (replyFrame x { result := .done }) := by
  rw [doTableClearCompletion, h]
  rfl

theorem cleared_recipe (n : Fin 512) : s.cleared.recipe n = RecipeEntry.reset := by
  simp [State.cleared, State.recipe]

theorem cleared_stepRec (k : Nat) : s.cleared.stepRec k = StepRec.blank := by
  simp [State.cleared, State.stepRec]

/-- Settles O32. -/
theorem tableClear : Obligations.TableClear := by
  refine ⟨fun s f h => ⟨fun idle => ?_, fun i cooking => ?_⟩, fun s x h => ?_⟩
  · exact congrArg Host.Outcome.next (doTableClear_begins h idle)
  · exact congrArg Host.Outcome.next (doTableClear_busy h cooking)
  · exact ⟨s.cleared, congrArg Host.Outcome.next (doTableClearCompletion_clearing h), rfl, cleared_recipe,
      cleared_stepRec, rfl⟩

/-! ### MAP_SET (R29) -/

theorem doMapSet_done (h : RequestedTable s f 21 [7]) (named : recipeOf (field f.payload 0 2) = some r)
    (dayparts : byteAt f.payload 2 < 16) (even : field f.payload 3 4 % 2 = 0)
    (addresses : field f.payload 3 4 < 131072) : doMapSet f s =
      ((s.fromGateway f).modRecipe r fun e =>
        { e with dayparts := BitVec.ofNat 4 (byteAt f.payload 2),
                 permit := BitVec.ofNat 16 (field f.payload 3 4 / 2) }).replies f { result := .done } := by
  refine (Passes.of_table h (by decide)).recipe named ?_
  rw [daypartMask, if_pos dayparts, permitMask, if_pos ⟨even, addresses⟩]
  rfl

theorem doMapSet_badField (h : RequestedTable s f 21 [7]) (named : recipeOf (field f.payload 0 2) = some r)
    (bad : 16 ≤ byteAt f.payload 2 ∨ field f.payload 3 4 % 2 = 1 ∨ 131072 ≤ field f.payload 3 4) :
    doMapSet f s = (s.fromGateway f).replies f { result := .badField } := by
  refine (Passes.of_table h (by decide)).recipe named ?_
  rcases bad with dayparts | permit
  · rw [daypartMask, if_neg (by omega)]
    rfl
  · rw [show permitMask (field f.payload 3 4) = none from if_neg (by omega)]
    cases daypartMask (byteAt f.payload 2) <;> rfl

/-! ### The class map (R141) and the severity map (R96) -/

theorem below_some {n x : Nat} {k : Fin n} (h : x = k.val) : below n x = some k := by
  subst h
  exact dif_pos k.isLt

theorem below_none {n x : Nat} (h : n ≤ x) : below n x = none := dif_neg (by omega)

theorem faultCode_some {x : Nat} {k : Fin 199} (h : x = k.val + 1) : faultCode x = some k := by
  subst h
  exact dif_pos (by omega)

theorem faultCode_none {x : Nat} (h : x = 0 ∨ 199 < x) : faultCode x = none := dif_neg (by omega)

theorem severity_ofCode_code (v : Severity) : Severity.ofCode v.code = some v := by
  cases v <;> rfl

theorem severity_ofCode_none : {y : Nat} → 3 < y → Severity.ofCode y = none
  | _ + 4, _ => rfl

theorem doClassMapWrite_done (h : Requested s f 40 [2]) (saving : s.saving = none) {k : Fin 64} {c : Fin 4}
    (entry : byteAt f.payload 0 = k.val) (value : byteAt f.payload 1 = c.val) : doClassMapWrite f s =
      ({ s.fromGateway f with
          classMap := s.classMap.set k c
          cursor := some { table := .classMap, index := k.val + 1 } } : State).replies f
        { result := .done } := by
  refine control_replies h (by decide) (fun _ => saving) rfl ?_
  rw [below_some entry, below_some value]
  rfl

theorem doClassMapWrite_badField (h : Requested s f 40 [2]) (saving : s.saving = none)
    (bad : 63 < byteAt f.payload 0 ∨ 3 < byteAt f.payload 1) :
    doClassMapWrite f s = (s.fromGateway f).replies f { result := .badField } := by
  refine control_replies h (by decide) (fun _ => saving) rfl ?_
  rcases bad with entry | value
  · rw [below_none entry]
    rfl
  · rw [below_none value]
    cases below 64 (byteAt f.payload 0) <;> rfl

theorem doSeverityMapWrite_done (h : Requested s f 42 [2]) (saving : s.saving = none) {k : Fin 199}
    {v : Severity} (entry : byteAt f.payload 0 = k.val + 1) (value : byteAt f.payload 1 = v.code) :
    doSeverityMapWrite f s =
      ({ s.fromGateway f with
          severity := s.severity.set k v
          cursor := some { table := .severityMap, index := k.val + 2 } } : State).replies f
        { result := .done } := by
  refine control_replies h (by decide) (fun _ => saving) rfl ?_
  rw [faultCode_some entry, value, severity_ofCode_code]
  rfl

theorem doSeverityMapWrite_badField (h : Requested s f 42 [2]) (saving : s.saving = none)
    (bad : byteAt f.payload 0 = 0 ∨ 199 < byteAt f.payload 0 ∨ 3 < byteAt f.payload 1) :
    doSeverityMapWrite f s = (s.fromGateway f).replies f { result := .badField } := by
  refine control_replies h (by decide) (fun _ => saving) rfl ?_
  rcases or_assoc.mpr bad with entry | value
  · rw [faultCode_none entry]
    rfl
  · rw [severity_ofCode_none value]
    cases faultCode (byteAt f.payload 0) <;> rfl

/-- Settles O28. -/
theorem masksAndMaps : Obligations.MasksAndMaps := by
  refine ⟨fun s f h none => ?_, fun s f r h named => ⟨fun dayparts even addresses => ?_, fun bad => ?_⟩,
    fun s f saving => ⟨fun k c h entry value => ?_, fun h bad => ?_, fun k v h entry value => ?_,
      fun h bad => ?_⟩⟩
  · exact congrArg Host.Outcome.next ((Passes.of_table h (by decide)).noRecipe (recipeOf_none none))
  · exact congrArg Host.Outcome.next (doMapSet_done h named dayparts even addresses)
  · exact congrArg Host.Outcome.next (doMapSet_badField h named bad)
  · exact congrArg Host.Outcome.next (doClassMapWrite_done h saving entry value)
  · exact congrArg Host.Outcome.next (doClassMapWrite_badField h saving bad)
  · exact congrArg Host.Outcome.next (doSeverityMapWrite_done h saving entry value)
  · exact congrArg Host.Outcome.next (doSeverityMapWrite_badField h saving bad)

end Sys2Proof.Machine
end

section
/-! PROOFS. Runs of step records, record by record; MAP_STAGE and DISCARD_STAGED. -/

namespace Sys2Proof.Machine

variable {s t : State} {f : StoreFrame} {r : Fin 512} {run : Run} {k : Nat}

/-! ### Records of a run (R20, R21) -/

theorem stepRec_eq (s : State) (inside : k < 768) : s.stepRec k = s.steps[(⟨k, inside⟩ : Fin 768)] :=
  dif_pos inside

/-- What a change of a run's records leaves in each record. -/
theorem stepRec_modRun {g : StepRec → StepRec} (h : t.steps = modRun s.steps run g) (inside : k < 768) :
    t.stepRec k = if run.first ≤ k ∧ k < run.first + run.count then g (s.stepRec k) else s.stepRec k := by
  rw [stepRec_eq t inside, stepRec_eq s inside, h, modRun_get]

/-- The lowest record of a run with a property. -/
theorem find_indices_some {p : Nat → Bool} (held : p k = true) (lo : run.first ≤ k)
    (hi : k < run.first + run.count) (least : ∀ j, run.first ≤ j → j < k → p j = false) :
    run.indices.find? p = some k :=
  List.find?_range'_eq_some.mpr
    ⟨held, List.mem_range'_1.mpr ⟨lo, hi⟩, fun j below lt => by simp [least j below lt]⟩

theorem find_indices_none {p : Nat → Bool}
    (h : ∀ k, run.first ≤ k → k < run.first + run.count → p k = false) : run.indices.find? p = none :=
  List.find?_range'_eq_none.mpr fun k lo hi => by simp [h k lo hi]

theorem modRecipe_recipe (s : State) (r q : Fin 512) (g : RecipeEntry → RecipeEntry) :
    (s.modRecipe r g).recipe q = if q = r then g (s.recipe r) else s.recipe q := by
  by_cases same : q = r
  · subst same
    rw [if_pos rfl, State.modRecipe_self]
  · rw [if_neg same, State.modRecipe_other s r q g (Ne.symm same)]

/-! ### The checks of MAP_STAGE (R26) -/

theorem inRange_iff : run.inRange = true ↔
    1 ≤ run.version ∧ 1 ≤ run.count ∧ run.count ≤ 24 ∧ run.first + run.count ≤ 768 := by
  simp [Run.inRange, and_assoc]

theorem versionInUse_eq_false_iff {e : RecipeEntry} {n : Nat} : e.versionInUse n = false ↔
    (∀ v, e.live = some v → v.run.version ≠ n) ∧ ∀ v, e.draining = some v → v.run.version ≠ n := by
  refine ⟨State.versionInUse_false, fun ⟨live, draining⟩ => ?_⟩
  unfold RecipeEntry.versionInUse
  rw [Bool.or_eq_false_iff]
  constructor
  · cases held : e.live with
    | none => rfl
    | some v => simpa using live v held
  · cases held : e.draining with
    | none => rfl
    | some v => simpa using draining v held

theorem claimable_iff {x : StepRec} {n : Nat} :
    x.claimable n = true ↔ ∀ o, x.owner = some o → o.recipe = n ∧ o.role = .staged := by
  unfold StepRec.claimable
  cases x.owner <;> simp

section
variable (h : RequestedTable s f 20 [6]) (named : recipeOf (field f.payload 0 2) = some r)
include h named

theorem doMapStage_badField (bad : ¬ ((stageRun f.payload).inRange = true ∧
      (s.recipe r).versionInUse (stageRun f.payload).version = false)) :
    doMapStage f s = (s.fromGateway f).replies f { result := .badField } := by
  refine (Passes.of_table h (by decide)).recipe named ?_
  by_cases range : (stageRun f.payload).inRange = true
  · have used : (s.recipe r).versionInUse (stageRun f.payload).version = true := by simpa [range] using bad
    exact (if_neg (by simp [range])).trans (if_pos used)
  · exact if_pos (by simp [range])

variable (range : (stageRun f.payload).inRange = true)
  (version : (s.recipe r).versionInUse (stageRun f.payload).version = false)
include range version

theorem doMapStage_inUse (blocked : s.stageBlocked (r.val + 1) (stageRun f.payload) = some k) :
    doMapStage f s = (s.fromGateway f).replies f { result := .inUse, detail := k } := by
  have blocked : (s.fromGateway f).stageBlocked (r.val + 1) (stageRun f.payload) = some k := blocked
  have version : ¬ ((s.fromGateway f).recipe r).versionInUse (stageRun f.payload).version = true :=
    Bool.eq_false_iff.mp version
  refine (Passes.of_table h (by decide)).recipe named ?_
  dsimp only
  rw [if_neg (by simp [range]), if_neg version, blocked]
  rfl

theorem doMapStage_done (free : s.stageBlocked (r.val + 1) (stageRun f.payload) = none) :
    doMapStage f s = ((s.fromGateway f).stage r (stageRun f.payload)).replies f { result := .done } := by
  have free : (s.fromGateway f).stageBlocked (r.val + 1) (stageRun f.payload) = none := free
  have version : ¬ ((s.fromGateway f).recipe r).versionInUse (stageRun f.payload).version = true :=
    Bool.eq_false_iff.mp version
  refine (Passes.of_table h (by decide)).recipe named ?_
  dsimp only
  rw [if_neg (by simp [range]), if_neg version, free]
  rfl

end

/-! ### What a stage changes (R27) -/

theorem stage_recipe (s : State) (r : Fin 512) (run : Run) (q : Fin 512) : (s.stage r run).recipe q =
    if q = r then { s.recipe r with staged := some run } else s.recipe q :=
  modRecipe_recipe s r q fun e => { e with staged := some run }

theorem stage_steps_none (staged : (s.recipe r).staged = none) :
    (s.stage r run).steps = modRun s.steps run (StepRec.claimed (r.val + 1) run.version) := by
  simp only [State.stage, staged]

theorem stage_steps_some {old : Run} (staged : (s.recipe r).staged = some old) : (s.stage r run).steps =
    modRun (freeOutside s.steps old run) run (StepRec.claimed (r.val + 1) run.version) := by
  simp only [State.stage, staged]

theorem stepRec_freeOutside {old new : Run} (h : t.steps = freeOutside s.steps old new) (inside : k < 768) :
    t.stepRec k =
      if (old.first ≤ k ∧ k < old.first + old.count) ∧ ¬ (new.first ≤ k ∧ k < new.first + new.count) then
        (s.stepRec k).freed else s.stepRec k := by
  rw [stepRec_eq t inside, stepRec_eq s inside, h, freeOutside_get]

theorem stage_stepRec_inside (hk : run.first ≤ k ∧ k < run.first + run.count) (inside : k < 768) :
    (s.stage r run).stepRec k = (s.stepRec k).claimed (r.val + 1) run.version := by
  cases staged : (s.recipe r).staged with
  | none => rw [stepRec_modRun (stage_steps_none staged) inside, if_pos hk]
  | some old =>
    rw [stepRec_modRun (s := { s with steps := freeOutside s.steps old run }) (stage_steps_some staged) inside,
      if_pos hk, stepRec_freeOutside (s := s) rfl inside, if_neg fun out => out.2 hk]

theorem stage_stepRec_outside (out : ¬ (run.first ≤ k ∧ k < run.first + run.count)) (inside : k < 768) :
    (s.stage r run).stepRec k =
      if ∃ old, (s.recipe r).staged = some old ∧ old.first ≤ k ∧ k < old.first + old.count then
        (s.stepRec k).freed else s.stepRec k := by
  cases staged : (s.recipe r).staged with
  | none =>
    rw [stepRec_modRun (stage_steps_none staged) inside, if_neg out, if_neg (by simp)]
  | some old =>
    rw [stepRec_modRun (s := { s with steps := freeOutside s.steps old run }) (stage_steps_some staged) inside,
      if_neg out, stepRec_freeOutside (s := s) rfl inside]
    exact if_congr (by simp [out]) rfl rfl

/-- Settles O26. -/
theorem mapStage : Obligations.MapStage := by
  refine ⟨fun s f h none => congrArg Host.Outcome.next
    ((Passes.of_table h (by decide)).noRecipe (recipeOf_none none)), ?_⟩
  intro s f r h named a run inside fits other open'
  have range : run.inRange = true ↔ fits := inRange_iff
  have version : (s.recipe r).versionInUse run.version = false ↔ other := versionInUse_eq_false_iff
  have claim : ∀ k, (s.stepRec k).claimable (r.val + 1) = true ↔ open' k := fun k => claimable_iff
  refine ⟨fun bad => ?_, fun k hf ho hk blocked least => ?_, fun hf ho free => ?_⟩
  · refine congrArg Host.Outcome.next (doMapStage_badField h named fun good => bad ?_)
    exact ⟨range.mp good.1, version.mp good.2⟩
  · refine congrArg Host.Outcome.next (doMapStage_inUse h named (range.mpr hf) (version.mpr ho) ?_)
    refine find_indices_some (by simpa using mt (claim k).mp blocked) hk.1 hk.2 fun j lo lt => ?_
    simpa using (claim j).mpr (least j ⟨lo, by have := hk.2; omega⟩ lt)
  · refine ⟨a.stage r run, congrArg Host.Outcome.next
      (doMapStage_done h named (range.mpr hf) (version.mpr ho) ?_), ?_, fun q other => ?_, fun k hk => ?_,
      fun old k staged bound hk out => ?_, fun k bound out clear => ?_, rfl, rfl⟩
    · exact find_indices_none fun k lo hi => by simpa using (claim k).mpr (free k ⟨lo, hi⟩)
    · exact (stage_recipe a r run r).trans (if_pos rfl)
    · exact (stage_recipe a r run q).trans (if_neg other)
    · exact stage_stepRec_inside hk (by have := hk.2; have := hf.2.2.2; omega)
    · exact (stage_stepRec_outside out bound).trans (if_pos ⟨old, staged, hk⟩)
    · exact (stage_stepRec_outside out bound).trans
        (if_neg fun ⟨old, staged, hk⟩ => clear old staged hk)

/-! ### DISCARD_STAGED (R28) -/

section
variable (h : RequestedTable s f 26 [2]) (named : recipeOf (field f.payload 0 2) = some r)
include h named

theorem doDiscardStaged_state (staged : (s.recipe r).staged = none) :
    doDiscardStaged f s = (s.fromGateway f).replies f { result := .state } := by
  have staged : ((s.fromGateway f).recipe r).staged = none := staged
  refine (Passes.of_table h (by decide)).recipe named ?_
  rw [staged]
  rfl

theorem doDiscardStaged_done (staged : (s.recipe r).staged = some run) :
    doDiscardStaged f s = ((s.fromGateway f).unstage r run).replies f { result := .done } := by
  have staged : ((s.fromGateway f).recipe r).staged = some run := staged
  refine (Passes.of_table h (by decide)).recipe named ?_
  rw [staged]
  rfl

end

theorem unstage_recipe (s : State) (r : Fin 512) (run : Run) (q : Fin 512) : (s.unstage r run).recipe q =
    if q = r then { s.recipe r with staged := none } else s.recipe q :=
  modRecipe_recipe s r q fun e => { e with staged := none }

theorem unstage_stepRec (inside : k < 768) : (s.unstage r run).stepRec k =
    if run.first ≤ k ∧ k < run.first + run.count then (s.stepRec k).freed else s.stepRec k :=
  stepRec_modRun rfl inside

/-- Settles O27. -/
theorem discardStaged : Obligations.DiscardStaged := by
  intro s f ready noReset part code len short a refused free
  have table : free → f.payload.length = 2 → RequestedTable s f 26 [2] := fun both length =>
    ⟨⟨ready, noReset, part, code, len, List.mem_singleton.mpr length⟩, both⟩
  have refusal : ∀ x, (s.fromGateway f).gateRefusal gateDiscardStaged f = some x → refused x := fun x h =>
    congrArg Host.Outcome.next (control_refused ready part len short h)
  refine ⟨fun saving => ?_, fun saving clearing => ?_, fun both bad => ?_, fun r both length named staged => ?_,
    fun r run both length named staged => ?_⟩
  · exact refusal _ (gateRefusal_saving noReset part code rfl saving)
  · exact refusal _ (gateRefusal_clearing noReset part code saving clearing (by decide))
  · by_cases length : f.payload.length = 2
    · exact congrArg Host.Outcome.next ((Passes.of_table (table both length) (by decide)).noRecipe
        (bad.resolve_left (not_not.mpr length)))
    · exact refusal _ (gateRefusal_length noReset part code both.1 both.2
        (by simpa [gateDiscardStaged] using length))
  · exact congrArg Host.Outcome.next (doDiscardStaged_state (table both length) named staged)
  · have self : (a.unstage r run).recipe r = { s.recipe r with staged := none } :=
      (unstage_recipe a r run r).trans (if_pos rfl)
    refine ⟨a.unstage r run, congrArg Host.Outcome.next (doDiscardStaged_done (table both length) named staged),
      self, ?_, fun q other => (unstage_recipe a r run q).trans (if_neg other),
      fun k inside => unstage_stepRec inside, rfl, rfl⟩
    rw [self]
    exact Bool.or_false _

end Sys2Proof.Machine
end

section
/-! PROOFS. RELEASE and WITHDRAW (R30 to R32): the checks, and what the version that leaves and the one that comes
change. -/

namespace Sys2Proof.Machine

variable {s : State} {f : StoreFrame} {r : Fin 512} {run : Run} {k : Nat} {v : LiveVersion}

/-! ### The checks (R30) -/

theorem drainBlocked_iff {e : RecipeEntry} : e.drainBlocked = true ↔
    e.draining.isSome = true ∧ ∃ v, e.live = some v ∧ 0 < v.users := by
  unfold RecipeEntry.drainBlocked
  cases e.live <;> simp

theorem incomplete_iff {x : StepRec} : x.incomplete = true ↔ x.written = false ∨
    x.params.endKind = .core ∧ (x.params.coreTarget = none ∨ x.params.duration ≤ x.params.hold) := by
  simp [StepRec.incomplete]

/-- The needs of a run are those of its records (R31). -/
theorem needsOf_iff (s : State) (run : Run) :
    ((s.needsOf run).steam = true ↔ ∃ k, (run.first ≤ k ∧ k < run.first + run.count) ∧
      ((s.stepRec k).params.mode = .steam ∨ (s.stepRec k).params.mode = .combi)) ∧
    ((s.needsOf run).probe = true ↔ ∃ k, (run.first ≤ k ∧ k < run.first + run.count) ∧
      (s.stepRec k).params.endKind = .core) := by
  simp [State.needsOf, Run.mem_indices]

/-! ### The live version leaves (R31, R32) -/

/-- The entry without its live version, which drains where it has users. -/
def RecipeEntry.left (v : LiveVersion) (e : RecipeEntry) : RecipeEntry :=
  { e with
    live := none
    draining := if 0 < v.users then some { run := v.run, users := v.users } else e.draining }

/-- A record of the leaving version: it drains with its users, or is FREE. -/
def StepRec.left (v : LiveVersion) (x : StepRec) : StepRec :=
  if 0 < v.users then x.asRole .draining else x.freed

theorem retireLive_none (live : (s.recipe r).live = none) : s.retireLive r = s := by
  rw [State.retireLive, live]

theorem retireLive_some (live : (s.recipe r).live = some v) : s.retireLive r =
    { s.modRecipe r (RecipeEntry.left v) with steps := modRun s.steps v.run (StepRec.left v) } := by
  rw [State.retireLive, live]
  by_cases used : 0 < v.users
  · have entry : RecipeEntry.left v = fun e =>
        { e with live := none, draining := some { run := v.run, users := v.users } } :=
      funext fun e => by rw [RecipeEntry.left, if_pos used]
    have records : StepRec.left v = StepRec.asRole .draining := funext fun _ => if_pos used
    rw [entry, records]
    exact if_pos used
  · have entry : RecipeEntry.left v = fun e => { e with live := none } :=
      funext fun e => by rw [RecipeEntry.left, if_neg used]
    have records : StepRec.left v = StepRec.freed := funext fun _ => if_neg used
    rw [entry, records]
    exact if_neg used

theorem retireLive_entry (live : (s.recipe r).live = some v) (q : Fin 512) :
    (s.retireLive r).recipe q = if q = r then (s.recipe r).left v else s.recipe q := by
  rw [retireLive_some live]
  exact modRecipe_recipe s r q (RecipeEntry.left v)

theorem retireLive_stepRec (live : (s.recipe r).live = some v) (inside : k < 768) :
    (s.retireLive r).stepRec k =
      if v.run.first ≤ k ∧ k < v.run.first + v.run.count then (s.stepRec k).left v else s.stepRec k := by
  rw [retireLive_some live]
  exact stepRec_modRun rfl inside

theorem retireLive_stepRec_none (live : (s.recipe r).live = none) : (s.retireLive r).stepRec k = s.stepRec k := by
  rw [retireLive_none live]

theorem retireLive_other {q : Fin 512} (other : q ≠ r) : (s.retireLive r).recipe q = s.recipe q := by
  cases live : (s.recipe r).live with
  | none => rw [retireLive_none live]
  | some v => rw [retireLive_entry live, if_neg other]

theorem retireLive_self (live : (s.recipe r).live = some v) : (s.retireLive r).recipe r = (s.recipe r).left v := by
  rw [retireLive_entry live, if_pos rfl]

theorem retireLive_masks : ((s.retireLive r).recipe r).dayparts = (s.recipe r).dayparts ∧
    ((s.retireLive r).recipe r).permit = (s.recipe r).permit := by
  cases live : (s.recipe r).live with
  | none => rw [retireLive_none live]; exact ⟨rfl, rfl⟩
  | some v => rw [retireLive_self live]; exact ⟨rfl, rfl⟩

theorem retireLive_unused (unused : ∀ v, (s.recipe r).live = some v → v.users = 0) :
    ((s.retireLive r).recipe r).draining = (s.recipe r).draining := by
  cases live : (s.recipe r).live with
  | none => rw [retireLive_none live]
  | some v =>
    have none : ¬ 0 < v.users := by simp [unused v live]
    rw [retireLive_self live]
    exact if_neg none

/-- Nothing but the two tables changes. -/
theorem retireLive_rest (s : State) (r : Fin 512) (x : EthAddr) :
    { s.retireLive r with gateway := x, recipes := s.recipes, steps := s.steps } = { s with gateway := x } := by
  unfold State.retireLive
  repeat' split
  all_goals rfl

theorem retireLive_gateway (s : State) (r : Fin 512) : (s.retireLive r).gateway = s.gateway := by
  unfold State.retireLive
  repeat' split
  all_goals rfl

/-! ### The staged version becomes live (R31) -/

theorem makeLive_recipe (s : State) (r : Fin 512) (run : Run) (needs : Needs) (q : Fin 512) :
    (s.makeLive r run needs).recipe q =
      if q = r then
        { s.recipe r with live := some { run := run, needs := needs, users := 0 }, staged := none }
      else s.recipe q :=
  modRecipe_recipe s r q fun e =>
    { e with live := some { run := run, needs := needs, users := 0 }, staged := none }

theorem makeLive_stepRec {needs : Needs} (inside : k < 768) : (s.makeLive r run needs).stepRec k =
    if run.first ≤ k ∧ k < run.first + run.count then (s.stepRec k).asRole .live else s.stepRec k :=
  stepRec_modRun rfl inside

/-- A release: the live version leaves, and the staged one takes its place. -/
def State.released (s : State) (r : Fin 512) (run : Run) : State :=
  (s.retireLive r).makeLive r run (s.needsOf run)

theorem released_rest (s : State) (r : Fin 512) (run : Run) (x : EthAddr) :
    { s.released r run with gateway := x, recipes := s.recipes, steps := s.steps } = { s with gateway := x } :=
  retireLive_rest s r x

theorem released_other {q : Fin 512} (other : q ≠ r) : (s.released r run).recipe q = s.recipe q :=
  (makeLive_recipe ..).trans ((if_neg other).trans (retireLive_other other))

theorem released_self : (s.released r run).recipe r =
    { (s.retireLive r).recipe r with
        live := some { run := run, needs := s.needsOf run, users := 0 }, staged := none } :=
  (makeLive_recipe ..).trans (if_pos rfl)

theorem released_stepRec {old : StepRec} (left : (s.retireLive r).stepRec k = old) (inside : k < 768) :
    (s.released r run).stepRec k =
      if run.first ≤ k ∧ k < run.first + run.count then old.asRole .live else old := by
  rw [← left]
  exact makeLive_stepRec inside

/-! ### RELEASE -/

section
variable (h : RequestedTable s f 24 [2]) (named : recipeOf (field f.payload 0 2) = some r)
include h named

theorem doRelease_state (staged : (s.recipe r).staged = none) :
    doRelease f s = (s.fromGateway f).replies f { result := .state } := by
  have staged : ((s.fromGateway f).recipe r).staged = none := staged
  refine (Passes.of_table h (by decide)).recipe named ?_
  rw [staged]
  rfl

variable (staged : (s.recipe r).staged = some run)
include staged

theorem doRelease_draining (blocked : (s.recipe r).drainBlocked = true) :
    doRelease f s = (s.fromGateway f).replies f { result := .draining } := by
  have staged : ((s.fromGateway f).recipe r).staged = some run := staged
  refine (Passes.of_table h (by decide)).recipe named ?_
  rw [staged]
  exact if_pos blocked

variable (allowed : ¬ (s.recipe r).drainBlocked = true)
include allowed

theorem doRelease_incomplete (bad : s.firstIncomplete run = some k) :
    doRelease f s = (s.fromGateway f).replies f { result := .incomplete, detail := k } := by
  have staged : ((s.fromGateway f).recipe r).staged = some run := staged
  have bad : (s.fromGateway f).firstIncomplete run = some k := bad
  refine (Passes.of_table h (by decide)).recipe named ?_
  rw [staged]
  refine (if_neg allowed).trans ?_
  rw [bad]
  rfl

theorem doRelease_done (complete : s.firstIncomplete run = none) : doRelease f s =
    ((s.fromGateway f).released r run).replies f { result := .done, detail := run.version } := by
  have staged : ((s.fromGateway f).recipe r).staged = some run := staged
  have complete : (s.fromGateway f).firstIncomplete run = none := complete
  refine (Passes.of_table h (by decide)).recipe named ?_
  rw [staged]
  refine (if_neg allowed).trans ?_
  rw [complete]
  rfl

end

/-! ### WITHDRAW -/

section
variable (h : RequestedTable s f 25 [2]) (named : recipeOf (field f.payload 0 2) = some r)
include h named

theorem doWithdraw_state (live : (s.recipe r).live = none) :
    doWithdraw f s = (s.fromGateway f).replies f { result := .state } := by
  have live : ((s.fromGateway f).recipe r).live = none := live
  refine (Passes.of_table h (by decide)).recipe named ?_
  rw [live]
  rfl

variable (live : (s.recipe r).live = some v)
include live

theorem doWithdraw_draining (blocked : (s.recipe r).drainBlocked = true) :
    doWithdraw f s = (s.fromGateway f).replies f { result := .draining } := by
  have live : ((s.fromGateway f).recipe r).live = some v := live
  refine (Passes.of_table h (by decide)).recipe named ?_
  rw [live]
  exact if_pos blocked

theorem doWithdraw_done (allowed : ¬ (s.recipe r).drainBlocked = true) : doWithdraw f s =
    ((s.fromGateway f).retireLive r).replies f
      { result := .done, detail := if 0 < v.users then 1 else 0 } := by
  have live : ((s.fromGateway f).recipe r).live = some v := live
  refine (Passes.of_table h (by decide)).recipe named ?_
  rw [live]
  exact if_neg allowed

end

/-- Settles O29. -/
theorem releaseAndWithdraw : Obligations.ReleaseAndWithdraw := by
  refine ⟨fun s f none => ⟨fun h => ?_, fun h => ?_⟩, fun s f r h named => ?_, fun s f r h named => ?_⟩
  · exact congrArg Host.Outcome.next ((Passes.of_table h (by decide)).noRecipe (recipeOf_none none))
  · exact congrArg Host.Outcome.next ((Passes.of_table h (by decide)).noRecipe (recipeOf_none none))
  · intro refused inside blocked bad
    have blocked_iff : (s.recipe r).drainBlocked = true ↔ blocked := drainBlocked_iff
    have bad_iff : ∀ k, (s.stepRec k).incomplete = true ↔ bad k := fun k => incomplete_iff
    refine ⟨fun staged => congrArg Host.Outcome.next (doRelease_state h named staged), fun some drains => ?_,
      fun run k staged allowed hk bad least => ?_, fun run staged allowed complete => ?_⟩
    · obtain ⟨run, staged⟩ := Option.isSome_iff_exists.mp some
      exact congrArg Host.Outcome.next (doRelease_draining h named staged (blocked_iff.mpr drains))
    · refine congrArg Host.Outcome.next (doRelease_incomplete h named staged (mt blocked_iff.mp allowed) ?_)
      refine find_indices_some ((bad_iff k).mpr bad) hk.1 hk.2 fun j lo lt => ?_
      simpa using mt (bad_iff j).mp (least j ⟨lo, by have := hk.2; omega⟩ lt)
    · have none : s.firstIncomplete run = none := find_indices_none fun k lo hi => by
        simpa using mt (bad_iff k).mp (complete k ⟨lo, hi⟩)
      obtain ⟨steam, probe⟩ := needsOf_iff s run
      have self := released_self (s := s.fromGateway f) (r := r) (run := run)
      refine ⟨(s.fromGateway f).released r run,
        congrArg Host.Outcome.next (doRelease_done h named staged (mt blocked_iff.mp allowed) none),
        ⟨s.needsOf run, steam, probe, congrArg RecipeEntry.live self⟩, congrArg RecipeEntry.staged self,
        fun v live used => ?_, fun unused => ?_, ?_, ?_, fun q other => released_other other,
        fun k hk => ?_,
        retireLive_gateway .., released_rest (s.fromGateway f) r run s.gateway⟩
      · refine (congrArg RecipeEntry.draining self).trans ?_
        rw [retireLive_self (s := s.fromGateway f) live]
        exact if_pos used
      · exact (congrArg RecipeEntry.draining self).trans (retireLive_unused unused)
      · exact (congrArg RecipeEntry.dayparts self).trans retireLive_masks.1
      · exact (congrArg RecipeEntry.permit self).trans retireLive_masks.2
      · cases live : (s.recipe r).live with
        | none => exact released_stepRec (retireLive_stepRec_none live) hk
        | some v => exact released_stepRec (retireLive_stepRec live hk) hk
  · intro refused
    refine ⟨fun live => congrArg Host.Outcome.next (doWithdraw_state h named live),
      fun v live used drains => congrArg Host.Outcome.next
        (doWithdraw_draining h named live (drainBlocked_iff.mpr ⟨drains, v, live, used⟩)),
      fun v live free => ?_⟩
    have allowed : ¬ (s.recipe r).drainBlocked = true := by
      rw [drainBlocked_iff]
      rintro ⟨drains, x, held, used⟩
      cases Option.some.inj (live.symm.trans held)
      rcases free with unused | none
      · omega
      · simp [none] at drains
    refine ⟨(s.fromGateway f).retireLive r, congrArg Host.Outcome.next (doWithdraw_done h named live allowed),
      retireLive_self live, fun q other => retireLive_other other, fun k hk => retireLive_stepRec live hk,
      retireLive_gateway .., retireLive_rest (s.fromGateway f) r s.gateway⟩

end Sys2Proof.Machine
end

section
/-! PROOFS. The table cursor (R159); STEP_WRITE and STEP_WRITE_NEXT (R22 to R24). -/

namespace Sys2Proof.Machine

variable {s t : State} {f : StoreFrame} {c : Instr} {k off : Nat}

/-! ### The table cursor (R159) -/

theorem cursorAt_some {table : TableId} {last : Nat} (cursor : s.cursor = some { table := table, index := k })
    (inside : k ≤ last) : s.cursorAt table last = some k := by
  simp [State.cursorAt, cursor, inside]

theorem cursorAt_none {table : TableId} {last : Nat}
    (away : ∀ x, s.cursor = some x → x.table ≠ table ∨ last < x.index) : s.cursorAt table last = none := by
  cases cursor : s.cursor with
  | none => simp [State.cursorAt, cursor]
  | some x =>
    have := away x cursor
    simp only [State.cursorAt, cursor, ite_eq_right_iff, reduceCtorEq, imp_false]
    rintro ⟨same, inside⟩
    rcases this with other | past
    · exact other same
    · omega

/-! ### The fields of a step record (R22, R23) -/

theorem mode_ofCode_none : {n : Nat} → n ∉ [1, 2, 3] → Mode.ofCode n = none
  | 0, _ => rfl
  | 1, h | 2, h | 3, h => absurd (by decide) h
  | _ + 4, _ => rfl

theorem endKind_ofCode_none : {n : Nat} → n ∉ [1, 2] → EndKind.ofCode n = none
  | 0, _ => rfl
  | 1, h | 2, h => absurd (by decide) h
  | _ + 3, _ => rfl

theorem overrun_ofCode_none : {n : Nat} → n ∉ [1, 2] → Overrun.ofCode n = none
  | 0, _ => rfl
  | 1, h | 2, h => absurd (by decide) h
  | _ + 3, _ => rfl

/-- An unknown mode, end kind or overrun action leaves no fields. -/
theorem stepFields_none {p : List Byte} (unknown : byteAt p off ∉ [1, 2, 3] ∨ byteAt p (off + 5) ∉ [1, 2] ∨
    byteAt p (off + 18) ∉ [1, 2]) : stepFields p off = none := by
  unfold stepFields
  rcases unknown with mode | kind | overrun
  · rw [mode_ofCode_none mode]
  · rw [endKind_ofCode_none kind]
    cases Mode.ofCode (byteAt p off) <;> rfl
  · rw [overrun_ofCode_none overrun]
    cases Mode.ofCode (byteAt p off) <;> cases EndKind.ofCode (byteAt p (off + 5)) <;> rfl

theorem stepFields_some {p : List Byte} {m : Mode} {e : EndKind} {o : Overrun}
    (mode : Mode.ofCode (byteAt p off) = some m) (kind : EndKind.ofCode (byteAt p (off + 5)) = some e)
    (overrun : Overrun.ofCode (byteAt p (off + 18)) = some o) : stepFields p off =
      some (clampStep m (signedField p (off + 1)) (byteAt p (off + 3)) (byteAt p (off + 4)) e
        (field p (off + 6) 2) (signedField p (off + 8)) (field p (off + 10) 2) (field p (off + 12) 2)
        (field p (off + 14) 2) (field p (off + 16) 2) o) := by
  unfold stepFields
  rw [mode, kind, overrun]

theorem clampInt_eq_iff {lo hi v : Int} (range : lo ≤ hi) : clampInt lo hi v = v ↔ lo ≤ v ∧ v ≤ hi := by
  unfold clampInt
  omega

theorem clampNat_eq_iff {lo hi n : Nat} (range : lo ≤ hi) : clampNat lo hi n = n ↔ lo ≤ n ∧ n ≤ hi := by
  unfold clampNat
  omega

/-- A value was clamped where it lies outside its range; the core target and the hold time of a TIME step do not
count (R23). -/
theorem clampStep_clamped (m : Mode) (cavity : Int) (humidity fan : Nat) (e : EndKind) (duration : Nat)
    (core : Int) (hold low high budget : Nat) (o : Overrun) :
    (clampStep m cavity humidity fan e duration core hold low high budget o).2 =
      decide (cavity < 300 ∨ 3000 < cavity ∨ 100 < humidity ∨ fan < 1 ∨ 5 < fan ∨ duration < 1 ∨
        43200 < duration ∨ (e = .core ∧ core ≠ -32768 ∧ (core < 200 ∨ 990 < core)) ∨
        (e = .core ∧ 3600 < hold) ∨ 255 < low ∨ 255 < high) := by
  have held : (e = .core ∧ ¬ (if e = .core then min 3600 hold else 0) = hold) ↔ e = .core ∧ 3600 < hold :=
    and_congr_right fun isCore => by rw [if_pos isCore, min_eq_right_iff, not_le]
  refine decide_eq_decide.mpr ?_
  simp only [ne_eq, held, clampInt_eq_iff (lo := 300) (hi := 3000) (by decide),
    clampNat_eq_iff (lo := 1) (hi := 5) (by decide), clampNat_eq_iff (lo := 1) (hi := 43200) (by decide),
    clampInt_eq_iff (lo := 200) (hi := 990) (by decide), min_eq_right_iff, not_and_or, not_le, or_assoc,
    and_assoc]

/-! ### Writing (R22, R24) -/

theorem inUse_iff {x : StepRec} : x.inUse = true ↔ ∃ w, x.owner = some w ∧ w.role ≠ .staged := by
  unfold StepRec.inUse
  cases x.owner <;> simp

theorem stepRec_modStep {g : StepRec → StepRec} (h : t.steps = modStep s.steps k g) {j : Nat}
    (inside : j < 768) : t.stepRec j = if k = j then g (s.stepRec j) else s.stepRec j := by
  rw [stepRec_eq t inside, stepRec_eq s inside, h, modStep_get]

/-- The record written, and the cursor past it. -/
def State.written (s : State) (k : Nat) (p : StepParams) : State :=
  State.moveCursor { s with steps := modStep s.steps k fun r => { r with params := p, written := true } }
    .stepStore (k + 1)

theorem written_stepRec {p : StepParams} {j : Nat} (inside : j < 768) : (s.written k p).stepRec j =
    if k = j then { s.stepRec j with params := p, written := true } else s.stepRec j :=
  stepRec_modStep (g := fun r => { r with params := p, written := true }) rfl inside

section
variable {p : StepParams} {clamped : Bool}

theorem writeStep_past (past : 768 ≤ k) : s.writeStep k (some (p, clamped)) = s.says .badField := if_pos past

variable (inside : k < 768)
include inside

theorem writeStep_inUse (used : (s.stepRec k).inUse = true) :
    s.writeStep k (some (p, clamped)) = s.says .inUse :=
  (if_neg (by omega)).trans (if_pos used)

theorem writeStep_done (unused : ¬ (s.stepRec k).inUse = true) : s.writeStep k (some (p, clamped)) =
    { after := s.written k p, reply := some { result := .done, clamped := clamped } } :=
  (if_neg (by omega)).trans (if_neg unused)

end

theorem doStepWrite_writes (h : RequestedTable s f 27 [21]) : doStepWrite f s =
    ((s.fromGateway f).writeStep (field f.payload 0 2) (stepFields f.payload 2)).finish
      (replyTo clsControl f) :=
  (Passes.of_table (g := gateStepWrite) h (by decide)).control _

theorem doStepWriteNext_writes (h : RequestedTable s f 28 [19])
    (cursor : s.cursor = some { table := .stepStore, index := k }) (inside : k < 768) : doStepWriteNext f s =
      ((s.fromGateway f).writeStep k (stepFields f.payload 0)).finish (replyTo clsControl f) := by
  have at_ : (s.fromGateway f).cursorAt .stepStore 767 = some k := cursorAt_some cursor (by omega)
  refine ((Passes.of_table (g := gateStepWriteNext) h (by decide)).control _).trans ?_
  rw [at_]

theorem doStepWriteNext_state (h : RequestedTable s f 28 [19])
    (away : ∀ x, s.cursor = some x → x.table ≠ .stepStore ∨ 767 < x.index) :
    doStepWriteNext f s = (s.fromGateway f).replies f { result := .state } := by
  have at_ : (s.fromGateway f).cursorAt .stepStore 767 = none := cursorAt_none away
  refine (Passes.of_table h (by decide)).replies ?_
  rw [at_]
  rfl

/-- Both requests write the record of their index from the fields at their offset. -/
theorem exec_writes
    (way : c = .stepWrite f ∧ RequestedTable s f 27 [21] ∧ k = field f.payload 0 2 ∧ off = 2 ∨
      c = .stepWriteNext f ∧ RequestedTable s f 28 [19] ∧ off = 0 ∧
        s.cursor = some { table := .stepStore, index := k }) (inside : k < 768) :
    exec c s = .next
      (((s.fromGateway f).writeStep k (stepFields f.payload off)).finish (replyTo clsControl f)) := by
  rcases way with ⟨rfl, h, rfl, rfl⟩ | ⟨rfl, h, rfl, cursor⟩
  · exact congrArg Host.Outcome.next (doStepWrite_writes h)
  · exact congrArg Host.Outcome.next (doStepWriteNext_writes h cursor inside)

/-- Settles O30. -/
theorem stepWrites : Obligations.StepWrites := by
  refine ⟨fun s f => ?_, ?_⟩
  · intro p unknown refused
    have noFields : ∀ off, unknown off → stepFields p off = none := fun _ => stepFields_none
    refine ⟨fun h bad => congrArg Host.Outcome.next ((doStepWrite_writes h).trans ?_),
      fun k h cursor inside bad =>
        congrArg Host.Outcome.next ((doStepWriteNext_writes h cursor inside).trans ?_),
      fun h away => congrArg Host.Outcome.next (doStepWriteNext_state h away)⟩
    · rcases bad with past | bad
      · cases fields : stepFields f.payload 2 with
        | none => rfl
        | some x => rw [writeStep_past past]; rfl
      · rw [noFields 2 bad]
        rfl
    · rw [noFields 0 bad]
      rfl
  · intro s f c k off m e o way inside mode kind overrun p cavity core hold humidity fan duration low high
      params clamped
    have fields : stepFields p off = some (params, clamped) := by
      rw [stepFields_some mode kind overrun]
      exact congrArg some (Prod.ext rfl (clampStep_clamped ..))
    have run := exec_writes way inside
    rw [fields] at run
    clear_value params clamped
    refine ⟨fun w owner role => run.trans ?_, fun free => ?_⟩
    · rw [writeStep_inUse (s := s.fromGateway f) inside (inUse_iff.mpr ⟨w, owner, role⟩)]
      rfl
    · have unused : ¬ (s.stepRec k).inUse = true := fun used => by
        obtain ⟨w, owner, role⟩ := inUse_iff.mp used
        exact role (free w owner)
      refine ⟨(s.fromGateway f).written k params, run.trans ?_, ?_, fun j hj other => ?_, rfl, rfl, rfl⟩
      · rw [writeStep_done (s := s.fromGateway f) inside unused]
        rfl
      · exact (written_stepRec inside).trans (if_pos rfl)
      · exact (written_stepRec hj).trans (if_neg (Ne.symm other))

end Sys2Proof.Machine
end

section
/-! PROOFS. The reading requests of the tables: their data, and where they leave the cursor (R24, R35, R96, R141,
R159). -/

namespace Sys2Proof.Machine

variable {s : State} {f : StoreFrame} {r : Fin 512} {k : Nat}

/-! ### The data (R24, R35, R152) -/

theorem stepData_spells (x : StepRec) : stepData x = spells
    ([(1, x.params.mode.code), (2, (BitVec.ofInt 16 x.params.cavity).toNat), (1, x.params.humidity),
      (1, x.params.fan), (1, x.params.endKind.code), (2, x.params.duration),
      (2, (BitVec.ofInt 16 (x.params.coreTarget.getD 0)).toNat), (2, x.params.hold), (1, x.params.tolLow),
      (1, x.params.tolHigh), (2, x.params.budget), (1, x.params.overrun.code),
      (1, if x.written then 1 else 0)] ++
      (x.owner.map fun o => [(2, o.recipe), (1, o.version), (1, o.role.code)]).getD
        [(2, 0), (1, 0), (1, 0)]) := by
  unfold stepData
  cases x.owner <;>
    simp only [spells_append, spells_cons, spells_nil, beSigned, beFlag_eq, Option.map_some, Option.map_none,
      Option.getD_some, Option.getD_none, List.append_nil, List.append_assoc]

theorem isDefined_iff {e : RecipeEntry} : e.isDefined = false ↔ e.live = none ∧ e.staged = none := by
  simp [RecipeEntry.isDefined]

theorem needs_code (n : Needs) :
    n.code = (if n.steam then 1 else 0) + 2 * (if n.probe then 1 else 0) := by
  obtain ⟨steam, probe⟩ := n
  cases steam <;> cases probe <;> rfl

theorem recipeData_spells (e : RecipeEntry) : recipeData e = spells
    ([(1, if e.live = none ∧ e.staged = none then 1 else 2)] ++
      ((e.live.map fun v => [(1, v.run.version), (2, v.run.first), (1, v.run.count),
        (1, (if v.needs.steam then 1 else 0) + 2 * (if v.needs.probe then 1 else 0)), (1, v.users)]).getD
          [(1, 0), (2, 0), (1, 0), (1, 0), (1, 0)]) ++
      ((e.staged.map fun v => [(1, v.version), (2, v.first), (1, v.count)]).getD
        [(1, 0), (2, 0), (1, 0)]) ++
      ((e.draining.map fun v => [(1, v.run.version), (2, v.run.first), (1, v.run.count),
        (1, v.users)]).getD [(1, 0), (2, 0), (1, 0), (1, 0)]) ++
      [(1, e.dayparts.toNat), (4, 2 * e.permit.toNat)]) := by
  have state : (if e.isDefined then 2 else 1) = if e.live = none ∧ e.staged = none then 1 else 2 := by
    cases defined : e.isDefined with
    | false => exact (if_pos (isDefined_iff.mp defined)).symm
    | true => exact (if_neg fun absent => by simp [isDefined_iff.mpr absent] at defined).symm
  unfold recipeData
  rw [state, Nat.mul_comm]
  obtain ⟨live, staged, draining, dayparts, permit⟩ := e
  cases live <;> cases staged <;> cases draining <;>
    simp only [spells_append, spells_cons, spells_nil, beWord, needs_code, Option.map_some, Option.map_none,
      Option.getD_some, Option.getD_none, List.append_nil, List.append_assoc]

/-! ### Reading (R24, R35, R96, R141, R159) -/

section
variable {g : Gate} {a : Reply}

/-- A reading request of the two tables, which a TABLE_CLEAR refuses, passes the common checks. -/
theorem Passes.of_read (h : Requested s f g.code g.lengths) (clearing : s.clearing = none)
    (unsaved : g.saved = false) (short : ∀ n ∈ g.lengths, n ≤ maxPayload) : Passes s g f :=
  ⟨h, fun saved => absurd (saved.symm.trans unsaved) (by decide), fun _ => clearing, short⟩

end

/-- A read moves the cursor and answers with data. -/
abbrev State.readReply (s : State) (f : StoreFrame) (table : TableId) (index : Nat) (data : List Byte) : State :=
  ({ s.fromGateway f with cursor := some { table := table, index := index } } : State).replies f
    { result := .done, data := data }

theorem doMapRead_reads (h : Requested s f 22 [2]) (clearing : s.clearing = none)
    (named : recipeOf (field f.payload 0 2) = some r) :
    doMapRead f s = s.readReply f .recipeMap (r.val + 2) (recipeData (s.recipe r)) :=
  (Passes.of_read h clearing rfl (by decide)).recipe named rfl

theorem doMapReadNext_reads (h : Requested s f 23 [0]) (clearing : s.clearing = none)
    (cursor : s.cursor = some { table := .recipeMap, index := r.val + 1 }) :
    doMapReadNext f s = s.readReply f .recipeMap (r.val + 2) (recipeData (s.recipe r)) := by
  have at_ : ((s.fromGateway f).cursorAt .recipeMap 512).bind recipeOf = some r := by
    rw [cursorAt_some (s := s.fromGateway f) cursor (by omega)]
    exact recipeOf_eq_some_iff.mpr rfl
  refine (Passes.of_read h clearing rfl (by decide)).replies ?_
  rw [at_]
  rfl

theorem doMapReadNext_state (h : Requested s f 23 [0]) (clearing : s.clearing = none)
    (away : ∀ x, s.cursor = some x → x.table ≠ .recipeMap ∨ 512 < x.index) :
    doMapReadNext f s = (s.fromGateway f).replies f { result := .state } := by
  have at_ : (s.fromGateway f).cursorAt .recipeMap 512 = none := cursorAt_none away
  refine (Passes.of_read h clearing rfl (by decide)).replies ?_
  rw [at_]
  rfl

theorem readStep_inside (inside : k < 768) : s.readStep k =
    { after := s.moveCursor .stepStore (k + 1),
      reply := some { result := .done, data := stepData (s.stepRec k) } } :=
  if_neg (by omega)

theorem doStepRead_reads (h : Requested s f 29 [2]) (clearing : s.clearing = none)
    (inside : field f.payload 0 2 < 768) : doStepRead f s =
      s.readReply f .stepStore (field f.payload 0 2 + 1) (stepData (s.stepRec (field f.payload 0 2))) :=
  (Passes.of_read h clearing rfl (by decide)).replies (readStep_inside inside)

theorem doStepRead_badField (h : Requested s f 29 [2]) (clearing : s.clearing = none)
    (past : 768 ≤ field f.payload 0 2) :
    doStepRead f s = (s.fromGateway f).replies f { result := .badField } :=
  (Passes.of_read h clearing rfl (by decide)).replies (if_pos past)

theorem doStepReadNext_reads (h : Requested s f 30 [0]) (clearing : s.clearing = none)
    (cursor : s.cursor = some { table := .stepStore, index := k }) (inside : k < 768) :
    doStepReadNext f s = s.readReply f .stepStore (k + 1) (stepData (s.stepRec k)) := by
  have at_ : (s.fromGateway f).cursorAt .stepStore 767 = some k := cursorAt_some cursor (by omega)
  refine (Passes.of_read h clearing rfl (by decide)).replies ?_
  rw [at_]
  exact readStep_inside inside

theorem doStepReadNext_state (h : Requested s f 30 [0]) (clearing : s.clearing = none)
    (away : ∀ x, s.cursor = some x → x.table ≠ .stepStore ∨ 767 < x.index) :
    doStepReadNext f s = (s.fromGateway f).replies f { result := .state } := by
  have at_ : (s.fromGateway f).cursorAt .stepStore 767 = none := cursorAt_none away
  refine (Passes.of_read h clearing rfl (by decide)).replies ?_
  rw [at_]
  rfl

theorem doClassMapRead_reads (h : Requested s f 41 [1]) {k : Fin 64} (entry : byteAt f.payload 0 = k.val) :
    doClassMapRead f s = s.readReply f .classMap (k.val + 1) (be 1 s.classMap[k].val) := by
  refine control_replies h (by decide) (fun saved => nomatch saved) rfl ?_
  rw [below_some entry]
  rfl

theorem doClassMapRead_badField (h : Requested s f 41 [1]) (past : 63 < byteAt f.payload 0) :
    doClassMapRead f s = (s.fromGateway f).replies f { result := .badField } := by
  refine control_replies h (by decide) (fun saved => nomatch saved) rfl ?_
  rw [below_none past]
  rfl

theorem doSeverityMapRead_reads (h : Requested s f 43 [1]) {k : Fin 199}
    (entry : byteAt f.payload 0 = k.val + 1) :
    doSeverityMapRead f s = s.readReply f .severityMap (k.val + 2) (be 1 s.severity[k].code) := by
  refine control_replies h (by decide) (fun saved => nomatch saved) rfl ?_
  rw [faultCode_some entry]
  rfl

theorem doSeverityMapRead_badField (h : Requested s f 43 [1])
    (bad : byteAt f.payload 0 = 0 ∨ 199 < byteAt f.payload 0) :
    doSeverityMapRead f s = (s.fromGateway f).replies f { result := .badField } := by
  refine control_replies h (by decide) (fun saved => nomatch saved) rfl ?_
  rw [faultCode_none bad]
  rfl

/-- Settles O31. -/
theorem tableReads : Obligations.TableReads := by
  refine ⟨⟨stepData_spells, recipeData_spells, rfl, rfl, rfl, rfl⟩, fun s f => ?_⟩
  intro a refused reads
  refine ⟨fun r h clearing named => ?_, fun r h clearing cursor => ?_, fun h clearing away => ?_,
    fun k h clearing index inside => ?_, fun h clearing past => ?_, fun k h clearing cursor inside => ?_,
    fun h clearing away => ?_, fun k h entry => ?_, fun k h entry => ?_, fun h clearing none => ?_,
    fun h past => ?_, fun h bad => ?_⟩
  · exact congrArg Host.Outcome.next (doMapRead_reads h clearing named)
  · exact congrArg Host.Outcome.next (doMapReadNext_reads h clearing cursor)
  · exact congrArg Host.Outcome.next (doMapReadNext_state h clearing away)
  · subst index
    exact congrArg Host.Outcome.next (doStepRead_reads h clearing inside)
  · exact congrArg Host.Outcome.next (doStepRead_badField h clearing past)
  · exact congrArg Host.Outcome.next (doStepReadNext_reads h clearing cursor inside)
  · exact congrArg Host.Outcome.next (doStepReadNext_state h clearing away)
  · exact congrArg Host.Outcome.next (doClassMapRead_reads h entry)
  · exact congrArg Host.Outcome.next (doSeverityMapRead_reads h entry)
  · exact congrArg Host.Outcome.next
      ((Passes.of_read h clearing rfl (by decide)).noRecipe (recipeOf_none none))
  · exact congrArg Host.Outcome.next (doClassMapRead_badField h past)
  · exact congrArg Host.Outcome.next (doSeverityMapRead_badField h bad)

end Sys2Proof.Machine
end

section
/-! PROOFS. A SAVE and the restore of what it wrote (R39, R165, R168). -/

namespace Sys2Proof.Machine

variable {s t : State} {f : StoreFrame} {k : Nat}

/-! ### From the SAVE to READY (R165, R168) -/

/-- The state while a save runs. -/
def State.savingImage (s : State) (r : ReplyTo) : State :=
  { s with image := some s.beginImage, saving := some r }

theorem doSave_begins (h : RequestedTable s f 7 [0]) (unworn : s.saveCount < saveLimit) :
    doSave f s = (s.fromGateway f).savingImage (replyTo clsControl f) := by
  have unworn : ¬ saveLimit ≤ (s.fromGateway f).saveCount := Nat.not_le.mpr unworn
  refine ((Passes.of_table (g := gateSave) h (by decide)).control _).trans ?_
  rw [if_neg unworn]
  rfl

/-- The image a completed SAVE leaves. -/
def SavedContent.image (c : SavedContent) : Image := { content := c, complete := true, crc := c.crc }

theorem image_valid (c : SavedContent) : c.image.valid = true := by
  simp [SavedContent.image, Image.valid]

theorem doSaveEnd_saves (s : State) (r : ReplyTo) :
    (doSaveEnd (s.savingImage r)).image = some s.savedContent.image ∧
      (doSaveEnd (s.savingImage r)).saveCount = s.saveCount + 1 := by
  unfold doSaveEnd State.answer State.savingImage
  simp only [State.offerReply_image, State.offerReply_saveCount, and_true]
  rfl

theorem validContent_of_image {c : SavedContent} (h : s.image = some c.image) : s.validContent = some c := by
  rw [State.validContent, h]
  exact if_pos (image_valid c)

/-- READY with a valid image: the restored set-up, the report in the Upward Queue and the roll call. -/
theorem doReady_restores {c : SavedContent} (restoring : s.phase = .restoring)
    (valid : s.validContent = some c) : ∃ up down, doReady s =
      { s.restoreFrom c with restoreResult := .restored, up := up, down := down, phase := .ready } := by
  have restored : s.restore = { s.restoreFrom c with restoreResult := .restored } := by
    rw [State.restore, valid]
  have kept : s.restore.restoreResult ≠ .lost := by simp [restored]
  obtain ⟨built, lost, told, -⟩ := State.offerReport_reported (s := s.restore)
    (reportStarted s.restore.resetCause s.restore.restoreResult s.restore.saveCount s.restore.lineTime)
  refine ⟨(s.restore.reported built lost).up, { s.down with rollCall := true }, ?_⟩
  rw [doReady, if_pos restoring]
  dsimp only
  rw [if_neg kept, told, restored]
  rfl

/-! ### What the restore gives back (R39) -/

theorem saved_record (e : OvenEntry) : e.saved =
    if e.presence = .vacant ∨ e.presence = .announced then none else e.record := by
  unfold OvenEntry.saved
  cases e.presence <;> simp

theorem restoreFrom_record (t s : State) (i : OvenId) : ((t.restoreFrom s.savedContent).oven i).record =
    if (s.oven i).presence = .vacant ∨ (s.oven i).presence = .announced then none else (s.oven i).record := by
  rw [← saved_record]
  simp [State.restoreFrom, State.savedContent, State.oven]

theorem saved_entry (e : RecipeEntry) : e.saved.entry =
    { e with live := e.live.map fun v => { v with users := 0 }, draining := none } := by
  simp [RecipeEntry.saved, SavedRecipe.entry, Function.comp_def]

theorem restoreFrom_recipe (t s : State) (r : Fin 512) : (t.restoreFrom s.savedContent).recipe r =
    { s.recipe r with live := (s.recipe r).live.map fun v => { v with users := 0 }, draining := none } := by
  rw [← saved_entry]
  simp [State.restoreFrom, State.savedContent, State.recipe]

theorem restoreFrom_stepRec (t : State) {s : State} (inside : k < 768) :
    (t.restoreFrom s.savedContent).stepRec k = (s.stepRec k).saved.getD StepRec.blank := by
  rw [stepRec_eq _ inside, stepRec_eq s inside]
  simp [State.restoreFrom, State.savedContent]

theorem saved_owned {x : StepRec} {o : Owner} (owner : x.owner = some o) (role : o.role ≠ .draining) :
    x.saved = some x := by
  rw [StepRec.saved, owner]
  exact if_neg role

theorem saved_unowned {x : StepRec} (h : x.owner = none ∨ ∃ o, x.owner = some o ∧ o.role = .draining) :
    x.saved = none := by
  rcases h with free | ⟨o, owner, role⟩
  · rw [StepRec.saved, free]
  · rw [StepRec.saved, owner]
    exact if_pos role

/-- Settles O8. -/
theorem saveThenRestartGivesBack : Obligations.SaveThenRestartGivesBack := by
  intro s f h unworn
  let a := (s.fromGateway f).savingImage (replyTo clsControl f)
  let c := doPowerOn (doSaveEnd a)
  obtain ⟨image, count⟩ := doSaveEnd_saves (s.fromGateway f) (replyTo clsControl f)
  have valid : c.validContent = some s.savedContent := validContent_of_image image
  obtain ⟨up, down, restored⟩ := doReady_restores (s := c) rfl valid
  refine ⟨a, doSaveEnd a, c, _, congrArg Host.Outcome.next (doSave_begins h unworn), rfl, rfl,
    congrArg Host.Outcome.next restored, rfl, count, rfl, rfl, rfl, rfl, fun i => restoreFrom_record c s i,
    fun r => restoreFrom_recipe c s r, fun k hk o owner role => ?_, fun k hk unowned => ?_⟩
  · refine (restoreFrom_stepRec c hk).trans ?_
    rw [saved_owned owner role]
    rfl
  · refine (restoreFrom_stepRec c hk).trans ?_
    rw [saved_unowned unowned]
    rfl

end Sys2Proof.Machine
end

section
/-! PROOFS. How a cook goes IDLE and how an apply ends (R33, R34, R57, R119, R130). -/

namespace Sys2Proof.Machine

variable {s t : State} {i : OvenId} {r : Fin 512} {k n version : Nat}

/-! ### One user fewer on a version (R33, R34) -/

theorem dropUser_live {v : LiveVersion} (named : recipeOf n = some r) (live : (s.recipe r).live = some v)
    (same : v.run.version = version) : s.dropUser n version =
      s.modRecipe r fun e => { e with live := some { v with users := v.users - 1 } } := by
  simp only [State.dropUser, named, live]
  exact if_pos same

theorem dropUser_notLive (named : recipeOf n = some r)
    (other : ∀ v, (s.recipe r).live = some v → v.run.version ≠ version) :
    s.dropUser n version = s.dropDraining r version := by
  cases live : (s.recipe r).live with
  | none => simp only [State.dropUser, named, live]
  | some v =>
    simp only [State.dropUser, named, live]
    exact if_neg (other v live)

section
variable {w : DrainVersion} (draining : (s.recipe r).draining = some w) (same : w.run.version = version)
include draining same

theorem dropDraining_counts (used : 1 < w.users) : s.dropDraining r version =
    s.modRecipe r fun e => { e with draining := some { w with users := w.users - 1 } } := by
  simp only [State.dropDraining, draining]
  exact (if_pos same).trans (if_neg (by omega))

theorem dropDraining_frees (last : w.users ≤ 1) : s.dropDraining r version =
    { (s.modRecipe r fun e => { e with draining := none }) with
      steps := modRun s.steps w.run StepRec.freed } := by
  simp only [State.dropDraining, draining]
  exact (if_pos same).trans (if_pos last)

end

/-- The last user of a draining version frees it: its records, and nothing but the two tables (R34). -/
theorem dropUser_frees {w : DrainVersion} (named : recipeOf n = some r)
    (other : ∀ v, (s.recipe r).live = some v → v.run.version ≠ version)
    (draining : (s.recipe r).draining = some w) (same : w.run.version = version) (last : w.users ≤ 1) :
    ∃ u : State, s.dropUser n version = u ∧
      u.recipe r = { s.recipe r with draining := none } ∧ (∀ q, q ≠ r → u.recipe q = s.recipe q) ∧
      (∀ k, k < 768 → u.stepRec k =
        if w.run.first ≤ k ∧ k < w.run.first + w.run.count then (s.stepRec k).freed else s.stepRec k) ∧
      { u with recipes := s.recipes, steps := s.steps } = s := by
  have entry := modRecipe_recipe s r (g := fun e => { e with draining := none })
  exact ⟨_, (dropUser_notLive named other).trans (dropDraining_frees draining same last),
    (entry r).trans (if_pos rfl), fun q away => (entry q).trans (if_neg away),
    fun k inside => stepRec_modRun rfl inside, rfl⟩

theorem dropUser_ovens (s : State) (n version : Nat) : (s.dropUser n version).ovens = s.ovens := by
  unfold State.dropUser State.dropDraining
  repeat' split
  all_goals rfl

/-! ### A cook goes IDLE (R57) -/

theorem atEnd_recipe (c : CookCtx) : c.atEnd.recipe = c.recipe := by
  unfold CookCtx.atEnd
  split <;> rfl

theorem atEnd_version (c : CookCtx) : c.atEnd.version = c.version := by
  unfold CookCtx.atEnd
  split <;> rfl

/-- The context as it is told: the timer stopped, the unfinished step folded, and COOK_END offered. -/
def State.toldCookEnd (s : State) (i : OvenId) (r : CookResult) : State :=
  ((s.setSlot i { slot := (s.slot i).slot, timer := none }).modCook i fun _ => (s.cook i).atEnd).offerReport
    (reportCookEnd i (s.cook i).atEnd r s.lineTime)

theorem oven_of_ovens (h : t.ovens = s.ovens) (i : OvenId) : t.oven i = s.oven i := by
  rw [State.oven, h]
  rfl

theorem toldCookEnd_ovens (s : State) (i : OvenId) (r : CookResult) : (s.toldCookEnd i r).ovens = s.ovens :=
  State.offerReport_ovens ..

theorem cookGoIdle_eq (s : State) (i : OvenId) (r : CookResult) :
    let b := (s.toldCookEnd i r).dropUser (s.cook i).recipe (s.cook i).version
    let d := if (s.oven i).occupancy = .cooking then
        b.modOven i fun e => { e with occupancy := .free } else b
    s.cookGoIdle i r =
      (((d.clearAtSource (some i) 201).clearAtSource (some i) 202).clearAtSource (some i) 213).modCook i
        fun x => { x with state := .idle } := by
  intro b d
  have cook : ((s.setSlot i { s.slot i with timer := none }).modCook i CookCtx.atEnd).cook i =
      (s.cook i).atEnd := State.modCook_self ..
  have occupancy : b.oven i = s.oven i :=
    oven_of_ovens ((dropUser_ovens ..).trans (toldCookEnd_ovens s i r)) i
  have released : b.releaseOccupancy i .cooking = d := by
    rw [State.releaseOccupancy, occupancy]
    rfl
  rw [← released, State.cookGoIdle]
  simp only [cook, atEnd_recipe, atEnd_version]
  rfl

/-! ### An apply ends (R119, R130) -/

/-- The end of an apply up to its REPORT UPDATE_END. -/
def State.toldUpdateEnd (s : State) (i : OvenId) (cause : FailCause) (v : Version) : State :=
  let failed := cause ≠ .noCause
  let a := (s.modUpdate i fun u =>
    { u with timer := .stopped, state := if failed then .failed else .idle,
             cause := cause }).modOven i fun e => { e with occupancy := .free }
  let b := if failed then a.raise (some i) 208 .major .event else a
  b.offerReport (reportUpdateEnd i (b.update i) (if failed then .failed else .applied) cause v b.lineTime)

theorem endApply_eq (cause : FailCause) (v : Version) (applying : (s.oven i).occupancy = .applying) :
    s.endApply i cause v = (((s.toldUpdateEnd i cause v).refreeze i).reloadWatch i).admissionPass := by
  have released : ∀ g, (s.modUpdate i g).releaseOccupancy i .applying =
      (s.modUpdate i g).modOven i fun e => { e with occupancy := .free } :=
    fun g => releaseOccupancy_same applying
  simp only [State.endApply, State.toldUpdateEnd, released, bne_iff_ne]

theorem offerReport_tells (k : KFrame) : s.Tells (s.offerReport k) := by
  obtain ⟨built, lost, told, -⟩ := State.offerReport_reported (s := s) k
  exact ⟨s.calls, (s.reported built lost).up, told⟩

/-- Reports and occurrences leave watches and entries. -/
theorem toldUpdateEnd_keeps (s : State) (i : OvenId) (cause : FailCause) (v : Version) :
    (s.toldUpdateEnd i cause v).watch i = s.watch i ∧
      (s.toldUpdateEnd i cause v).oven i = { s.oven i with occupancy := .free } := by
  unfold State.toldUpdateEnd
  extract_lets failed a b
  have raised : a.Tells b := by
    unfold b
    split
    · exact raise_tells _ _ _ _ (by decide)
    · exact .refl
  obtain ⟨calls, up, told⟩ := raised.trans (offerReport_tells
    (reportUpdateEnd i (b.update i) (if failed then .failed else .applied) cause v b.lineTime))
  rw [told]
  exact ⟨rfl, State.modOven_self _ i fun e => { e with occupancy := .free }⟩

theorem setWatch_setWatch (s : State) (i : OvenId) (w x : Option Watch) :
    (s.setWatch i w).setWatch i x = s.setWatch i x := by
  simp [State.setWatch]

theorem endApply_unwatched (cause : FailCause) (v : Version) (applying : (s.oven i).occupancy = .applying)
    (none : s.watch i = none) : s.endApply i cause v = (s.toldUpdateEnd i cause v).admissionPass := by
  obtain ⟨watch, -⟩ := toldUpdateEnd_keeps s i cause v
  have none := watch.trans none
  rw [endApply_eq cause v applying, refreeze_none none, reloadWatch_none none]

/-- A kept watch is loaded from the record, frozen where the service flag still holds it (R130). -/
theorem endApply_watched {w : Watch} {x : CommRecord} (cause : FailCause) (v : Version)
    (applying : (s.oven i).occupancy = .applying) (watch : s.watch i = some w)
    (record : (s.oven i).record = some x) : s.endApply i cause v =
      ((s.toldUpdateEnd i cause v).setWatch i (some (Watch.loaded x (s.oven i).service))).admissionPass := by
  obtain ⟨kept, entry⟩ := toldUpdateEnd_keeps s i cause v
  have thawed : ((s.toldUpdateEnd i cause v).oven i).freezes = (s.oven i).service := by
    rw [entry]
    exact Bool.or_false _
  have record : ((s.toldUpdateEnd i cause v).oven i).record = some x := by rw [entry]; exact record
  rw [endApply_eq cause v applying, refreeze_some (kept.trans watch), thawed,
    reloadWatch_loaded (State.setWatch_self ..) record, setWatch_setWatch]

/-- Settles O42. -/
theorem cooksAndAppliesEnd : Obligations.CooksAndAppliesEnd := by
  refine ⟨⟨fun s i r => cookGoIdle_eq s i r, fun s n version r named => ⟨fun v live same => ?_,
    fun w other draining same used => ?_, fun w other draining same last => ?_⟩⟩,
    fun s i cause v applying => ?_⟩
  · exact dropUser_live named live same
  · exact (dropUser_notLive named other).trans (dropDraining_counts draining same used)
  · exact dropUser_frees named other draining same last
  · exact ⟨endApply_unwatched cause v applying, fun w x => endApply_watched cause v applying⟩

end Sys2Proof.Machine
end

section
/-! PROOFS. The ways of a COOK, CLEAN or UPDATE frame and of a notice to their owner; COOK_STOP, PANEL_STOP and
STEP_ACK. -/

namespace Sys2Proof.Machine

variable {s u : State} {i : OvenId}

/-! ### The way of a frame for an oven to its REPLY (R44, R79, R110, R136) -/

section
variable {cls : Byte} {f : StoreFrame} {tag : BitVec 16} {ok : Bool} {a : Reply}

/-- The REPLY to a frame that is no CONTROL request echoes its oven address (R155). -/
theorem finish_repliesTo (foreign : cls ≠ clsControl) :
    Answered.finish { after := u, reply := some a } (replyTo cls f) = u.repliesTo cls f a := by
  have echo : replyTo cls f = { cls := cls, oven := f.oven, tag := f.tag, seq := f.seq } := by
    rw [replyTo, if_neg foreign]
  exact congrArg (fun r => u.offerReply (replyFrame r a)) echo

/-- A frame for an oven that passes the form checks acts, and its REPLY is offered last. -/
theorem owned_replies {length : Nat} {act : State → OvenId → Answered} (h : Sent s f tag i length)
    (short : length ≤ maxPayload) (form : ok = true) (foreign : cls ≠ clsControl)
    (done : act s i = { after := u, reply := some a }) :
    s.owned cls f (fun t => t.forOven f tag ok (act t)) = u.repliesTo cls f a := by
  obtain ⟨ready, same, oven, len, exact⟩ := h
  rw [owned_pass cls _ i ready oven len (exact ▸ short), forOven_pass tag ok _ i same form oven, done]
  exact finish_repliesTo foreign

/-- A frame wrong in its form is refused with BAD_FIELD. -/
theorem owned_misformed {least greatest : Nat} {act : State → OvenId → Answered}
    (h : Misformed s f tag least greatest)
    (form : ok = true → least ≤ f.payload.length ∧ f.payload.length ≤ greatest) (foreign : cls ≠ clsControl) :
    s.owned cls f (fun t => t.forOven f tag ok (act t)) = s.repliesTo cls f { result := .badField } := by
  obtain ⟨ready, len, short, address, wrong⟩ := h
  have refused : s.forOven f tag ok (act s) = s.says .badField := by
    by_cases checks : f.tag ≠ tag ∨ ok = false
    · exact if_pos checks
    · have inside := form (Bool.eq_true_of_not_eq_false fun h => checks (.inr h))
      have part : f.oven = 0 := by
        rcases wrong with part | other | outside
        · exact part
        · exact absurd (.inl other) checks
        · omega
      rw [State.forOven, if_neg checks, ovenOf_none (.inl (congrArg BitVec.toNat part))]
  rw [State.owned, arriveStore_pass cls _ ready len short (by simp [storeAddressOk, address]), refused]
  exact finish_repliesTo foreign

end

/-! ### The way of a notice to its owner (R3, R10, R137) -/

section
variable {tag : BitVec 16} {f : UpFrame} {owner : OvenId → State → State}

/-- A notice that is heard is dispatched, its copy offered upward but for a STEP_ACK, and its owner acts. -/
theorem takeNotice_heard (h : Heard s clsNotice tag f i) : s.takeNotice tag f owner =
    owner i (if tag = tagStepAck then s.dispatched i else s.noticed i tag f) := by
  obtain ⟨ready, source, presence, lo, hi, range, least, greatest⟩ := h
  obtain ⟨silently, actively⟩ := dispatched_eq s i
  have here := (oven_of_book s.wholeFrame_book i).1
  rw [State.takeNotice, arriveUp_pass ready source range least greatest]
  rcases presence with active | silent
  · rw [dispatchUp_active i _ _ (here.trans active), State.noticed, actively (by simp [active])]
  · rw [dispatchUp_silent (here.trans silent), State.noticed, silently silent]

end

/-! ### The step slot (R41, R42) -/

/-- A slot that is put back as it stands changes nothing. -/
theorem setSlot_slot (s : State) (i : OvenId) : s.setSlot i (s.slot i) = s := by
  simp [State.setSlot, State.slot]

theorem pendingStop_iff {x : Slot} : x.pendingStop = true ↔ ∃ b, x = .pending .stop b := by
  unfold Slot.pendingStop
  split <;> simp_all

/-- A STOP that is PENDING already is left. -/
theorem putStop_pending {b : Bool} (h : (s.slot i).slot = .pending .stop b) : s.putStop i = s := by
  have left : (s.slot i).withStop = s.slot i := by simp only [SlotState.withStop, h]
  rw [State.putStop, left, setSlot_slot]

/-- Any other content gives way to the STOP. -/
theorem putStop_replaces (h : ∀ b, (s.slot i).slot ≠ .pending .stop b) :
    s.putStop i = s.setSlot i { slot := .pending .stop false, timer := none } := by
  have replaced : (s.slot i).withStop = { slot := .pending .stop false, timer := none } := by
    unfold SlotState.withStop
    split
    · exact absurd ‹_› (h _)
    · rfl
  rw [State.putStop, replaced]

/-! ### COOK_STOP and PANEL_STOP (R54, R55) -/

section
variable {f : StoreFrame}

theorem doCookStop_misformed (h : Misformed s f 2 0 0) :
    doCookStop f s = s.repliesTo 1 f { result := .badField } :=
  owned_misformed h (fun form => by simpa using form) (by decide)

theorem doCookStop_idle (h : Sent s f 2 i 0) (idle : (s.cook i).state = .idle) :
    doCookStop f s = s.repliesTo 1 f { result := .state } :=
  owned_replies h (by decide) (by simp [h.2.2.2.2]) (by decide) (if_pos idle)

theorem doCookStop_cooking (h : Sent s f 2 i 0) (cooking : (s.cook i).state ≠ .idle) :
    doCookStop f s = ((s.cookGoIdle i .stopped).putStop i).repliesTo 1 f { result := .done } :=
  owned_replies h (by decide) (by simp [h.2.2.2.2]) (by decide)
    ((if_neg cooking).trans (by rw [stopCook_running _ cooking]; rfl))

end

theorem doPanelStop_heard {f : UpFrame} (h : Heard s 8 4 f i) :
    doPanelStop f s = (s.noticed i 4 f).stopCook i .stopped :=
  (takeNotice_heard h).trans (congrArg (fun t : State => t.stopCook i .stopped) (if_neg (by decide)))

/-- Settles O41. -/
theorem cookStops : Obligations.CookStops := by
  refine ⟨fun s f wrong => congrArg Host.Outcome.next (doCookStop_misformed wrong),
    fun s f i sent => ⟨fun idle => congrArg Host.Outcome.next (doCookStop_idle sent idle),
      fun cooking => congrArg Host.Outcome.next (doCookStop_cooking sent cooking)⟩,
    fun s f i heard => ?_, fun s i => ⟨fun ⟨b, stop⟩ => putStop_pending stop, putStop_replaces⟩⟩
  have run := doPanelStop_heard heard
  exact ⟨fun idle => congrArg Host.Outcome.next (run.trans (stopCook_idle _ idle)),
    fun cooking => congrArg Host.Outcome.next (run.trans (stopCook_running _ cooking))⟩

/-! ### STEP_ACK (R50, R51) -/

/-- A slot is acknowledged where it is SENT with the echoed index. -/
theorem acked_iff {x : SlotState} {n : Nat} : x.acked n = true ↔
    (∃ k h, x.slot = .sent (.step n k h)) ∨ x.slot = .sent (.endCook n) := by
  unfold SlotState.acked
  split
  · rename_i k c h is
    simp [is]
  · rename_i k is
    simp [is]
  · rename_i noStep noEnd
    simp only [Bool.false_eq_true, false_iff, not_or, not_exists]
    exact ⟨fun k h => noStep n k h, noEnd n⟩

section
variable {n : Nat}

theorem stepAck_starts (acked : (s.slot i).acked n = true)
    (state : (s.cook i).state = .starting ∨ (s.cook i).state = .advancing) : s.stepAck i n =
      ((s.setSlot i SlotState.reset).modCook i CookCtx.acknowledged).clearAtSource (some i) codeStepNoAck := by
  rcases state with state | state <;> simp only [State.stepAck, acked, if_true, state]

theorem stepAck_completes (acked : (s.slot i).acked n = true) (state : (s.cook i).state = .ending) :
    s.stepAck i n =
      ((s.setSlot i SlotState.reset).cookGoIdle i .completed).clearAtSource (some i) codeStepNoAck := by
  simp only [State.stepAck, acked, if_true, state]

theorem stepAck_stale (stale : ¬ (s.slot i).acked n = true ∨ (s.cook i).state = .idle ∨
    (s.cook i).state = .running) : s.stepAck i n = s.countStaleAck i := by
  rcases stale with other | state | state
  · exact if_neg other
  · simp only [State.stepAck, state, ite_self]
  · simp only [State.stepAck, state, ite_self]

end

/-! ### The advance after a completed step (R53) -/

section
variable (s i)

/-- The context after a completed step that was not the last. -/
def CookCtx.advanced (c : CookCtx) : CookCtx :=
  { c with stepsDone := c.stepsDone + 1, stepIndex := c.stepIndex + 1, state := .advancing }

theorem advanceCook_next (more : (s.cook i).stepIndex + 1 < (s.cook i).count) : s.advanceCook i =
    (s.modCook i CookCtx.advanced).setSlot i
      { slot := .pending (.step ((s.cook i).stepIndex + 1) (s.cook i).count
          (s.stepRec ((s.cook i).first + ((s.cook i).stepIndex + 1))).params.head) false
        timer := none } := by
  have cook : (s.modCook i CookCtx.advanced).cook i = (s.cook i).advanced := State.modCook_self ..
  have frame : (s.modCook i CookCtx.advanced).stepFrame i =
      .step ((s.cook i).stepIndex + 1) (s.cook i).count
        (s.stepRec ((s.cook i).first + ((s.cook i).stepIndex + 1))).params.head := by
    rw [State.stepFrame, cook]
    rfl
  rw [← frame]
  exact if_pos more

theorem advanceCook_last (last : (s.cook i).count ≤ (s.cook i).stepIndex + 1) : s.advanceCook i =
    (s.modCook i fun c =>
      { c with stepsDone := c.stepsDone + 1, stepIndex := (s.cook i).count, state := .ending }).setSlot i
      { slot := .pending (.endCook (s.cook i).count) false, timer := none } := by
  have same : ∀ x : State, x.modCook i (fun c =>
      { c with stepsDone := c.stepsDone + 1, stepIndex := c.count, state := .ending }) =
      x.modCook i fun c =>
        { c with stepsDone := c.stepsDone + 1, stepIndex := (x.cook i).count, state := .ending } :=
    fun x => rfl
  rw [← same]
  exact if_neg (by omega)

end

theorem doStepAck_heard {f : UpFrame} (h : Heard s 8 2 f i) :
    doStepAck f s = (s.dispatched i).stepAck i (byteAt f.payload 0) :=
  (takeNotice_heard h).trans (congrArg (fun t : State => t.stepAck i (byteAt f.payload 0)) (if_pos rfl))

/-- Settles O43. -/
theorem stepsAdvance : Obligations.StepsAdvance := by
  refine ⟨fun s f i heard => ?_, fun s i => ⟨advanceCook_next s i, advanceCook_last s i⟩⟩
  have run := doStepAck_heard heard
  refine ⟨fun acked state => congrArg Host.Outcome.next (run.trans (stepAck_starts (acked_iff.mpr acked) state)),
    fun acked state => congrArg Host.Outcome.next (run.trans (stepAck_completes (acked_iff.mpr acked) state)),
    fun stale => congrArg Host.Outcome.next (run.trans (stepAck_stale ?_))⟩
  exact stale.imp_left fun other acked => other (acked_iff.mp acked)

end Sys2Proof.Machine
end

section
/-! PROOFS. Starting a cook: the ten checks, what an accepted start does, and the answers to the store and the
panel. -/

namespace Sys2Proof.Machine

variable {s : State} {i : OvenId} {r : Fin 512} {v : LiveVersion} {a : Reply}

/-! ### The checks (R31, R45) -/

theorem metBy_iff {n : Needs} {c : Caps} : n.metBy c = true ↔
    (n.steam = true → c.steam = true) ∧ (n.probe = true → c.probe = true) := by
  simp [Needs.metBy, ← Bool.not_eq_true, imp_iff_not_or]

theorem startRefusal_allowed (h : StartAllowed s i r v) : s.startRefusal i r = none := by
  obtain ⟨known, active, unlocked, served, free, idle, noStop, clear, live, day, permit, able⟩ := h
  have able : v.needs.metBy (s.oven i).capabilities = true := metBy_iff.mpr able
  simp [State.startRefusal, State.occupancyFree, OvenEntry.commissioned, -BitVec.getLsbD_eq_getElem, *]

theorem startAllowed_live (h : StartAllowed s i r v) : (s.recipe r).live = some v := by
  obtain ⟨-, -, -, -, -, -, -, -, live, -⟩ := h
  exact live

/-- The first check that fails gives the answer. -/
theorem startRefusal_fails (h : StartFails s i r a) : s.startRefusal i r = some a := by
  unfold StartFails at h
  simp only [← pendingStop_iff, ← metBy_iff] at h
  unfold State.startRefusal State.occupancyFree OvenEntry.commissioned
  rcases h with ⟨unknown, rfl⟩ | ⟨known, passive, rfl⟩ | ⟨⟨known, active⟩, locked, rfl⟩ |
    ⟨⟨⟨known, active⟩, unlocked⟩, service, rfl⟩ |
    ⟨⟨⟨⟨known, active⟩, unlocked⟩, served⟩, starting, rfl⟩ |
    ⟨⟨⟨⟨known, active⟩, unlocked⟩, served⟩, ⟨idle, stop⟩, rfl⟩ |
    ⟨⟨⟨⟨known, active⟩, unlocked⟩, served⟩, started, stopped, occupied, rfl⟩ |
    ⟨⟨⟨⟨⟨known, active⟩, unlocked⟩, served⟩, started, stopped, free⟩, clearing, rfl⟩ |
    ⟨⟨⟨⟨⟨⟨known, active⟩, unlocked⟩, served⟩, started, stopped, free⟩, clear⟩, unlive, rfl⟩ |
    ⟨v, live, ⟨⟨⟨⟨⟨known, active⟩, unlocked⟩, served⟩, started, stopped, free⟩, clear⟩,
      ⟨day, rfl⟩ | ⟨day, permit, rfl⟩ | ⟨day, permit, unable, rfl⟩⟩
  all_goals simp [-BitVec.getLsbD_eq_getElem, *]

/-! ### The wait entry (R47, R84) -/

theorem dropWait_absent (x : DropReason) (h : ∀ w ∈ s.cleaning.queue, w.oven ≠ i) : s.dropWait i x = s := by
  rcases dropWait_cases (s := s) i x with ⟨-, none⟩ | ⟨w, waits, same, -⟩
  · exact none
  · exact absurd same (h w waits)

/-- The one entry of the oven leaves the queue, and the others keep their order. -/
theorem dropWait_present (x : DropReason) {before after : List WaitEntry} {w : WaitEntry}
    (queue : s.cleaning.queue = before ++ w :: after) (same : w.oven = i)
    (others : ∀ y ∈ before ++ after, y.oven ≠ i) : s.dropWait i x =
      { s with cleaning := { s.cleaning with queue := before ++ after } }.offerReport
        (reportCleanDropped w x s.lineTime) := by
  have others' : (before ++ after).filter (fun y => y.oven != i) = before ++ after :=
    List.filter_eq_self.mpr fun y hy => bne_iff_ne.mpr (others y hy)
  have found : s.cleaning.queue.find? (fun y => y.oven == i) = some w := by
    have ahead : before.find? (fun y => y.oven == i) = none :=
      List.find?_eq_none.mpr fun y hy => by simpa using others y (List.mem_append_left _ hy)
    simp [queue, ahead, same]
  have left : s.removeWait i = { s with cleaning := { s.cleaning with queue := before ++ after } } := by
    rw [State.removeWait, queue, List.filter_append, List.filter_cons_of_neg (by simp [same]),
      ← List.filter_append, others']
  rw [State.dropWait, found, ← left]

theorem dropWait_steps (s : State) (i : OvenId) (x : DropReason) : (s.dropWait i x).steps = s.steps := by
  rcases dropWait_cases (s := s) i x with ⟨-, h⟩ | ⟨w, -, -, h⟩
  · rw [h]
  · rw [h, State.offerReport_steps]
    rfl

/-! ### An accepted start (R47, R49) -/

/-- An accepted start field by field: wait entry, occupancy, user count, context, STEP 0. -/
def State.begun (s : State) (i : OvenId) (r : Fin 512) (v : LiveVersion) (o : Origin)
    (batch : BitVec 16) : State :=
  ((((s.dropWait i .cook).modOven i fun e => { e with occupancy := .cooking }).modRecipe r
    fun e => { e with live := some { v with users := v.users + 1 } }).modCook i fun c =>
      c.begin o (r.val + 1) v.run batch s.lineTime).setSlot i
    { slot := .pending (.step 0 v.run.count (s.stepRec v.run.first).params.head) false, timer := none }

theorem acceptCook_eq (s : State) (i : OvenId) (r : Fin 512) (v : LiveVersion) (o : Origin)
    (batch : BitVec 16) : s.acceptCook i r v o batch = s.begun i r v o batch := by
  have steps (k : Nat) : (s.dropWait i .cook).stepRec k = s.stepRec k := by
    simp only [State.stepRec, dropWait_steps]
  simp only [State.acceptCook, State.putPending, State.stepFrame, State.modCook_self, State.modCook_stepRec,
    State.modRecipe_stepRec, State.setOccupancy, State.modOven_stepRec, steps]
  rfl

theorem startCook_allowed (o : Origin) (batch : BitVec 16) (h : StartAllowed s i r v) :
    s.startCook i r o batch =
      { after := s.begun i r v o batch, reply := some { result := .accepted, detail := v.run.version } } := by
  simp only [State.startCook, startRefusal_allowed h, startAllowed_live h, acceptCook_eq]
  rfl

theorem startCook_fails (o : Origin) (batch : BitVec 16) (h : StartFails s i r a) :
    s.startCook i r o batch = { after := s, reply := some a } := by
  simp only [State.startCook, startRefusal_fails h]

/-! ### The store's start (R44 to R48) -/

section
variable {f : StoreFrame}

theorem doCookStart_misformed (h : Misformed s f 1 4 4) :
    doCookStart f s = s.repliesTo 1 f { result := .badField } :=
  owned_misformed h (fun form => by have := beq_iff_eq.mp form; omega) (by decide)

/-- A start in its form is answered as the oven and the recipe it names answer it. -/
theorem doCookStart_sent {u : State} (h : Sent s f 1 i 4)
    (done : s.forRecipe f (fun r => s.startCook i r .store (BitVec.ofNat 16 (field f.payload 2 2))) =
      { after := u, reply := some a }) : doCookStart f s = u.repliesTo 1 f a :=
  owned_replies h (by decide) (by simp [h.2.2.2.2]) (by decide) done

theorem doCookStart_recipe {u : State} (h : Sent s f 1 i 4) (named : recipeOf (field f.payload 0 2) = some r)
    (done : s.startCook i r .store (BitVec.ofNat 16 (field f.payload 2 2)) = { after := u, reply := some a }) :
    doCookStart f s = u.repliesTo 1 f a :=
  doCookStart_sent h ((forRecipe_some named).trans done)

theorem doCookStart_noRecipe (h : Sent s f 1 i 4) (unnamed : recipeOf (field f.payload 0 2) = none) :
    doCookStart f s = s.repliesTo 1 f { result := .badField } :=
  doCookStart_sent h (by rw [State.forRecipe, unnamed]; rfl)

end

/-! ### The panel's start (R44, R45, R48) -/

theorem takesRefuse_iff {x : Slot} : x.takesRefuse = true ↔
    x = .empty ∨ ∃ q y b, x = .pending (.refuse q y) b := by
  unfold Slot.takesRefuse
  split <;> simp_all

theorem panelStart_allowed {n : Nat} (named : recipeOf n = some r) (h : StartAllowed s i r v) :
    s.panelStart i n = (s.begun i r v .panel 0).offerReport
      (reportCookStarted i n v.run.version .accepted false s.lineTime) := by
  simp only [State.panelStart, named, startRefusal_allowed h, startAllowed_live h, acceptCook_eq]

/-- A panel start that names no recipe or fails a check is refused. -/
theorem panelStart_refused {n : Nat} {why : Result} (h : recipeOf n = none ∧ why = .badField ∨
    ∃ r a, recipeOf n = some r ∧ StartFails s i r a ∧ why = a.result) :
    s.panelStart i n = s.panelRefused i n why := by
  rcases h with ⟨unnamed, rfl⟩ | ⟨r, a, named, fails, rfl⟩
  · simp only [State.panelStart, unnamed]
  · simp only [State.panelStart, named, startRefusal_fails fails]

section
variable (n : Nat) (why : Result)

/-- The oven is told of a refusal where its context is IDLE and its slot takes a REFUSE. -/
abbrev RefuseTold (s : State) (i : OvenId) : Prop := (s.cook i).state = .idle ∧
  ((s.slot i).slot = .empty ∨ ∃ q x b, (s.slot i).slot = .pending (.refuse q x) b)

theorem refuseTold_iff :
    RefuseTold s i ↔ ((s.cook i).state == .idle && (s.slot i).slot.takesRefuse) = true := by
  rw [Bool.and_eq_true, beq_iff_eq, takesRefuse_iff]

theorem panelRefused_told (h : RefuseTold s i) : s.panelRefused i n why =
    (s.setSlot i { slot := .pending (.refuse n why) false, timer := none }).offerReport
      (reportCookStarted i n 0 why true s.lineTime) := by
  rw [State.panelRefused, refuseTold_iff.mp h]
  rfl

theorem panelRefused_untold (h : ¬ RefuseTold s i) : s.panelRefused i n why =
    s.offerReport (reportCookStarted i n 0 why false s.lineTime) := by
  rw [State.panelRefused, Bool.eq_false_of_not_eq_true (mt refuseTold_iff.mpr h)]
  rfl

end

theorem doPanelStart_heard {f : UpFrame} (h : Heard s 8 3 f i) :
    doPanelStart f s = (s.noticed i 3 f).panelStart i (field f.payload 0 2) :=
  (takeNotice_heard h).trans
    (congrArg (fun t : State => t.panelStart i (field f.payload 0 2)) (if_neg (by decide)))

/-- Settles O40: starts that are accepted, the wait entry they drop, starts that fail. -/
theorem cookStarts : Obligations.CookStarts := by
  refine ⟨fun s f wrong => congrArg Host.Outcome.next (doCookStart_misformed wrong),
    ⟨fun s f i r v sent named allowed => congrArg Host.Outcome.next
        (doCookStart_recipe sent named (startCook_allowed _ _ allowed)),
      fun s f i r v heard named => ?_, fun s i x => dropWait_absent x,
      fun s i x before w after => dropWait_present x⟩,
    fun s f i r a sent named fails => congrArg Host.Outcome.next
      (doCookStart_recipe sent named (startCook_fails _ _ fails)),
    fun s f i sent unnamed => congrArg Host.Outcome.next (doCookStart_noRecipe sent unnamed),
    fun s f i why heard => ?_⟩
  · intro t allowed
    have started := (doPanelStart_heard heard).trans (panelStart_allowed named allowed)
    rw [recipeOf_eq_some_iff.mp named] at started
    exact congrArg Host.Outcome.next started
  · intro t n fails
    have refused := (doPanelStart_heard heard).trans (panelStart_refused fails)
    exact ⟨fun told => congrArg Host.Outcome.next (refused.trans (panelRefused_told n why told)),
      fun untold => congrArg Host.Outcome.next (refused.trans (panelRefused_untold n why untold))⟩

end Sys2Proof.Machine
end

section
/-! PROOFS. The Line Transmitter: the arbiter's choice and what it takes, and the end of a transmission. -/

namespace Sys2Proof.Machine

variable {s : State} {i : OvenId} {f : SlotFrame}

/-! ### The search of the step slots (R143) -/

theorem pendingFrame_iff {x : Slot} : x.pendingFrame = some f ↔ ∃ b, x = .pending f b := by
  cases x <;> simp [Slot.pendingFrame]

/-- The slot that lies next after the last one served is found: it stands first in the search, counted from there. -/
theorem nextSlot_nearest (here : (s.slot i).slot.pendingFrame = some f)
    (nearest : ∀ j g, (s.slot j).slot.pendingFrame = some g →
      (i - s.down.lastSlot - 1).val ≤ (j - s.down.lastSlot - 1).val) : s.nextSlot = some i := by
  have there : s.down.lastSlot + 1 + (i - s.down.lastSlot - 1) = i := by abel
  have first : allOvens.find? (fun k => (s.slot (s.down.lastSlot + 1 + k)).slot.pendingFrame.isSome) =
      some (i - s.down.lastSlot - 1) := by
    refine List.find?_eq_some_iff_getElem.mpr
      ⟨by rw [there, here]; rfl, (i - s.down.lastSlot - 1).val, by simp [allOvens], by simp [allOvens], ?_⟩
    intro k before
    rw [Bool.not_eq_true', Option.isSome_eq_false_iff, Option.isNone_iff_eq_none]
    refine Option.eq_none_iff_forall_ne_some.mpr fun g waits => ?_
    have back (x : OvenId) : s.down.lastSlot + 1 + x - s.down.lastSlot - 1 = x := by abel
    have far : (i - s.down.lastSlot - 1).val ≤ k := by simpa [back, allOvens] using nearest _ g waits
    omega
  rw [State.nextSlot, slotOrder, List.find?_map, Function.comp_def, first, Option.map_some, there]

theorem nextSlot_none (h : ∀ j, (s.slot j).slot.pendingFrame = none) : s.nextSlot = none :=
  List.find?_eq_none.mpr fun j _ => by simp [h j]

/-! ### The arbiter's choice (R143) -/

theorem nextLine_direct {h : DownFrame} {rest : List DownFrame}
    (head : s.down.classes[(0 : Fin 4)] = h :: rest) : s.nextLine = some (.cls 0, h.frame) := by
  have head : s.down.classes[0] = h :: rest := head
  rw [State.nextLine, head]

section
variable (direct : s.down.classes[(0 : Fin 4)] = [])
include direct

theorem nextLine_rollCall (asked : s.down.rollCall = true) : s.nextLine = some (.rollCall, identifyFrame) := by
  have direct : s.down.classes[0] = [] := direct
  simp only [State.nextLine, direct, asked, if_true]

variable (unasked : s.down.rollCall = false)
include unasked

theorem nextLine_slot (next : s.nextSlot = some i) (here : (s.slot i).slot.pendingFrame = some f) :
    s.nextLine = some (.slot i, slotKFrame i f) := by
  have direct : s.down.classes[0] = [] := direct
  simp [State.nextLine, direct, unasked, next, here]

/-- Without a direct frame, a roll call and a PENDING slot the first queue that holds a frame is taken. -/
theorem nextLine_queue (noSlot : s.nextSlot = none) {k : Fin 4} {h : DownFrame} {rest : List DownFrame}
    (head : s.down.classes[k] = h :: rest) (ahead : ∀ j < k, s.down.classes[j] = []) :
    s.nextLine = some (.cls k, h.frame) := by
  have direct' : s.down.classes[0] = [] := direct
  match k with
  | 0 => exact absurd (direct.symm.trans head) (by simp)
  | 1 =>
    have head : s.down.classes[1] = h :: rest := head
    simp [State.nextLine, direct', unasked, noSlot, head]
  | 2 =>
    have first : s.down.classes[1] = [] := ahead 1 (by decide)
    have head : s.down.classes[2] = h :: rest := head
    simp [State.nextLine, direct', unasked, noSlot, first, head]
  | 3 =>
    have first : s.down.classes[1] = [] := ahead 1 (by decide)
    have second : s.down.classes[2] = [] := ahead 2 (by decide)
    have head : s.down.classes[3] = h :: rest := head
    simp [State.nextLine, direct', unasked, noSlot, first, second, head]

theorem nextLine_none (noSlot : s.nextSlot = none) (empty : ∀ k : Fin 4, s.down.classes[k] = []) :
    s.nextLine = none := by
  have direct : s.down.classes[0] = [] := direct
  have first : s.down.classes[1] = [] := empty 1
  have second : s.down.classes[2] = [] := empty 2
  have third : s.down.classes[3] = [] := empty 3
  simp [State.nextLine, direct, unasked, noSlot, first, second, third]

end

/-! ### What is taken (R41, R143, R150) -/

/-- A frame of a source goes on the line with its bits. -/
def State.sends (s : State) (source : LineSource) (frame : KFrame) : State :=
  { s with down := { s.down with
      tx := some { source := source, frame := frame, line := lineSignal frame } } }

theorem doLineTransmitterTake_busy {x : LineTx} (busy : s.down.tx = some x) : doLineTransmitterTake s = s := by
  simp only [doLineTransmitterTake, busy]

theorem doLineTransmitterTake_none (free : s.down.tx = none) (none : s.nextLine = none) :
    doLineTransmitterTake s = s := by
  simp only [doLineTransmitterTake, free, none]

theorem doLineTransmitterTake_takes {source : LineSource} {frame : KFrame} (free : s.down.tx = none)
    (next : s.nextLine = some (source, frame)) :
    doLineTransmitterTake s = (s.markTaken source).sends source frame := by
  simp only [doLineTransmitterTake, free, next]
  rfl

/-- The slot taken is marked, and it is the last one served. -/
theorem markTaken_slot {b : Bool} (here : (s.slot i).slot = .pending f b) : s.markTaken (.slot i) =
    { s.setSlot i { slot := .pending f true, timer := (s.slot i).timer } with
      down := { s.down with lastSlot := i } } := by
  simp only [State.markTaken, here, Slot.takenOnLine]

/-- Settles O51: the arbiter's sources one by one. -/
theorem lineArbiter : Obligations.LineArbiter := by
  intro s takes pending none' noSlot
  have quiet (h : noSlot) : s.nextSlot = none := nextSlot_none fun j =>
    Option.eq_none_iff_forall_ne_some.mpr fun f here => h j f (pendingFrame_iff.mp here)
  have taken {source frame} (free : s.down.tx = none) (next : s.nextLine = some (source, frame)) :
      takes source frame (s.markTaken source) :=
    congrArg Host.Outcome.next (doLineTransmitterTake_takes free next)
  refine ⟨fun x busy => congrArg Host.Outcome.next (doLineTransmitterTake_busy busy),
    fun free => ⟨fun h rest head => taken free (nextLine_direct head),
      fun direct asked => taken free (nextLine_rollCall direct asked),
      fun i f direct unasked here nearest => ?_,
      fun h rest direct unasked still head => taken free
        (nextLine_queue direct unasked (quiet still) head ?_),
      fun h rest direct unasked still first head => taken free
        (nextLine_queue direct unasked (quiet still) head ?_),
      fun h rest direct unasked still first second head => taken free
        (nextLine_queue direct unasked (quiet still) head ?_),
      fun direct unasked still first second third => congrArg Host.Outcome.next
        (doLineTransmitterTake_none free (nextLine_none direct unasked (quiet still) ?_))⟩⟩
  · intro t
    obtain ⟨b, slot⟩ := here
    have found : (s.slot i).slot.pendingFrame = some f := pendingFrame_iff.mpr ⟨b, slot⟩
    have next := nextSlot_nearest found fun j g waits => nearest j g (pendingFrame_iff.mp waits)
    have sent := taken free (nextLine_slot direct unasked next found)
    rw [markTaken_slot slot] at sent
    exact sent
  · exact fun
      | 0, _ => direct
      | 1, h | 2, h | 3, h => absurd h (by decide)
  · exact fun
      | 0, _ => direct
      | 1, _ => first
      | 2, h | 3, h => absurd h (by decide)
  · exact fun
      | 0, _ => direct
      | 1, _ => first
      | 2, _ => second
      | 3, h => absurd h (by decide)
  · exact fun
      | 0 => direct
      | 1 => first
      | 2 => second
      | 3 => third

end Sys2Proof.Machine
end

section
/-! PROOFS. The end of a transmission by the source of its frame (R144). -/

namespace Sys2Proof.Machine

variable {s : State} {x : LineTx} {i : OvenId}

/-! ### The owner of a class frame (R114, R144) -/

section
variable {h : DownFrame}

theorem frameLeft_nobody (nobody : h.live = false ∨ ovenOf h.frame.oven.toNat = none ∨
    ¬ (h.frame.cls = clsUpdate ∧ h.frame.tag = tagChunk) ∧
      ¬ (h.frame.cls = clsClean ∧ h.frame.tag = tagCleanRequest)) : s.frameLeft h = s := by
  rcases nobody with stale | unnamed | ⟨noChunk, noRequest⟩
  · simp only [State.frameLeft, stale, Bool.not_false, if_true]
  · simp only [State.frameLeft, unnamed, ite_self]
  · simp only [State.frameLeft, if_neg noChunk, if_neg noRequest]
    split
    · rfl
    · split <;> rfl

variable (live : h.live = true) (named : ovenOf h.frame.oven.toNat = some i)
include live named

theorem frameLeft_chunk (chunk : h.frame.cls = clsUpdate ∧ h.frame.tag = tagChunk) :
    s.frameLeft h = s.modUpdate i fun u => { u with queued := u.queued - 1 } := by
  simp only [State.frameLeft, live, named, if_pos chunk, Bool.not_true, Bool.false_eq_true, if_false]

/-- Only an open record takes the flag. -/
theorem frameLeft_request (request : h.frame.cls = clsClean ∧ h.frame.tag = tagCleanRequest) :
    s.frameLeft h = if (s.cleanRecord i).isOpen = true then
      s.modCleanRecord i fun r => { r with requestSent := true } else s := by
  have noChunk : ¬ (h.frame.cls = clsUpdate ∧ h.frame.tag = tagChunk) := by
    rw [request.1]
    exact fun chunk => absurd chunk.1 (by decide)
  simp only [State.frameLeft, live, named, if_neg noChunk, if_pos request, Bool.not_true, Bool.false_eq_true,
    if_false]

end

/-! ### The slot after its transmission (R41 to R43) -/

theorem sentEnd_replaced {y : SlotState} (timeout : Nat) (h : ∀ f, y.slot ≠ .pending f true) :
    y.sentEnd timeout = y := by
  unfold SlotState.sentEnd
  split
  · exact absurd ‹_› (h _)
  · exact absurd ‹_› (h _)
  · exact absurd ‹_› (h _)
  · exact absurd ‹_› (h _)
  · rfl

theorem sentEnd_leaves {y : SlotState} (timeout : Nat)
    (h : y.slot = .pending .stop true ∨ ∃ q r, y.slot = .pending (.refuse q r) true) :
    y.sentEnd timeout = { slot := .empty, timer := y.timer } := by
  rcases h with stop | ⟨q, r, refuse⟩
  · simp only [SlotState.sentEnd, stop]
  · simp only [SlotState.sentEnd, refuse]

/-! ### The end by source (R144) -/

/-- The transmitter is free. -/
abbrev State.lineFree (s : State) : State := { s with down := { s.down with tx := none } }

section
variable (sending : s.down.tx = some x)
include sending

theorem doTransmissionEnd_rollCall (source : x.source = .rollCall) : doTransmissionEnd s = s.lineFree := by
  simp only [doTransmissionEnd, sending, source]

theorem doTransmissionEnd_slot (source : x.source = .slot i) : doTransmissionEnd s =
    s.lineFree.setSlot i ((s.slot i).sentEnd s.config.stepAckTimeout) := by
  simp only [doTransmissionEnd, sending, source]
  rfl

theorem doTransmissionEnd_class {k : Fin 4} {h : DownFrame} {rest : List DownFrame} (source : x.source = .cls k)
    (queue : s.down.classes[k] = h :: rest) : doTransmissionEnd s =
      (State.frameLeft { s.lineFree with down := { s.lineFree.down with
        classes := s.lineFree.down.classes.set k rest } } h).bufferFreed := by
  simp only [doTransmissionEnd, sending, source, State.leaveClass, queue]

end

/-- Settles O52. -/
theorem transmissionEnds : Obligations.TransmissionEnds := by
  intro s x sending a ends
  refine ⟨fun source => congrArg Host.Outcome.next (doTransmissionEnd_rollCall sending source),
    fun i source => ?_, fun k h rest source queue => ?_⟩
  · have run {y : SlotState} (slot : (s.slot i).sentEnd s.config.stepAckTimeout = y) :
        ends (a.setSlot i y) :=
      congrArg Host.Outcome.next (slot ▸ doTransmissionEnd_slot sending source)
    refine ⟨fun k n h step => run ?_, fun k step => run ?_, fun left => run (sentEnd_leaves _ left),
      fun replaced => ?_⟩
    · simp only [SlotState.sentEnd, step]
    · simp only [SlotState.sentEnd, step]
    · have kept := run (sentEnd_replaced _ replaced)
      exact (setSlot_slot a i).symm ▸ kept
  · intro b chunk request freed
    have run {t : State} (left : b.frameLeft h = t) : ends (freed t) :=
      congrArg Host.Outcome.next (left ▸ doTransmissionEnd_class sending source queue)
    exact ⟨fun nobody => run (frameLeft_nobody nobody),
      fun i live named is => run (frameLeft_chunk live named is),
      fun i live named is => run (frameLeft_request live named is)⟩

end Sys2Proof.Machine
end

section
/-! PROOFS. A SAMPLE from its dispatch to the verdict of the cook watch: the decimated copy, the stages of the
watch's arithmetic, and what an outcome does to the part (R60 to R74, R137, R138). -/

namespace Sys2Proof.Machine

variable {s : State} {i : OvenId}

/-! ### The way of a SAMPLE to the cook watch (R3, R10, R137, R138) -/

section
variable {tag : BitVec 16} {f : UpFrame}

/-- A SAMPLE that is heard is dispatched, forwarded by decimation, and taken by the cook watch. -/
theorem doSample_heard (h : Heard s clsSample tag f i) : doSample tag f s =
    ((s.dispatched i).forwardSample i (upCopy f clsSample tag)).watchSample i (Sample.ofPayload f.payload) := by
  obtain ⟨ready, source, presence, lo, hi, range, least, greatest⟩ := h
  obtain ⟨silently, actively⟩ := dispatched_eq s i
  have here := (oven_of_book s.wholeFrame_book i).1
  rw [doSample, arriveUp_pass ready source range least greatest]
  rcases presence with active | silent
  · rw [dispatchUp_active i _ _ (here.trans active), actively (by simp [active])]
  · rw [dispatchUp_silent (here.trans silent), silently silent]

end

/-- The decimation setting of an oven, 0 without a record (R138). -/
def State.decimation (s : State) (i : OvenId) : Nat := ((s.oven i).record.map (·.decimation)).getD 0

section
variable (k : KFrame)

theorem forwardSample_off (off : s.decimation i = 0) :
    s.forwardSample i k = s.modOvenCounters i fun c => { c with phase := 0 } := by
  simp only [State.decimation] at off
  simp [State.forwardSample, decimate, off]

/-- The last phase of the cycle selects the SAMPLE. -/
theorem forwardSample_selected (on : 0 < s.decimation i)
    (last : (s.oven i).counters.phase = s.decimation i - 1) : s.forwardSample i k =
      (s.modOvenCounters i fun c => { c with phase := 0 }).offerForward i k := by
  simp only [State.decimation] at on last
  simp [State.forwardSample, decimate, Nat.ne_of_gt on, last]

theorem forwardSample_passedOver (on : 0 < s.decimation i)
    (early : (s.oven i).counters.phase ≠ s.decimation i - 1) : s.forwardSample i k =
      s.modOvenCounters i fun c => { c with phase := (s.oven i).counters.phase + 1 } := by
  simp only [State.decimation] at on early
  simp [State.forwardSample, decimate, Nat.ne_of_gt on, early]

end

/-! ### Readings (R61, R68) -/

theorem clampReading_eq (v : Int) :
    clampReading v = if v = -32768 then none else some (max (-500) (min 4000 v)) := by
  unfold clampReading
  split
  · rfl
  split
  · exact congrArg some (by omega)
  split
  · exact congrArg some (by omega)
  · exact congrArg some (by omega)

/-- At most one side of the band is missed, for the tolerances are not negative. -/
theorem bandDistance_eq (p : StepParams) (v : Int) : bandDistance p v =
    (max (p.cavity - p.tolLow - v) (max (v - (p.cavity + p.tolHigh)) 0)).toNat := by
  unfold bandDistance
  split
  · omega
  split <;> omega

theorem qualifies_eq (p : StepParams) (tk : Option Int) (probe : Bool) : qualifies p tk probe =
    (probe && match tk, p.coreTarget with
      | some k, some target => decide (target ≤ k)
      | _, _ => false) := by
  unfold qualifies
  cases tk <;> cases p.coreTarget <;> simp

/-! ### Deviation, missing readings and budget (R67 to R70) -/

theorem budgetTrips_eq (c : CookCtx) (p : StepParams) : c.budgetTrips p =
    decide (0 < p.budget ∧ p.budget * 100 ≤ c.dev ∧ c.tripped = false) := by
  simp [CookCtx.budgetTrips, Bool.and_assoc]

theorem severity_eq (o : Overrun) : o.severity = if o = .note then .minor else .major := by
  cases o <;> rfl

section
variable (o : WatchOutcome) (p : StepParams) (tc tk : Option Int) (probe : Bool) (e : Nat)

/-- The context with the step clock, deviation and missing readings of a door-closed sample (R67 to R69). -/
def WatchOutcome.measured : CookCtx :=
  { o.ctx with stepClock := satAdd max32 o.ctx.stepClock e }.addDeviation p tc e

/-- The outcome of a door-closed sample up to the budget, before the end test (R67 to R70). -/
def WatchOutcome.judged : WatchOutcome :=
  let c := o.measured p tc e
  { o with
    ctx := { c with tripped := c.tripped || c.budgetTrips p }
    reading := tc.isSome
    missing := decide (tc = none ∧ o.ctx.missingRun = 29)
    deviation := if c.budgetTrips p then some p.overrun.severity else o.deviation }

variable {o p tc tk probe e}

theorem measured_eq : o.measured p tc e =
    { o.ctx with
      stepClock := satAdd max32 o.ctx.stepClock e
      dev := match tc with
        | some v => satAdd max32 o.ctx.dev (bandDistance p v * e)
        | none => o.ctx.dev
      missingRun := if tc = none then sat16 o.ctx.missingRun else 0 } := by
  cases tc <;> rfl

/-- The run of missing readings comes to thirty with the thirtieth such sample alone (R69). -/
theorem thirtieth_missing : (tc.isNone && decide (o.ctx.missingRun < 30) &&
    (o.measured p tc e).missingRun == 30) = decide (tc = none ∧ o.ctx.missingRun = 29) := by
  cases tc with
  | some v => simp
  | none =>
    rw [Bool.eq_iff_iff]
    simp only [measured_eq, sat16, satAdd, max16, Option.isNone_none, Bool.true_and, Bool.and_eq_true,
      decide_eq_true_eq, beq_iff_eq, if_true, true_and]
    omega

theorem judged_of_trips (trips : (o.measured p tc e).budgetTrips p = true) : o.judged p tc e =
    { o with
      ctx := { o.measured p tc e with tripped := true }
      reading := tc.isSome
      missing := tc.isNone && decide (o.ctx.missingRun < 30) && (o.measured p tc e).missingRun == 30
      deviation := some p.overrun.severity } := by
  simp only [WatchOutcome.judged, trips, Bool.or_true, if_true, thirtieth_missing]

theorem judged_of_within (within : (o.measured p tc e).budgetTrips p = false) : o.judged p tc e =
    { o with
      ctx := o.measured p tc e
      reading := tc.isSome
      missing := tc.isNone && decide (o.ctx.missingRun < 30) && (o.measured p tc e).missingRun == 30 } := by
  simp only [WatchOutcome.judged, within, Bool.or_false, Bool.false_eq_true, if_false, thirtieth_missing]

/-- A budget that trips aborts the cook before the end test where the step says so (R70). -/
theorem doorClosed_aborts (trips : (o.measured p tc e).budgetTrips p = true) (abort : p.overrun = .abort) :
    o.doorClosed p tc tk probe e = { o.judged p tc e with verdict := .abort .abortedDeviation } := by
  rw [judged_of_trips trips]
  unfold WatchOutcome.doorClosed
  refine (if_pos trips).trans ?_
  simp only [abort]
  rfl

/-- A budget that does not trip, or only notes it, leaves the sample to the end test (R70, R71). -/
theorem doorClosed_tests (goesOn : (o.measured p tc e).budgetTrips p = false ∨ p.overrun = .note) :
    o.doorClosed p tc tk probe e = (o.judged p tc e).endTest p tk probe e := by
  cases trips : (o.measured p tc e).budgetTrips p with
  | false =>
    rw [judged_of_within trips]
    exact if_neg (Bool.eq_false_iff.mp trips)
  | true =>
    have note : p.overrun = .note := goesOn.resolve_left (by simp [trips])
    rw [judged_of_trips trips]
    unfold WatchOutcome.doorClosed
    refine (if_pos trips).trans ?_
    simp only [note]
    rfl

/-! ### The end test (R71 to R74) -/

theorem endTest_time (time : p.endKind = .time) : o.endTest p tk probe e =
    if p.duration * 10 ≤ o.ctx.stepClock then { o with ctx := o.ctx.folded, verdict := .complete } else o := by
  simp only [WatchOutcome.endTest, time, decide_eq_true_eq]

/-- The outcome with the hold clock moved on by a sample that qualifies, and set back by any other (R72). -/
def WatchOutcome.holds (o : WatchOutcome) (p : StepParams) (tk : Option Int) (probe : Bool) (e : Nat) :
    WatchOutcome :=
  { o with ctx := { o.ctx with
      holdClock := if qualifies p tk probe then satAdd max32 o.ctx.holdClock e else 0 } }

/-- A CORE step completes with its hold; without it, its duration ends it as its overrun says (R72, R73). -/
theorem endTest_core (core : p.endKind = .core) : o.endTest p tk probe e =
    let b := o.holds p tk probe e
    if qualifies p tk probe = true ∧ p.hold * 10 ≤ b.ctx.holdClock then
      { b with ctx := b.ctx.folded, verdict := .complete }
    else if p.duration * 10 ≤ o.ctx.stepClock then
      if p.overrun = .note then
        { b with ctx := b.ctx.folded, coreTimeout := some .minor, verdict := .complete }
      else { b with coreTimeout := some .major, verdict := .abort .abortedCoreTimeout }
    else b := by
  simp only [WatchOutcome.endTest, WatchOutcome.holds, core, Bool.and_eq_true, decide_eq_true_eq]
  cases p.overrun <;> rfl

end

/-! ### A sample by the context's state (R60 to R66) -/

section
variable {c : CookCtx} {p : StepParams} {limit : Nat} {x : Sample}

theorem takeSample_idle (idle : c.state = .idle) : c.takeSample p limit x = { ctx := c } := by
  simp only [CookCtx.takeSample, idle]

theorem takeSample_inTransit (state : c.state = .starting ∨ c.state = .advancing ∨ c.state = .ending) :
    c.takeSample p limit x = { ctx := { c with lastStamp := x.stamp } } := by
  rcases state with state | state | state <;> simp only [CookCtx.takeSample, state]

theorem takeSample_baseline (running : c.state = .running) (baseline : c.baseline = true) :
    c.takeSample p limit x = { ctx := { c with lastStamp := x.stamp, baseline := false } } := by
  simp only [CookCtx.takeSample, running, baseline, if_true]

theorem takeSample_running (running : c.state = .running) (based : c.baseline = false) :
    c.takeSample p limit x = c.fullSample p limit x := by
  simp only [CookCtx.takeSample, running, based, Bool.false_eq_true, if_false]

/-- A duplicate changes nothing but its counter (R64). -/
theorem fullSample_duplicate (h : interval x.stamp c.lastStamp = 0 ∨ 32768 ≤ interval x.stamp c.lastStamp) :
    c.fullSample p limit x = { ctx := c, duplicate := true } := if_pos h

section
variable (c limit x)

/-- The outcome of a sample that counts, its stamp and gap taken and its door not yet looked at (R64, R65). -/
def CookCtx.stamped : WatchOutcome :=
  let gap := decide (limit < interval x.stamp c.lastStamp)
  { ctx := { c with lastStamp := x.stamp, gaps := if gap then sat16 c.gaps else c.gaps }, gap := gap }

/-- The interval that counts: no more than the gap limit (R65). -/
abbrev CookCtx.counted : Nat := min limit (interval x.stamp c.lastStamp)

end

/-- A sample that counts accumulates door time or goes through the stages of a closed door (R64 to R66). -/
theorem fullSample_fresh (later : 0 < interval x.stamp c.lastStamp)
    (near : interval x.stamp c.lastStamp < 32768) : c.fullSample p limit x =
      let o := c.stamped limit x
      if x.door then
        { o with ctx := { o.ctx with doorOpen := satAdd max32 o.ctx.doorOpen (c.counted limit x) } }
      else o.doorClosed p (clampReading x.cavity) (clampReading x.core) x.probe (c.counted limit x) := by
  have counted : (if decide (limit < interval x.stamp c.lastStamp) then limit
      else interval x.stamp c.lastStamp) = c.counted limit x := by
    simp only [CookCtx.counted, decide_eq_true_eq]
    split <;> omega
  have fresh : ¬ (interval x.stamp c.lastStamp = 0 ∨ 32768 ≤ interval x.stamp c.lastStamp) := by omega
  rw [← counted]
  exact if_neg fresh

end

/-! ### What an outcome does to the part (R60, R75) -/

/-- Settles O44: the way of a SAMPLE, what its outcome does, and the watch's arithmetic stage by stage. -/
theorem samplesAndCookWatch : Obligations.SamplesAndCookWatch := by
  refine ⟨⟨fun s tag f i heard => ?_, fun s i x => ?_⟩, fun c p limit x => ?_⟩
  · have run : exec (.sample tag f) s = .next _ := congrArg Host.Outcome.next (doSample_heard heard)
    intro t n phase puts copy x
    refine ⟨fun off => ?_, fun on last => ?_, fun on early => ?_⟩
    · rw [run, forwardSample_off _ off]
    · rw [run, forwardSample_selected _ on last]
      rfl
    · rw [run, forwardSample_passedOver _ on early]
  -- The statement spells the operation's stages, the saturating counters and the two options out.
  · unfold State.watchSample State.raiseIf State.applyVerdict
    rfl
  · intro r top e gap e' c1 clampT tc far clock dev run trips severity up good hold held total base
    refine ⟨takeSample_idle, takeSample_inTransit, takeSample_baseline, fun running based => ?_⟩
    have full : r = c.fullSample p limit x := takeSample_running running based
    refine ⟨fun dup => full.trans (fullSample_duplicate dup), fun later near opened => ?_,
      fun later near closed => ?_⟩
    · rw [full, fullSample_fresh later near]
      exact if_pos opened
    have reading : clampReading x.cavity = tc := clampReading_eq x.cavity
    have measured : (c.stamped limit x).measured p tc e' =
        { c1 with stepClock := clock, dev := dev, missingRun := run } := by
      rw [measured_eq]
      simp only [bandDistance_eq]
      rfl
    have budget : ((c.stamped limit x).measured p tc e').budgetTrips p = trips := by
      rw [measured, budgetTrips_eq]
    have judged : (c.stamped limit x).judged p tc e' = base := by
      rw [WatchOutcome.judged, budget, severity_eq, measured]
      rfl
    have closedRun : r = (c.stamped limit x).doorClosed p tc (clampReading x.core) x.probe e' := by
      rw [full, fullSample_fresh later near, ← reading]
      exact if_neg (by simp [closed])
    refine ⟨fun trip abort => ?_, fun goesOn => ?_⟩
    · rw [closedRun, doorClosed_aborts (budget.trans trip) abort, judged]
    have tested : r = base.endTest p (clampReading x.core) x.probe e' := by
      rw [closedRun, doorClosed_tests (goesOn.imp_left budget.trans), judged]
    refine ⟨fun time => ?_, fun core => ?_⟩
    · rw [tested, endTest_time time]
      simp only [up, decide_eq_true_eq]
      rfl
    · have qualified : qualifies p (clampReading x.core) x.probe = good := by
        rw [clampReading_eq]
        exact qualifies_eq ..
      rw [tested, endTest_core core, WatchOutcome.holds, qualified]
      simp only [held, up, Bool.and_eq_true, decide_eq_true_eq]
      rfl

end Sys2Proof.Machine
end

section
/-! PROOFS. Expiries on line time, the line error window, and the CLEAN frames of the store (R79 to R82, R86,
R91, R107, R119, R120). -/

namespace Sys2Proof.Machine

variable {s : State} {i : OvenId}

/-! ### Expiries on line time (R91, R107, R120) -/

theorem doOvertimeExpiry_due (due : (s.cleanRecord i).timer = .due) : doOvertimeExpiry i s =
    (s.modCleanRecord i fun r => { r with overtime := true, timer := .stopped }).raise (some i)
      codeCleanOvertime .major .condition := if_pos due

theorem doApplyTimerExpiry_due (due : (s.update i).timer = .due) (applying : (s.update i).state = .applying) :
    doApplyTimerExpiry i s = s.endApply i .timeout ⟨0, 0⟩ := if_pos ⟨due, applying⟩

theorem doLineErrorWindowClose_due (due : s.calls.window.closeDue = true) : doLineErrorWindowClose s =
    let t := if s.calls.window.count < s.config.lineErrorThreshold then
        s.clearAtSource none codeLineErrors else s
    { t with calls := { t.calls with window := { count := 0, raised := false, closeDue := false } } } :=
  if_pos due

/-! ### The line error window (R107) -/

/-- A bad CRC-16 counts in the window. -/
def State.countWindow (s : State) : State :=
  { s with calls := { s.calls with window :=
      { s.calls.window with count := sat16 s.calls.window.count } } }

/-- Below the threshold, and after the occurrence of the window, a bad CRC-16 only counts. -/
theorem lineError_counts
    (h : sat16 s.calls.window.count < s.config.lineErrorThreshold ∨ s.calls.window.raised = true) :
    s.lineError = s.countWindow := by
  refine if_neg fun ⟨reached, fresh⟩ => ?_
  rcases h with below | raised
  · omega
  · simp [fresh] at raised

/-- From the threshold on the first bad CRC-16 of the window raises LINE_ERRORS. -/
theorem lineError_raises (reached : s.config.lineErrorThreshold ≤ sat16 s.calls.window.count)
    (fresh : s.calls.window.raised = false) : s.lineError =
      let t := s.countWindow.raise none codeLineErrors .minor .condition
      { t with calls := { t.calls with window := { t.calls.window with raised := true } } } :=
  if_pos ⟨reached, fresh⟩

/-- Settles O13. -/
theorem lineTimeExpiriesAndLineErrors : Obligations.LineTimeExpiriesAndLineErrors :=
  ⟨⟨fun _ _ due => congrArg Host.Outcome.next (doOvertimeExpiry_due due),
    fun _ _ due applying => congrArg Host.Outcome.next (doApplyTimerExpiry_due due applying),
    fun _ due => congrArg Host.Outcome.next (doLineErrorWindowClose_due due)⟩,
    fun _ => ⟨lineError_counts, lineError_raises⟩⟩

/-! ### CLEAN REQUEST (R79 to R82) -/

theorem sent_length {f : StoreFrame} {tag : BitVec 16} {n : Nat} (h : Sent s f tag i n) :
    f.payload.length = n := by
  obtain ⟨-, -, -, -, length⟩ := h
  exact length

theorem programme_ofCode_none : {n : Nat} → n = 0 ∨ 4 < n → Programme.ofCode n = none
  | 0, _ => rfl
  | 1, h | 2, h | 3, h | 4, h => by omega
  | _ + 5, _ => rfl

theorem programme_code_ofCode {n : Nat} {p : Programme} (h : Programme.ofCode n = some p) : p.code = n := by
  unfold Programme.ofCode at h
  split at h
  all_goals cases h
  all_goals rfl

/-- The line address in a frame's header, read back. -/
theorem ovenByte_eq {b : Byte} (h : ovenOf b.toNat = some i) : ovenByte i = b := by
  unfold ovenOf at h
  split at h
  · cases h
    apply BitVec.eq_of_toNat_eq
    simp only [ovenByte, OvenId.addr, BitVec.toNat_ofNat]
    omega
  · cases h

/-- A payload of one byte is that byte. -/
theorem payload_eq {p : List Byte} (h : p.length = 1) : be 1 (byteAt p 0) = p := by
  obtain ⟨b, rfl⟩ := List.length_eq_one_iff.mp h
  exact be_byte b

theorem waiting_exists : s.waiting i = true ↔ ∃ w ∈ s.cleaning.queue, w.oven = i := by
  simp [State.waiting]

theorem slotOpen_iff : s.slotOpen = true ↔ s.cleaning.slotCount < s.config.slotLimit ∧
    s.config.cleanMask.getLsbD s.daypart.val = true := by
  simp [State.slotOpen, -BitVec.getLsbD_eq_getElem]

theorem bufferFree_iff : s.bufferFree = true ↔ s.down.inUse < 48 := by
  simp [State.bufferFree]

/-! The seven checks of R80, each reached when those before it pass. -/

section

theorem cleanRefusal_unknown (unknown : (s.oven i).record = none) : s.cleanRefusal i = some .unknownOven :=
  if_pos (by simp [OvenEntry.commissioned, unknown])

variable (known : (s.oven i).record.isSome = true)
include known

theorem cleanRefusal_passive (passive : (s.oven i).presence ≠ .active) :
    s.cleanRefusal i = some .notActive := by
  simp [State.cleanRefusal, OvenEntry.commissioned, known, passive]

variable (active : (s.oven i).presence = .active)
include active

theorem cleanRefusal_locked (locked : (s.oven i).locked = true) : s.cleanRefusal i = some .locked := by
  simp [State.cleanRefusal, OvenEntry.commissioned, known, active, locked]

variable (unlocked : (s.oven i).locked = false)
include unlocked

theorem cleanRefusal_service (service : (s.oven i).service = true) : s.cleanRefusal i = some .service := by
  simp [State.cleanRefusal, OvenEntry.commissioned, known, active, unlocked, service]

variable (served : (s.oven i).service = false)
include served

theorem cleanRefusal_unable (unable : (s.oven i).capabilities.autoClean = false) :
    s.cleanRefusal i = some .capability := by
  simp [State.cleanRefusal, OvenEntry.commissioned, known, active, unlocked, served, unable]

variable (able : (s.oven i).capabilities.autoClean = true)
include able

theorem cleanRefusal_busy (busy : (s.oven i).occupancy ≠ .free) : s.cleanRefusal i = some .occupied := by
  simp [State.cleanRefusal, OvenEntry.commissioned, State.occupancyFree, known, active, unlocked, served, able,
    busy]

variable (free : (s.oven i).occupancy = .free)
include free

theorem cleanRefusal_free : s.cleanRefusal i = if s.waiting i then some .duplicate else none := by
  simp [State.cleanRefusal, OvenEntry.commissioned, State.occupancyFree, known, active, unlocked, served, able,
    free]

end

theorem cleanRefusal_allowed (h : CleanAllowed s i) : s.cleanRefusal i = none := by
  obtain ⟨known, active, unlocked, served, able, free, absent⟩ := h
  rw [cleanRefusal_free known active unlocked served able free, if_neg]
  rw [waiting_exists]
  exact fun ⟨w, waits, own⟩ => absent w waits own

section
variable {f : StoreFrame} {p : Programme}

theorem doCleanRequest_misformed (h : Misformed s f 1 1 1) :
    doCleanRequest f s = s.repliesTo 2 f { result := .badField } :=
  owned_misformed h (fun form => by simp at form; omega) (by decide)

theorem doCleanRequest_noProgramme (h : Sent s f 1 i 1)
    (none : byteAt f.payload 0 = 0 ∨ 4 < byteAt f.payload 0) :
    doCleanRequest f s = s.repliesTo 2 f { result := .badField } :=
  owned_replies h (by decide) (by simp [sent_length h]) (by decide)
    (by simp only [programme_ofCode_none none]; rfl)

variable (h : Sent s f 1 i 1) (code : Programme.ofCode (byteAt f.payload 0) = some p)
include h code

theorem doCleanRequest_programme {u : State} {a : Reply}
    (act : s.requestCleaning i p f.seq = { after := u, reply := some a }) :
    doCleanRequest f s = u.repliesTo 2 f a :=
  owned_replies h (by decide) (by simp [sent_length h]) (by decide) (by simpa only [code] using act)

/-- The first check of R80 that fails names the result. -/
theorem doCleanRequest_refused {x : Result} (refused : s.cleanRefusal i = some x) :
    doCleanRequest f s = s.repliesTo 2 f { result := x } :=
  doCleanRequest_programme h code (by rw [State.requestCleaning, refused]; rfl)

theorem doCleanRequest_admitted (allowed : CleanAllowed s i) (slot : s.slotOpen = true)
    (buffer : s.bufferFree = true) : doCleanRequest f s =
      (s.admitOven i p f.seq s.lineTime .direct).repliesTo 2 f { result := .accepted } :=
  doCleanRequest_programme h code (by
    rw [State.requestCleaning, cleanRefusal_allowed allowed]
    simp only [slot, buffer, if_true]
    rfl)

theorem doCleanRequest_noBuffer (allowed : CleanAllowed s i) (slot : s.slotOpen = true)
    (full : ¬ s.bufferFree = true) :
    doCleanRequest f s = s.repliesTo 2 f { result := .busy, detail := 2 } :=
  doCleanRequest_programme h code (by
    rw [State.requestCleaning, cleanRefusal_allowed allowed]
    simp only [slot, full, if_true]
    rfl)

theorem doCleanRequest_queued (allowed : CleanAllowed s i) (noSlot : ¬ s.slotOpen = true) :
    doCleanRequest f s = (s.joinWait i p f.seq).repliesTo 2 f
      { result := .queued, detail := s.cleaning.queue.length + 1 } :=
  doCleanRequest_programme h code (by
    rw [State.requestCleaning, cleanRefusal_allowed allowed]
    simp only [noSlot]
    rfl)

/-- The REQUEST an admission puts in class 1 is the frame of the store, addressed to the oven (R82, R152). -/
theorem request_eq : downFrame clsClean tagCleanRequest i f.seq (be 1 p.code) =
    { frame := { cls := 2, oven := f.oven, tag := 1, seq := f.seq, payload := f.payload }, live := true } := by
  obtain ⟨-, -, oven, -, one⟩ := h
  rw [downFrame, ovenByte_eq oven, programme_code_ofCode code, payload_eq one]

end

/-- The expected duration by programme (R77). -/
theorem duration_eq (c : Params) (p : Programme) : c.duration p =
    match p with | .rinse => c.rinse | .light => c.light | .medium => c.medium | .heavy => c.heavy := by
  cases p <;> rfl

/-- Settles O36. -/
theorem cleanRequest : Obligations.CleanRequest := by
  refine ⟨fun s f wrong => congrArg Host.Outcome.next (doCleanRequest_misformed wrong),
    fun s f i sent none => congrArg Host.Outcome.next (doCleanRequest_noProgramme sent none), ?_⟩
  intro s f i p sent code e refused slot minutes
  have refuse : ∀ {x : Result}, s.cleanRefusal i = some x → refused x := fun first =>
    congrArg Host.Outcome.next (doCleanRequest_refused sent code first)
  refine ⟨fun unknown => refuse (cleanRefusal_unknown unknown),
    fun known passive => refuse (cleanRefusal_passive known passive),
    fun known active locked => refuse (cleanRefusal_locked known active locked),
    fun known active unlocked service => refuse (cleanRefusal_service known active unlocked service),
    fun known active unlocked served unable =>
      refuse (cleanRefusal_unable known active unlocked served unable),
    fun known active unlocked served able busy =>
      refuse (cleanRefusal_busy known active unlocked served able busy),
    fun known active unlocked served able free waits =>
      refuse ((cleanRefusal_free known active unlocked served able free).trans
        (if_pos (waiting_exists.mpr waits))),
    fun allowed slot buffer => ?_, fun allowed slot full => ?_, fun allowed noSlot => ?_⟩
  · intro a b
    have run := doCleanRequest_admitted sent code allowed (slotOpen_iff.mpr slot) (bufferFree_iff.mpr buffer)
    refine congrArg Host.Outcome.next (run.trans ?_)
    rw [State.admitOven, request_eq sent code, duration_eq]
    rfl
  · exact congrArg Host.Outcome.next (doCleanRequest_noBuffer sent code allowed (slotOpen_iff.mpr slot)
      fun buffer => Nat.not_lt.mpr full (bufferFree_iff.mp buffer))
  · exact congrArg Host.Outcome.next (doCleanRequest_queued sent code allowed (mt slotOpen_iff.mp noSlot))

/-! ### CLEAN CANCEL (R79, R86) -/

section
variable {f : StoreFrame}

theorem doCleanCancel_misformed (h : Misformed s f 2 0 0) :
    doCleanCancel f s = s.repliesTo 2 f { result := .badField } :=
  owned_misformed h (fun form => by simpa using form) (by decide)

theorem doCleanCancel_sent {u : State} {a : Reply} (h : Sent s f 2 i 0)
    (act : s.cancelCleaning i f = { after := u, reply := some a }) :
    doCleanCancel f s = u.repliesTo 2 f a :=
  owned_replies h (by decide) (by simp [sent_length h]) (by decide) act

/-- A waiting oven's entry leaves the queue. -/
theorem cancelCleaning_waits (waits : s.waiting i = true) :
    s.cancelCleaning i f = { after := s.removeWait i, reply := some { result := .done } } := if_pos waits

theorem cancelCleaning_state (absent : ¬ s.waiting i = true) (other : (s.oven i).occupancy ≠ .cleaning) :
    s.cancelCleaning i f = { after := s, reply := some { result := .state } } :=
  (if_neg absent).trans (if_pos other)

section
variable (absent : ¬ s.waiting i = true) (cleans : (s.oven i).occupancy = .cleaning)
include absent cleans

/-- A cleaning whose REQUEST has not been sent yet asks the store to wait. -/
theorem cancelCleaning_unsent (unsent : (s.cleanRecord i).requestSent = false) :
    s.cancelCleaning i f = { after := s, reply := some { result := .busy, detail := 1 } } := by
  simp [State.cancelCleaning, absent, cleans, unsent, State.says]

variable (sent : (s.cleanRecord i).requestSent = true)
include sent

theorem cancelCleaning_noBuffer (full : ¬ s.bufferFree = true) :
    s.cancelCleaning i f = { after := s, reply := some { result := .busy, detail := 2 } } := by
  simp [State.cancelCleaning, absent, cleans, sent, full, poolBusy]

/-- The CANCEL is forwarded in class 0. -/
theorem cancelCleaning_forwards (buffer : s.bufferFree = true) : s.cancelCleaning i f =
    { after := (s.pushDown 0 (downFrame clsClean tagCleanCancel i f.seq f.payload)).modCleanRecord i
        fun r => { r with cancelSent := true },
      reply := some { result := .done } } := by
  simp [State.cancelCleaning, absent, cleans, sent, buffer, State.says]

end
end

/-- Settles O37: the table of R86 row by row. -/
theorem cleanCancel : Obligations.CleanCancel := by
  refine ⟨fun s f wrong => congrArg Host.Outcome.next (doCleanCancel_misformed wrong), ?_⟩
  intro s f i sent answers waits cleans
  have answer : ∀ {t a}, s.cancelCleaning i f = { after := t, reply := some a } → answers t a := fun act =>
    congrArg Host.Outcome.next (doCleanCancel_sent sent act)
  have absent : ¬ waits → ¬ s.waiting i = true := mt waiting_exists.mp
  refine ⟨fun there => answer (cancelCleaning_waits (waiting_exists.mpr there)),
    fun none other => answer (cancelCleaning_state (absent none) other),
    fun none cleaning unsent => answer (cancelCleaning_unsent (absent none) cleaning unsent),
    fun none cleaning requested full => answer (cancelCleaning_noBuffer (absent none) cleaning requested
      fun buffer => Nat.not_lt.mpr full (bufferFree_iff.mp buffer)),
    fun none cleaning requested buffer => ?_⟩
  have forwarded : downFrame clsClean tagCleanCancel i f.seq f.payload =
      { frame := { cls := 2, oven := f.oven, tag := 2, seq := f.seq, payload := [] }, live := true } := by
    obtain ⟨-, -, oven, -, empty⟩ := sent
    rw [downFrame, ovenByte_eq oven, List.eq_nil_of_length_eq_zero empty]
  rw [← forwarded]
  exact answer (cancelCleaning_forwards (absent none) cleaning requested (bufferFree_iff.mpr buffer))

end Sys2Proof.Machine
end

section
/-! PROOFS. The admission pass: what it does with the first entry it does not skip, and what it leaves (R82 to
R85). -/

namespace Sys2Proof.Machine

variable {s t u : State} {w : WaitEntry} {before after : List WaitEntry}

/-! ### The walk, entry by entry (R85) -/

/-- An entry that keeps its place: its oven is SILENT or in service, and nothing drops it (R85). -/
def State.Skips (s : State) (w : WaitEntry) : Prop :=
  (s.oven w.oven).locked = false ∧ (s.oven w.oven).capabilities.autoClean = true ∧
    ((s.oven w.oven).presence = .silent ∨ (s.oven w.oven).service = true)

theorem State.Skips.waits (h : s.Skips w) :
    (s.oven w.oven).presence = .silent ∨ (s.oven w.oven).service = true := by
  obtain ⟨-, -, waits⟩ := h
  exact waits

/-- An entry that is neither skipped nor dropped is of an oven that is heard and not in service. -/
theorem heard_of_not_skips (first : ¬ s.Skips w) (unlocked : (s.oven w.oven).locked = false)
    (able : (s.oven w.oven).capabilities.autoClean = true) :
    (s.oven w.oven).presence ≠ .silent ∧ (s.oven w.oven).service = false :=
  ⟨fun silent => first ⟨unlocked, able, .inl silent⟩,
    Bool.eq_false_iff.mpr fun service => first ⟨unlocked, able, .inr service⟩⟩

theorem State.Skips.of_oven (h : s.Skips w) (same : t.oven w.oven = s.oven w.oven) : t.Skips w := by
  rw [State.Skips, same]
  exact h

/-- The pass held for buffer flag is set or cleared. -/
def State.hold (s : State) (b : Bool) : State := { s with cleaning := { s.cleaning with passHeld := b } }

theorem admissionPass_eq : s.admissionPass = passWalk s.cleaning.queue (s.hold false) := rfl

theorem passWalk_closed (closed : s.slotOpen = false) : ∀ l, passWalk l s = s
  | [] => rfl
  | _ :: _ => if_pos (by simp [closed])

theorem passWalk_skip (skips : s.Skips w) (l : List WaitEntry) : passWalk (w :: l) s = passWalk l s := by
  obtain ⟨unlocked, able, waits⟩ := skips
  cases closed : s.slotOpen with
  | false => rw [passWalk_closed closed, passWalk_closed closed]
  | true => rcases waits with silent | service <;> simp [passWalk, *]

theorem passWalk_skips (skips : ∀ x ∈ before, s.Skips x) (l : List WaitEntry) :
    passWalk (before ++ l) s = passWalk l s := by
  induction before with
  | nil => rfl
  | cons x rest ih =>
    rw [List.cons_append, passWalk_skip (skips x (by simp)), ih fun y hy => skips y (by simp [hy])]

section
variable (opened : s.slotOpen = true)
include opened

theorem passWalk_locked (locked : (s.oven w.oven).locked = true) (l : List WaitEntry) :
    passWalk (w :: l) s = passWalk l (s.dropWait w.oven .locked) := by
  simp [passWalk, opened, locked]

variable (unlocked : (s.oven w.oven).locked = false)
include unlocked

theorem passWalk_unable (unable : (s.oven w.oven).capabilities.autoClean = false) (l : List WaitEntry) :
    passWalk (w :: l) s = passWalk l (s.dropWait w.oven .capability) := by
  simp [passWalk, opened, unlocked, unable]

variable (able : (s.oven w.oven).capabilities.autoClean = true) (heard : (s.oven w.oven).presence ≠ .silent)
  (served : (s.oven w.oven).service = false) (free : (s.oven w.oven).occupancy = .free)
include able heard served free

theorem passWalk_admits (buffer : s.bufferFree = true) (l : List WaitEntry) : passWalk (w :: l) s =
    passWalk l ((s.admitOven w.oven w.programme w.seq w.taken .queue).removeWait w.oven) := by
  simp [passWalk, State.occupancyFree, *]

theorem passWalk_holds (full : s.bufferFree = false) (l : List WaitEntry) :
    passWalk (w :: l) s = s.hold true := by
  simp [passWalk, State.occupancyFree, State.hold, *]

end

/-! ### The pass goes on as a pass over what is left -/

/-- A state whose queue begins with skipped entries passes over them. -/
theorem admissionPass_resumes (queue : t.cleaning.queue = before ++ after)
    (skips : ∀ x ∈ before, t.Skips x) : t.admissionPass = passWalk after (t.hold false) := by
  rw [admissionPass_eq, queue]
  exact passWalk_skips (s := t.hold false) skips after

theorem hold_offerReport (b : Bool) (k : KFrame) : (s.hold b).offerReport k = (s.offerReport k).hold b := by
  rw [State.offerReport, State.offerReport, apply_ite (fun v : State => v.hold b)]
  rfl

theorem removeWait_offerReport (i : OvenId) (k : KFrame) :
    (s.offerReport k).removeWait i = (s.removeWait i).offerReport k :=
  apply_ite (fun v : State => v.removeWait i) _ _ _

theorem hold_dropWait (b : Bool) (i : OvenId) (x : DropReason) :
    (s.hold b).dropWait i x = (s.dropWait i x).hold b := by
  cases found : s.cleaning.queue.find? (fun y => y.oven == i) with
  | none =>
    have found' : (s.hold b).cleaning.queue.find? (fun y => y.oven == i) = none := found
    rw [State.dropWait, State.dropWait, found, found']
  | some y =>
    have found' : (s.hold b).cleaning.queue.find? (fun y => y.oven == i) = some y := found
    rw [State.dropWait, State.dropWait, found, found']
    exact hold_offerReport (s := s.removeWait i) b _

/-- An admission from the wait queue: its entry has left the queue (R82). -/
def State.admitWaiting (s : State) (w : WaitEntry) : State :=
  (s.admitOven w.oven w.programme w.seq w.taken .queue).removeWait w.oven

theorem admitWaiting_offers : s.admitWaiting w = (s.admitting w).offerReport
    (reportCleanAdmitted w.oven w.programme w.seq w.taken s.lineTime (s.cleaning.slotCount + 1) .queue) :=
  removeWait_offerReport _ _

theorem hold_admitWaiting (b : Bool) : (s.hold b).admitWaiting w = (s.admitWaiting w).hold b := by
  rw [admitWaiting_offers, admitWaiting_offers, ← hold_offerReport]
  rfl

/-- An admission, its entry first: occupancy, record, REQUEST, slot (R82). -/
theorem admitting_eq (s : State) (w : WaitEntry) : s.admitting w =
    let t := (((s.removeWait w.oven).setOccupancy w.oven .cleaning).modCleanRecord w.oven fun _ =>
      admittedRecord w.programme w.seq s.lineTime (s.config.duration w.programme)).pushDown 1 w.request
    { t with cleaning := { t.cleaning with slotCount := s.cleaning.slotCount + 1 } } := by
  cases s
  rfl

/-! ### The entries before and after the one dealt with -/

theorem waiting_free (law : CleaningLaw s) (waits : w ∈ s.cleaning.queue) :
    (s.oven w.oven).occupancy = .free := by
  obtain ⟨-, -, free, -⟩ := law
  exact free w waits

/-- No other entry is of the same oven (R81). -/
theorem nodup_split (law : CleaningLaw s) (queue : s.cleaning.queue = before ++ w :: after) :
    ∀ y ∈ before ++ after, y.oven ≠ w.oven := by
  obtain ⟨-, nodup, -⟩ := law
  rw [queue, List.map_append, List.map_cons, List.nodup_middle, List.nodup_cons, ← List.map_append] at nodup
  exact fun y hy same => nodup.1 (same ▸ List.mem_map_of_mem hy)

theorem removeWait_present (queue : s.cleaning.queue = before ++ w :: after)
    (others : ∀ y ∈ before ++ after, y.oven ≠ w.oven) :
    s.removeWait w.oven = { s with cleaning := { s.cleaning with queue := before ++ after } } := by
  have others' : (before ++ after).filter (fun y => y.oven != w.oven) = before ++ after :=
    List.filter_eq_self.mpr fun y hy => bne_iff_ne.mpr (others y hy)
  rw [State.removeWait, queue, List.filter_append, List.filter_cons_of_neg (by simp), ← List.filter_append,
    others']

/-! ### What is done with the first entry that is not skipped (R82, R84, R85) -/

/-- The entries before it are passed over. -/
theorem admissionPass_reaches (queue : s.cleaning.queue = before ++ w :: after)
    (skips : ∀ x ∈ before, s.Skips x) : s.admissionPass = passWalk (w :: after) (s.hold false) :=
  admissionPass_resumes queue skips

section
variable (law : CleaningLaw s) (opened : s.slotOpen = true) (queue : s.cleaning.queue = before ++ w :: after)
  (skips : ∀ x ∈ before, s.Skips x)
include law queue skips

theorem admissionPass_drops {x : DropReason}
    (drops : passWalk (w :: after) (s.hold false) = passWalk after ((s.hold false).dropWait w.oven x)) :
    s.admissionPass = (s.dropWait w.oven x).admissionPass := by
  have left := dropWait_present x queue rfl (nodup_split law queue)
  have ovens : (s.dropWait w.oven x).ovens = s.ovens := by rw [left, State.offerReport_ovens]
  have skips' : ∀ y ∈ before, (s.dropWait w.oven x).Skips y := fun y hy =>
    (skips y hy).of_oven (oven_of_ovens ovens _)
  rw [admissionPass_reaches queue skips, drops, hold_dropWait]
  refine (admissionPass_resumes ?_ skips').symm
  rw [left, State.offerReport_cleaning]

include opened

theorem admissionPass_locked (locked : (s.oven w.oven).locked = true) :
    s.admissionPass = (s.dropWait w.oven .locked).admissionPass :=
  admissionPass_drops law queue skips (passWalk_locked (s := s.hold false) opened locked after)

variable (unlocked : (s.oven w.oven).locked = false)
include unlocked

theorem admissionPass_unable (unable : (s.oven w.oven).capabilities.autoClean = false) :
    s.admissionPass = (s.dropWait w.oven .capability).admissionPass :=
  admissionPass_drops law queue skips (passWalk_unable (s := s.hold false) opened unlocked unable after)

variable (able : (s.oven w.oven).capabilities.autoClean = true) (first : ¬ s.Skips w)
include able first

theorem admissionPass_admits (buffer : s.bufferFree = true) :
    s.admissionPass = (s.admitWaiting w).admissionPass := by
  obtain ⟨heard, served⟩ := heard_of_not_skips first unlocked able
  have free : (s.oven w.oven).occupancy = .free := waiting_free law (by simp [queue])
  have others := nodup_split law queue
  have skips' : ∀ y ∈ before, (s.admitWaiting w).Skips y := by
    intro y hy
    have away : w.oven ≠ y.oven := (others y (List.mem_append_left _ hy)).symm
    have same : (s.admitWaiting w).oven y.oven = s.oven y.oven := by
      rw [admitWaiting_offers, oven_of_ovens (State.offerReport_ovens _ _), (State.admitting_other away).1]
    exact (skips y hy).of_oven same
  rw [admissionPass_reaches queue skips,
    passWalk_admits (s := s.hold false) opened unlocked able heard served free buffer]
  refine (congrArg (passWalk after) (hold_admitWaiting false)).trans (admissionPass_resumes ?_ skips').symm
  rw [admitWaiting_offers, State.offerReport_cleaning]
  exact congrArg (fun v : State => v.cleaning.queue) (removeWait_present queue others)

theorem admissionPass_holds (full : s.bufferFree = false) : s.admissionPass = s.hold true := by
  obtain ⟨heard, served⟩ := heard_of_not_skips first unlocked able
  have free : (s.oven w.oven).occupancy = .free := waiting_free law (by simp [queue])
  rw [admissionPass_reaches queue skips,
    passWalk_holds (s := s.hold false) opened unlocked able heard served free full]
  rfl

end

/-! ### What a pass leaves (R84, R85) -/

/-- An entry is dealt with: it alone leaves the queue, its oven is cleaning, locked or without AUTO_CLEAN, and
slots are filled up to the limit only. -/
structure State.Deals (s : State) (w : WaitEntry) (t : State) : Prop where
  queue : t.cleaning.queue = s.cleaning.queue.filter fun y => y.oven != w.oven
  slots : t.cleaning.slotCount ≤ max s.cleaning.slotCount s.config.slotLimit
  config : t.config = s.config
  gone : (t.oven w.oven).occupancy = .cleaning ∨ (t.oven w.oven).locked = true ∨
    (t.oven w.oven).capabilities.autoClean = false
  others : ∀ i, i ≠ w.oven → t.oven i = s.oven i ∧ t.cleanRecord i = s.cleanRecord i

theorem State.Deals.reported (h : s.Deals w t) (built : List KFrame) (lost : Nat) :
    s.Deals w (t.reported built lost) :=
  ⟨h.queue, h.slots, h.config, h.gone, h.others⟩

theorem dropWait_deals (x : DropReason)
    (drops : (s.oven w.oven).locked = true ∨ (s.oven w.oven).capabilities.autoClean = false) :
    s.Deals w (s.dropWait w.oven x) := by
  obtain ⟨built, lost, dropped, -⟩ := State.dropWait_reported (s := s) w.oven x
  have removed : s.Deals w (s.removeWait w.oven) :=
    ⟨rfl, le_max_left _ _, rfl, .inr drops, fun _ _ => ⟨rfl, rfl⟩⟩
  exact dropped ▸ removed.reported built lost

theorem admitWaiting_deals (opened : s.slotOpen = true) : s.Deals w (s.admitWaiting w) := by
  obtain ⟨built, lost, admitted⟩ := State.admitOven_reported (s := s) w
  have slots : (s.admitting w).cleaning.slotCount = s.cleaning.slotCount + 1 := by rw [admitting_eq]
  have taken : ((s.admitting w).oven w.oven).occupancy = .cleaning := by
    rw [State.admitting_oven, State.setOccupancy, State.modOven_self]
  have admitting : s.Deals w (s.admitting w) :=
    { queue := by rw [admitting_eq]; rfl
      slots := le_max_of_le_right (slots ▸ (slotOpen_iff.mp opened).1)
      config := by cases s; rfl
      gone := .inl taken
      others := fun i away => State.admitting_other away.symm }
  rw [State.admitWaiting, admitted]
  exact admitting.reported built lost

theorem dropWait_law (law : CleaningLaw s) (x : DropReason) : CleaningLaw (s.dropWait w.oven x) := by
  rw [cleaningLaw_iff] at law ⊢
  exact (s.dropWait_passes w.oven x).roster.cleaning law

theorem admitWaiting_law (law : CleaningLaw s) (waits : w ∈ s.cleaning.queue) :
    CleaningLaw (s.admitWaiting w) := by
  have free := waiting_free law waits
  have ready : s.phase = .restoring → s.cleaning.queue.map (·.oven) ≠ [] := fun _ none => by
    simp [List.map_eq_nil_iff.mp none] at waits
  rw [cleaningLaw_iff] at law ⊢
  rw [State.admitWaiting, State.removeWait_book, State.admitOven_book s w.oven free]
  exact (Roster.Moves.admission w.oven ready free .refl).cleaning law

/-- Either every entry is skipped, or one is the first that is not. -/
theorem skips_or_first (s : State) (l : List WaitEntry) : (∀ x ∈ l, s.Skips x) ∨
    ∃ before w after, l = before ++ w :: after ∧ (∀ x ∈ before, s.Skips x) ∧ ¬ s.Skips w := by
  induction l with
  | nil => exact .inl (by simp)
  | cons x rest ih =>
    by_cases skips : s.Skips x
    · rcases ih with all | ⟨before, w, after, rfl, ahead, first⟩
      · exact .inl (by simpa using ⟨skips, all⟩)
      · exact .inr ⟨x :: before, w, after, rfl, by simpa using ⟨skips, ahead⟩, first⟩
    · exact .inr ⟨[], x, rest, rfl, by simp, skips⟩

/-- A pass finds nothing to do, is held for a buffer, or deals with an entry and goes on. -/
theorem admissionPass_cases (law : CleaningLaw s) :
    ((s.slotOpen = false ∨ ∀ w ∈ s.cleaning.queue, s.Skips w) ∧ s.admissionPass = s.hold false) ∨
    (s.slotOpen = true ∧ s.bufferFree = false ∧ s.admissionPass = s.hold true) ∨
    ∃ w ∈ s.cleaning.queue, ∃ t, s.Deals w t ∧ CleaningLaw t ∧ s.admissionPass = t.admissionPass := by
  cases opened : s.slotOpen with
  | false => exact .inl ⟨.inl rfl, passWalk_closed (s := s.hold false) opened _⟩
  | true =>
    rcases skips_or_first s s.cleaning.queue with all | ⟨before, w, after, queue, skips, first⟩
    · refine .inl ⟨.inr all, ?_⟩
      rw [admissionPass_resumes (List.append_nil _).symm all]
      rfl
    have waits : w ∈ s.cleaning.queue := by simp [queue]
    cases locked : (s.oven w.oven).locked with
    | true => exact .inr (.inr ⟨w, waits, _, dropWait_deals .locked (.inl locked),
        dropWait_law law .locked, admissionPass_locked law opened queue skips locked⟩)
    | false =>
      cases able : (s.oven w.oven).capabilities.autoClean with
      | false => exact .inr (.inr ⟨w, waits, _, dropWait_deals .capability (.inr able),
          dropWait_law law .capability, admissionPass_unable law opened queue skips locked able⟩)
      | true =>
        cases buffer : s.bufferFree with
        | true => exact .inr (.inr ⟨w, waits, _, admitWaiting_deals opened, admitWaiting_law law waits,
            admissionPass_admits law opened queue skips locked able first buffer⟩)
        | false => exact .inr (.inl ⟨rfl, rfl,
            admissionPass_holds law opened queue skips locked able first buffer⟩)

/-- What holds between the state before a pass and the state after it. -/
structure State.Passed (s t : State) : Prop where
  queue : t.cleaning.queue.Sublist s.cleaning.queue
  slots : t.cleaning.slotCount ≤ max s.cleaning.slotCount s.config.slotLimit
  gone : ∀ w ∈ s.cleaning.queue, w ∉ t.cleaning.queue → (t.oven w.oven).occupancy = .cleaning ∨
    (t.oven w.oven).locked = true ∨ (t.oven w.oven).capabilities.autoClean = false
  kept : t.slotOpen = true → t.cleaning.passHeld = false → ∀ w ∈ t.cleaning.queue,
    (t.oven w.oven).presence = .silent ∨ (t.oven w.oven).service = true
  held : t.cleaning.passHeld = true → t.slotOpen = true ∧ t.bufferFree = false
  others : ∀ i, (∀ w ∈ s.cleaning.queue, w.oven ≠ i) →
    t.oven i = s.oven i ∧ t.cleanRecord i = s.cleanRecord i

/-- A pass that deals with no entry. -/
theorem State.Passed.of_hold {b : Bool}
    (kept : s.slotOpen = true → b = false → ∀ w ∈ s.cleaning.queue, s.Skips w)
    (held : b = true → s.slotOpen = true ∧ s.bufferFree = false) : s.Passed (s.hold b) :=
  ⟨.refl _, le_max_left _ _, fun _ waits left => absurd waits left,
    fun opened clear w waits => (kept opened clear w waits).waits, held, fun _ _ => ⟨rfl, rfl⟩⟩

/-- An entry is dealt with, and the pass goes on. -/
theorem State.Passed.of_deals (deals : s.Deals w t) (waits : w ∈ s.cleaning.queue) (passed : t.Passed u) :
    s.Passed u := by
  have sub : t.cleaning.queue.Sublist s.cleaning.queue := deals.queue ▸ List.filter_sublist
  have away : ∀ y ∈ t.cleaning.queue, y.oven ≠ w.oven := by simp [deals.queue]
  refine ⟨passed.queue.trans sub, ?_, fun y hy left => ?_, passed.kept, passed.held, fun i absent => ?_⟩
  · have slots := passed.slots
    rw [deals.config] at slots
    exact slots.trans (max_le deals.slots (le_max_right _ _))
  · by_cases own : y.oven = w.oven
    · rw [own, (passed.others w.oven away).1]
      exact deals.gone
    · exact passed.gone y (by simp [deals.queue, hy, own]) left
  · obtain ⟨oven, record⟩ := passed.others i fun y hy => absent y (sub.subset hy)
    obtain ⟨oven', record'⟩ := deals.others i (absent w waits).symm
    exact ⟨oven.trans oven', record.trans record'⟩

/-- Each entry dealt with shortens the queue. -/
theorem admissionPass_passed (law : CleaningLaw s) : s.Passed s.admissionPass := by
  generalize size : s.cleaning.queue.length = n
  induction n using Nat.strong_induction_on generalizing s with
  | h n ih =>
    rcases admissionPass_cases law with ⟨idle, pass⟩ | ⟨opened, full, pass⟩ |
      ⟨w, waits, t, deals, law', pass⟩
    · rw [pass]
      exact .of_hold (fun opened _ => idle.resolve_left (by simp [opened])) (fun held => nomatch held)
    · rw [pass]
      exact .of_hold (fun _ clear => nomatch clear) fun _ => ⟨opened, full⟩
    · rw [pass]
      have shorter : t.cleaning.queue.length < n := by
        rw [deals.queue, ← size]
        exact List.length_filter_lt_length_iff_exists.mpr ⟨w, waits, by simp⟩
      exact .of_deals deals waits (ih _ shorter law' rfl)

/-- Settles O38: the walk entry by entry, and what a whole pass leaves by induction on the queue. -/
theorem admissionPass : Obligations.AdmissionPass := by
  intro s law t unheld skipped
  have passed := admissionPass_passed law
  refine ⟨Bool.eq_iff_iff.mpr (slotOpen_iff.trans decide_eq_true_iff.symm), fun closed => ?_,
    fun all => ?_, ?_, passed.queue, passed.slots, passed.gone, passed.kept, passed.held, passed.others⟩
  · exact passWalk_closed (s := s.hold false) closed _
  · exact admissionPass_resumes (List.append_nil _).symm all
  intro before w after opened queue skips first e left minutes a b
  have dropped := fun x => dropWait_present x queue rfl (nodup_split law queue)
  refine ⟨fun locked => ?_, fun unlocked unable => ?_, fun unlocked able buffer => ?_,
    fun unlocked able full => ?_⟩
  · exact (admissionPass_locked law opened queue skips locked).trans (congrArg _ (dropped .locked))
  · exact (admissionPass_unable law opened queue skips unlocked unable).trans
      (congrArg _ (dropped .capability))
  · have admits := admissionPass_admits law opened queue skips unlocked able first (bufferFree_iff.mpr buffer)
    refine admits.trans (congrArg State.admissionPass (admitWaiting_offers.trans ?_))
    rw [admitting_eq, removeWait_present queue (nodup_split law queue), duration_eq]
    rfl
  · exact admissionPass_holds law opened queue skips unlocked able first
      (Bool.eq_false_iff.mpr fun buffer => Nat.not_lt.mpr full (bufferFree_iff.mp buffer))

end Sys2Proof.Machine
end

section
/-! PROOFS. The end of a cleaning, and the frames that bring one (R87 to R90, R144). -/

namespace Sys2Proof.Machine

variable {s : State} {i : OvenId} {r : CleanResult}

/-! ### The end of a cleaning (R87, R144) -/

/-- The oven is FREE, its overtime timer stopped, its REQUEST stale, its slot given back (R78, R87, R144). -/
def State.cleaningStopped (s : State) (i : OvenId) : State :=
  let z := (s.modOven i fun e => { e with occupancy := .free }).modCleanRecord i fun c =>
    { c with timer := .stopped }
  { z with
    down := { s.down with classes := s.down.classes.set 1 (s.down.classes[1].map (DownFrame.staleRequest i)) }
    cleaning := { z.cleaning with slotCount := s.cleaning.slotCount - 1 } }

theorem giveSlot_cleaning (cleans : (s.oven i).occupancy = .cleaning) :
    ((s.giveSlot i).staleRequests i).modCleanRecord i (fun c => { c with timer := .stopped }) =
      s.cleaningStopped i := by
  rw [State.giveSlot, if_pos cleans]
  rfl

/-- The end of a cleaning oven's cleaning, in the order of R87. -/
theorem endCleaning_cleaning (by' : EndedBy) (cleans : (s.oven i).occupancy = .cleaning) :
    s.endCleaning i r by' =
      let b := (s.cleaningStopped i).clearAtSource (some i) codeCleanOvertime
      let c := b.offerReport (reportCleanEnd i (b.cleanRecord i) r by' b.lineTime b.cleaning.slotCount)
      let d := if r = .fault then c.raise (some i) codeCleanFault .major .event else c
      (d.modCleanRecord i fun x => { x with isOpen := false }).admissionPass := by
  rw [State.endCleaning, giveSlot_cleaning cleans]

/-! ### CLEAN_DONE and CLEAN_PHASE (R87, R90) -/

theorem cleanResult_ofCode_none : {n : Nat} → n = 0 ∨ 3 < n → CleanResult.ofCode n = none
  | 0, _ => rfl
  | 1, h | 2, h | 3, h => by omega
  | _ + 4, _ => rfl

section
variable {f : UpFrame}

theorem doCleanDone_ends (h : Heard s 8 8 f i) (result : CleanResult.ofCode (byteAt f.payload 0) = some r)
    (cleans : ((s.noticed i 8 f).oven i).occupancy = .cleaning) :
    doCleanDone f s = (s.noticed i 8 f).endCleaning i r .oven := by
  refine (takeNotice_heard h).trans ?_
  simp only [result]
  exact if_pos cleans

/-- Without a result, or for an oven that is not cleaning, CLEAN_DONE is only dispatched. -/
theorem doCleanDone_dispatched (h : Heard s 8 8 f i)
    (nothing : CleanResult.ofCode (byteAt f.payload 0) = none ∨
      ((s.noticed i 8 f).oven i).occupancy ≠ .cleaning) : doCleanDone f s = s.noticed i 8 f := by
  refine (takeNotice_heard h).trans ?_
  cases result : CleanResult.ofCode (byteAt f.payload 0) with
  | none => rfl
  | some r => exact if_neg (nothing.resolve_left (by simp [result]))

theorem doCleanPhase_heard (h : Heard s 8 7 f i) : doCleanPhase f s =
    let t := s.noticed i 7 f
    if (t.oven i).occupancy = .cleaning ∧ 1 ≤ byteAt f.payload 0 ∧ byteAt f.payload 0 ≤ 6 then
      t.modCleanRecord i fun r => { r with phase := byteAt f.payload 0 }
    else t := takeNotice_heard h

end

/-! ### CLEAN_RELEASE (R89) -/

theorem releasable_iff {e : OvenEntry} : e.releasable = true ↔
    e.occupancy = .cleaning ∧ (e.presence = .silent ∨ e.presence = .commissioned) := by
  simp [OvenEntry.releasable]

section
variable {f : StoreFrame}

theorem doCleanRelease_badField (h : Requested s f 47 [1]) (none : NoOven f) :
    doCleanRelease f s = (s.fromGateway f).replies f { result := .badField } :=
  control_replies h (by decide) (fun saved => nomatch saved) rfl (forAddress_none none)

theorem doCleanRelease_ends (h : RequestedFor s f 47 [1] i) (may : (s.oven i).releasable = true) :
    doCleanRelease f s =
      ((s.fromGateway f).endCleaning i .aborted .release).replies f { result := .done } :=
  control_replies h.1 (by decide) (fun saved => nomatch saved) rfl ((forAddress_some h.2).trans (if_pos may))

theorem doCleanRelease_state (h : RequestedFor s f 47 [1] i) (may : ¬ (s.oven i).releasable = true) :
    doCleanRelease f s = (s.fromGateway f).replies f { result := .state } :=
  control_replies h.1 (by decide) (fun saved => nomatch saved) rfl ((forAddress_some h.2).trans (if_neg may))

end

/-- Settles O39. -/
theorem cleaningEnds : Obligations.CleaningEnds := by
  refine ⟨fun s f h none => congrArg Host.Outcome.next (doCleanRelease_badField h none),
    fun s i r by' cleans => endCleaning_cleaning by' cleans,
    fun s f i heard => ⟨fun r result cleans => ?_, fun nothing => ?_⟩,
    fun s f i heard => ?_, fun s f i asked => ⟨fun may => ?_, fun may => ?_⟩⟩
  · exact congrArg Host.Outcome.next (doCleanDone_ends heard result cleans)
  · refine congrArg Host.Outcome.next (doCleanDone_dispatched heard ?_)
    exact (or_assoc.mpr nothing).imp_left cleanResult_ofCode_none
  · have run := doCleanPhase_heard heard
    refine ⟨fun cleans least greatest =>
        congrArg Host.Outcome.next (run.trans (if_pos ⟨cleans, least, greatest⟩)),
      fun outside => congrArg Host.Outcome.next (run.trans (if_neg ?_))⟩
    rintro ⟨cleans, least, greatest⟩
    rcases outside with other | zero | beyond
    · exact other cleans
    · omega
    · omega
  · exact congrArg Host.Outcome.next (doCleanRelease_ends asked (releasable_iff.mpr may))
  · exact congrArg Host.Outcome.next (doCleanRelease_state asked (mt releasable_iff.mp may))

end Sys2Proof.Machine
end

section
/-! SUPPORT. What the laws of calls and locks speak of (R94, R97, R105), taken out of the state once: the desk. What
filing, resolving and creating a call do to a desk, and which of the laws each of them keeps. -/

namespace Sys2Proof.Machine

/-- The entries of the Call Table with their order and the next number, the overflow bits, and for each oven whether
it is locked and whether it cooks. -/
structure Desk where
  phase : Phase
  call : Fin 32 → Option Call
  order : List (Fin 32)
  next : Nat
  overflow : OvenId → Bool
  locked : OvenId → Bool
  busy : OvenId → Bool

/-- The desk of a state. -/
def State.desk (s : State) : Desk :=
  { phase := s.phase
    call := s.call
    order := s.calls.order
    next := s.calls.next
    overflow := fun i => s.calls.overflow[i]
    locked := fun i => (s.oven i).locked
    busy := fun i => (s.cook i).held.active }

/-- The call keeps what it is about and its number; a RESOLVED one stays RESOLVED. -/
structure Call.Renews (c b : Call) : Prop where
  oven : c.oven = b.oven
  code : c.code = b.code
  severity : c.severity = b.severity
  number : c.number = b.number
  counts : 1 ≤ b.occurrences ∧ b.occurrences ≤ 255 → 1 ≤ c.occurrences ∧ c.occurrences ≤ 255
  unresolved : c.state ≠ .resolved → b.state ≠ .resolved

namespace Desk

variable {d e x : Desk} {p : Fin 32} {c b : Call} {i : OvenId}

/-! ### The laws of a desk -/

/-- One unresolved call for an oven and a code, occurrences 1 to 255 (R97). -/
def Merging (d : Desk) : Prop :=
  (∀ p q c b, d.call p = some c → d.call q = some b → c.state ≠ .resolved → b.state ≠ .resolved →
      c.oven = b.oven → c.code = b.code → p = q) ∧
    ∀ p c, d.call p = some c → 1 ≤ c.occurrences ∧ c.occurrences ≤ 255

/-- Numbers from 1 to 65,535, none twice, and every entry in the creation order (R93, R94). -/
def Numbered (d : Desk) : Prop :=
  (1 ≤ d.next ∧ d.next ≤ 65535) ∧
    (∀ p c, d.call p = some c → 1 ≤ c.number ∧ c.number ≤ 65535) ∧
    (∀ p q c b, d.call p = some c → d.call q = some b → c.number = b.number → p = q) ∧
    ∀ p c, d.call p = some c → p ∈ d.order

/-- An unresolved LOCKOUT call of the oven, or its overflow bit (R105). -/
def Held (d : Desk) (i : OvenId) : Prop :=
  d.overflow i = true ∨
    ∃ p c, d.call p = some c ∧ c.state ≠ .resolved ∧ c.oven = some i ∧ c.severity = .lockout

/-- A lock is held exactly where an oven is locked, a locked oven cooks nothing, and during the restore no oven is
locked (R105). -/
def Locking (d : Desk) : Prop :=
  ∀ i, (d.locked i = true ↔ d.Held i) ∧ (d.locked i = true → d.busy i = false) ∧
    (d.phase = .restoring → d.locked i = false)

/-! ### What an event keeps -/

/-- The entries change with both laws of the Call Table kept; locks and cooks stay. -/
structure Files (d e : Desk) : Prop where
  merging : d.Merging → e.Merging
  numbered : d.Numbered → e.Numbered
  phase : e.phase = d.phase
  locked : e.locked = d.locked
  busy : e.busy = d.busy

/-- Besides, every oven's lock is held as before. -/
structure Steady (d e : Desk) : Prop extends Files d e where
  held : ∀ i, e.Held i ↔ d.Held i

/-- Every law is kept, the law of the lock oven by oven and in its two directions. -/
structure Keeps (d e : Desk) : Prop where
  merging : d.Merging → e.Merging
  numbered : d.Numbered → e.Numbered
  sound : ∀ i, (d.locked i = true → d.Held i) → e.locked i = true → e.Held i
  complete : ∀ i, (d.Held i → d.locked i = true) → e.Held i → e.locked i = true
  still : ∀ i, (d.locked i = true → d.busy i = false) → e.locked i = true → e.busy i = false
  phase : e.phase = d.phase
  quiet : d.phase = .restoring → ∀ i, d.locked i = false → e.locked i = false

protected theorem Files.refl : d.Files d := ⟨id, id, rfl, rfl, rfl⟩

protected theorem Files.trans (h : d.Files e) (h' : e.Files x) : d.Files x :=
  ⟨h'.merging ∘ h.merging, h'.numbered ∘ h.numbered, h'.phase.trans h.phase, h'.locked.trans h.locked,
    h'.busy.trans h.busy⟩

protected theorem Steady.refl : d.Steady d := ⟨.refl, fun _ => Iff.rfl⟩

protected theorem Steady.trans (h : d.Steady e) (h' : e.Steady x) : d.Steady x :=
  ⟨h.toFiles.trans h'.toFiles, fun i => (h'.held i).trans (h.held i)⟩

theorem Steady.keeps (h : d.Steady e) : d.Keeps e := by
  refine ⟨h.merging, h.numbered, fun i sound => ?_, fun i complete => ?_, fun i still => ?_, h.phase,
    fun _ i free => ?_⟩
  · rw [h.locked, h.held]; exact sound
  · rw [h.locked, h.held]; exact complete
  · rw [h.locked, h.busy]; exact still
  · rw [h.locked]; exact free

namespace Keeps

protected theorem refl : d.Keeps d := Steady.refl.keeps

theorem of_eq (h : e = d) : d.Keeps e := h ▸ .refl

protected theorem trans (h : d.Keeps e) (h' : e.Keeps x) : d.Keeps x :=
  ⟨h'.merging ∘ h.merging, h'.numbered ∘ h.numbered, fun i k => h'.sound i (h.sound i k),
    fun i k => h'.complete i (h.complete i k), fun i k => h'.still i (h.still i k), h'.phase.trans h.phase,
    fun r i k => h'.quiet (h.phase.trans r) i (h.quiet r i k)⟩

theorem locking (h : d.Keeps e) (law : d.Locking) : e.Locking := by
  intro i
  obtain ⟨held, still, quiet⟩ := law i
  exact ⟨⟨h.sound i held.mp, h.complete i held.mpr⟩, h.still i still,
    fun r => h.quiet (h.phase ▸ r) i (quiet (h.phase ▸ r))⟩

end Keeps

/-! ### A position is written -/

/-- A position takes an entry or is freed. -/
def put (d : Desk) (p : Fin 32) (c : Option Call) : Desk := { d with call := Function.update d.call p c }

theorem put_self (c : Option Call) : (d.put p c).call p = c := Function.update_self ..

theorem put_other {q : Fin 32} (h : q ≠ p) (c : Option Call) : (d.put p c).call q = d.call q :=
  Function.update_of_ne h ..

/-- An entry that is the only unresolved one of its oven and code. -/
theorem Merging.put (h : d.Merging) (counts : 1 ≤ c.occurrences ∧ c.occurrences ≤ 255)
    (only : ∀ q b, q ≠ p → d.call q = some b → b.state ≠ .resolved → c.state ≠ .resolved →
      b.oven = c.oven → b.code ≠ c.code) : (d.put p (some c)).Merging := by
  obtain ⟨single, occurrences⟩ := h
  refine ⟨fun q r a b ha hb openA openB oven code => ?_, fun q a ha => ?_⟩
  · by_cases hq : q = p
    · by_cases hr : r = p
      · exact hq.trans hr.symm
      · subst hq
        rw [put_self] at ha
        rw [put_other hr] at hb
        cases ha
        exact absurd code.symm (only r b hr hb openB openA oven.symm)
    · rw [put_other hq] at ha
      by_cases hr : r = p
      · subst hr
        rw [put_self] at hb
        cases hb
        exact absurd code (only q a hq ha openA openB oven)
      · rw [put_other hr] at hb
        exact single q r a b ha hb openA openB oven code
  · by_cases hq : q = p
    · subst hq
      rw [put_self] at ha
      cases ha
      exact counts
    · rw [put_other hq] at ha
      exact occurrences q a ha

/-- An entry that stands in the creation order with a number of its own. -/
theorem Numbered.put (h : d.Numbered) (range : 1 ≤ c.number ∧ c.number ≤ 65535) (stands : p ∈ d.order)
    (only : ∀ q b, q ≠ p → d.call q = some b → b.number ≠ c.number) : (d.put p (some c)).Numbered := by
  obtain ⟨next, numbers, single, ordered⟩ := h
  refine ⟨next, fun q a ha => ?_, fun q r a b ha hb same => ?_, fun q a ha => ?_⟩
  · by_cases hq : q = p
    · subst hq
      rw [put_self] at ha
      cases ha
      exact range
    · rw [put_other hq] at ha
      exact numbers q a ha
  · by_cases hq : q = p
    · by_cases hr : r = p
      · exact hq.trans hr.symm
      · subst hq
        rw [put_self] at ha
        rw [put_other hr] at hb
        cases ha
        exact absurd same.symm (only r b hr hb)
    · rw [put_other hq] at ha
      by_cases hr : r = p
      · subst hr
        rw [put_self] at hb
        cases hb
        exact absurd same (only q a hq ha)
      · rw [put_other hr] at hb
        exact single q r a b ha hb same
  · by_cases hq : q = p
    · exact hq ▸ stands
    · rw [put_other hq] at ha
      exact ordered q a ha

/-! ### An entry goes on (R97 to R104) -/

theorem put_files (held : d.call p = some b) (r : c.Renews b) : d.Files (d.put p (some c)) := by
  refine ⟨fun law => law.put (r.counts (law.2 p b held)) fun q a hq ha openA openC oven code => ?_,
    fun law => ?_, rfl, rfl, rfl⟩
  · exact hq (law.1 q p a b ha held openA (r.unresolved openC) (oven.trans r.oven) (code.trans r.code))
  · have ⟨_, numbers, single, ordered⟩ := law
    refine law.put (r.number ▸ numbers p b held) (ordered p b held) fun q a hq ha same => ?_
    exact hq (single q p a b ha held (same.trans r.number))

theorem put_falls (held : d.call p = some b) (r : c.Renews b) (h : (d.put p (some c)).Held i) : d.Held i := by
  obtain bit | ⟨q, a, ha, openA, oven, severity⟩ := h
  · exact .inl bit
  · by_cases hq : q = p
    · subst hq
      rw [put_self] at ha
      cases ha
      exact .inr ⟨q, b, held, r.unresolved openA, r.oven ▸ oven, r.severity ▸ severity⟩
    · rw [put_other hq] at ha
      exact .inr ⟨q, a, ha, openA, oven, severity⟩

/-- A lock stays held by the call that held it, unless that call has just become RESOLVED. -/
theorem put_holds (held : d.call p = some b) (r : c.Renews b)
    (stays : b.state ≠ .resolved → b.oven = some i → b.severity = .lockout → c.state ≠ .resolved)
    (h : d.Held i) : (d.put p (some c)).Held i := by
  obtain bit | ⟨q, a, ha, openA, oven, severity⟩ := h
  · exact .inl bit
  · by_cases hq : q = p
    · subst hq
      rw [held] at ha
      cases ha
      exact .inr ⟨q, c, put_self _, stays openA oven severity, r.oven.trans oven, r.severity.trans severity⟩
    · exact .inr ⟨q, a, (put_other hq _).trans ha, openA, oven, severity⟩

theorem put_steady (held : d.call p = some b) (r : c.Renews b)
    (stays : b.state ≠ .resolved → c.state ≠ .resolved) : d.Steady (d.put p (some c)) :=
  ⟨put_files held r, fun _ => ⟨put_falls held r, put_holds held r fun openB _ _ => stays openB⟩⟩

/-! ### A position is freed (R101, R104) -/

/-- The entry leaves the table and the creation order. -/
def free (d : Desk) (p : Fin 32) : Desk := { d.put p none with order := d.order.filter (· != p) }

theorem free_call {q : Fin 32} (h : (d.free p).call q = some c) : q ≠ p ∧ d.call q = some c := by
  by_cases hq : q = p
  · subst hq
    exact absurd ((put_self none).symm.trans h) (by simp)
  · exact ⟨hq, (put_other hq none).symm.trans h⟩

theorem free_files : d.Files (d.free p) := by
  refine ⟨fun ⟨single, occurrences⟩ => ⟨fun q r a b ha hb => ?_, fun q a ha => ?_⟩,
    fun ⟨next, numbers, single, ordered⟩ => ⟨next, fun q a ha => ?_, fun q r a b ha hb => ?_, fun q a ha => ?_⟩,
    rfl, rfl, rfl⟩
  · exact single q r a b (free_call ha).2 (free_call hb).2
  · exact occurrences q a (free_call ha).2
  · exact numbers q a (free_call ha).2
  · exact single q r a b (free_call ha).2 (free_call hb).2
  · obtain ⟨hq, was⟩ := free_call ha
    exact List.mem_filter.mpr ⟨ordered q a was, by simpa using hq⟩

/-- No lock is held by a RESOLVED call, or by one of another severity. -/
theorem free_steady (held : d.call p = some c) (lesser : c.state ≠ .resolved → c.severity ≠ .lockout) :
    d.Steady (d.free p) := by
  refine ⟨free_files, fun i => or_congr Iff.rfl ⟨?_, ?_⟩⟩
  · rintro ⟨q, a, ha, holds⟩
    exact ⟨q, a, (free_call ha).2, holds⟩
  · rintro ⟨q, a, ha, openA, oven, severity⟩
    have hq : q ≠ p := by
      rintro rfl
      rw [held] at ha
      cases ha
      exact lesser openA severity
    exact ⟨q, a, (put_other hq none).trans ha, openA, oven, severity⟩

/-! ### A call is created (R94, R97) -/

/-- A new entry stands last in the creation order, and the next number follows its own. -/
def enter (d : Desk) (p : Fin 32) (c : Call) : Desk :=
  { d.put p (some c) with order := d.order ++ [p], next := nextNumber c.number }

theorem nextNumber_range {n : Nat} (h : 1 ≤ n ∧ n ≤ 65535) : 1 ≤ nextNumber n ∧ nextNumber n ≤ 65535 := by
  unfold nextNumber
  split <;> omega

/-- A new call of an oven and code that have no unresolved one, with a number that no entry carries. -/
theorem enter_files (new : ∀ q b, d.call q = some b → b.oven = c.oven → b.code = c.code → b.state = .resolved)
    (counts : 1 ≤ c.occurrences ∧ c.occurrences ≤ 255)
    (number : d.Numbered → (1 ≤ c.number ∧ c.number ≤ 65535) ∧ ∀ q b, d.call q = some b → b.number ≠ c.number) :
    d.Files (d.enter p c) := by
  refine ⟨fun law => ?_, fun law => ?_, rfl, rfl, rfl⟩
  · exact law.put counts fun q b _ hb openB _ oven code => openB (new q b hb oven code)
  · obtain ⟨range, fresh⟩ := number law
    obtain ⟨-, numbers, single, ordered⟩ := law
    let later : Desk := { d with order := d.order ++ [p], next := nextNumber c.number }
    have law : later.Numbered := ⟨nextNumber_range range, numbers, single, fun q b hb =>
      List.mem_append_left _ (ordered q b hb)⟩
    exact law.put range (List.mem_append_right _ (List.mem_singleton.mpr rfl)) fun q b _ hb => fresh q b hb

/-- A new LOCKOUT call holds the lock of its oven. -/
theorem enter_held (free : d.call p = none) (opened : c.state ≠ .resolved) :
    (d.enter p c).Held i ↔ d.Held i ∨ (c.severity = .lockout ∧ c.oven = some i) := by
  have entries : (∃ q b, (d.enter p c).call q = some b ∧ b.state ≠ .resolved ∧ b.oven = some i ∧
        b.severity = .lockout) ↔
      (∃ q b, d.call q = some b ∧ b.state ≠ .resolved ∧ b.oven = some i ∧ b.severity = .lockout) ∨
        (c.severity = .lockout ∧ c.oven = some i) := by
    constructor
    · rintro ⟨q, b, hb, openB, oven, severity⟩
      by_cases hq : q = p
      · subst hq
        cases (put_self _).symm.trans hb
        exact .inr ⟨severity, oven⟩
      · exact .inl ⟨q, b, (put_other hq _).symm.trans hb, openB, oven, severity⟩
    · rintro (⟨q, b, hb, openB, oven, severity⟩ | ⟨severity, oven⟩)
      · have hq : q ≠ p := by
          rintro rfl
          rw [free] at hb
          cases hb
        exact ⟨q, b, (put_other hq _).trans hb, openB, oven, severity⟩
      · exact ⟨p, c, put_self _, opened, oven, severity⟩
  exact (or_congr Iff.rfl entries).trans or_assoc.symm

/-! ### Locks and overflow bits (R101, R105) -/

/-- An oven is locked or unlocked. -/
def setLocked (d : Desk) (i : OvenId) (b : Bool) : Desk := { d with locked := Function.update d.locked i b }

/-- An overflow bit is set or cleared. -/
def setOverflow (d : Desk) (i : OvenId) (b : Bool) : Desk :=
  { d with overflow := Function.update d.overflow i b }

/-- A cook context goes IDLE or leaves IDLE. -/
def setBusy (d : Desk) (i : OvenId) (b : Bool) : Desk := { d with busy := Function.update d.busy i b }

/-- Setting a bit holds one lock more. -/
theorem setOverflow_held {j : OvenId} : (d.setOverflow i true).Held j ↔ d.Held j ∨ i = j := by
  unfold Held setOverflow
  by_cases h : j = i
  · simp [h]
  · simp [Function.update_of_ne h, Ne.symm h]

/-- Clearing a bit takes away at most the lock of its oven. -/
theorem setOverflow_falls {j : OvenId} (h : (d.setOverflow i false).Held j) : d.Held j := by
  refine h.imp_left fun bit => ?_
  by_cases hj : j = i
  · subst hj; simp [setOverflow] at bit
  · simpa [setOverflow, Function.update_of_ne hj] using bit

theorem setOverflow_other {j : OvenId} {b : Bool} (hj : j ≠ i) (h : d.Held j) : (d.setOverflow i b).Held j :=
  h.imp_left fun bit => by simpa [setOverflow, Function.update_of_ne hj] using bit

/-- A context goes IDLE, or leaves IDLE where the oven is not locked. -/
theorem setBusy_keeps (b : Bool) (free : b = true → d.locked i = false) : d.Keeps (d.setBusy i b) := by
  refine ⟨id, id, fun _ => id, fun _ => id, fun j still locked => ?_, rfl, fun _ _ => id⟩
  by_cases hj : j = i
  · subst hj
    cases b with
    | false => exact Function.update_self ..
    | true => exact absurd (locked.symm.trans (free rfl)) (by simp)
  · exact (Function.update_of_ne hj ..).trans (still locked)

end Desk
end Sys2Proof.Machine
end

section
/-! SUPPORT. The desk of a state after each elementary update, and the operations that leave it as it is. -/

namespace Sys2Proof.Machine

namespace State

variable (s : State) (i : OvenId)

/-! ### What the elementary updates write on the desk -/

theorem setCall_eq_update (p : Fin 32) (c : Option Call) :
    (s.setCall p c).call = Function.update s.call p c := by
  funext q
  by_cases h : q = p
  · subst h; simp
  · rw [setCall_other s p q c (Ne.symm h), Function.update_of_ne h]

theorem setCall_desk (p : Fin 32) (c : Option Call) : (s.setCall p c).desk = s.desk.put p c := by
  simp only [desk, setCall_eq_update]
  rfl

theorem freeCall_desk (p : Fin 32) : (s.freeCall p).desk = s.desk.free p := by
  have call : (s.freeCall p).call = Function.update s.call p none := s.setCall_eq_update p none
  simp only [desk, call]
  rfl

theorem setOverflow_desk (b : Bool) : (s.setOverflow i b).desk = s.desk.setOverflow i b := by
  have bits : (fun j : OvenId => (s.setOverflow i b).calls.overflow[j]) =
      Function.update (fun j : OvenId => s.calls.overflow[j]) i b := by
    funext j
    by_cases h : j = i
    · subst h; simp [setOverflow]
    · have : i.val ≠ j.val := fun e => h (Fin.ext e.symm)
      rw [Function.update_of_ne h]
      simp [setOverflow, this]
  simp only [desk, bits]
  rfl

theorem modOven_desk (f : OvenEntry → OvenEntry) :
    (s.modOven i f).desk = s.desk.setLocked i (f (s.oven i)).locked := by
  simp only [desk, modOven_eq_update, field_update fun e : OvenEntry => e.locked]
  rfl

theorem modCook_desk (f : CookCtx → CookCtx) :
    (s.modCook i f).desk = s.desk.setBusy i (f (s.cook i)).held.active := by
  simp only [desk, modCook_eq_update, field_update fun c : CookCtx => c.held.active]
  rfl

/-- Of an oven's entry the desk holds the lock. -/
theorem modOven_desk_same (f : OvenEntry → OvenEntry) (h : (f (s.oven i)).locked = (s.oven i).locked) :
    (s.modOven i f).desk = s.desk := by
  rw [modOven_desk, h]; simp [desk, Desk.setLocked]

/-- Of a cook context the desk holds whether it is IDLE. -/
theorem modCook_desk_same (f : CookCtx → CookCtx)
    (h : (f (s.cook i)).held.active = (s.cook i).held.active) : (s.modCook i f).desk = s.desk := by
  rw [modCook_desk, h]; simp [desk, Desk.setBusy]

/-! ### Updates that leave the desk -/

@[simp] theorem setWatch_desk (w : Option Watch) : (s.setWatch i w).desk = s.desk := rfl
@[simp] theorem setSlot_desk (x : SlotState) : (s.setSlot i x).desk = s.desk := rfl
@[simp] theorem modCleanRecord_desk (f : CleanRecord → CleanRecord) : (s.modCleanRecord i f).desk = s.desk := rfl
@[simp] theorem modUpdate_desk (f : UpdateCtx → UpdateCtx) : (s.modUpdate i f).desk = s.desk := rfl
@[simp] theorem modRecipe_desk (r : Fin 512) (f : RecipeEntry → RecipeEntry) :
    (s.modRecipe r f).desk = s.desk := rfl
@[simp] theorem pushUp_desk (k : KFrame) : (s.pushUp k).desk = s.desk := rfl
@[simp] theorem modOvenCounters_desk (f : OvenCounters → OvenCounters) :
    (s.modOvenCounters i f).desk = s.desk := modOven_desk_same s i _ rfl
@[simp] theorem leaveReports_desk (p : Fin 32) : (s.leaveReports p).desk = s.desk := rfl
@[simp] theorem joinReports_desk (p : Fin 32) : (s.joinReports p).desk = s.desk := rfl
@[simp] theorem loseCall_desk : s.loseCall.desk = s.desk := rfl
@[simp] theorem ignoreFault_desk : s.ignoreFault.desk = s.desk := rfl
@[simp] theorem putStop_desk : (s.putStop i).desk = s.desk := rfl
@[simp] theorem putPending_desk (f : SlotFrame) : (s.putPending i f).desk = s.desk := rfl
@[simp] theorem staleRequests_desk : (s.staleRequests i).desk = s.desk := rfl
@[simp] theorem countStartUp_desk : s.countStartUp.desk = s.desk := rfl
@[simp] theorem countLineLength_desk : s.countLineLength.desk = s.desk := rfl
@[simp] theorem countLineSource_desk : s.countLineSource.desk = s.desk := rfl
@[simp] theorem countLineClass_desk : s.countLineClass.desk = s.desk := rfl
@[simp] theorem countUnknownSource_desk : s.countUnknownSource.desk = s.desk := rfl
@[simp] theorem countReceived_desk : (s.countReceived i).desk = s.desk := s.modOvenCounters_desk i _
@[simp] theorem countRefused_desk : (s.countRefused i).desk = s.desk := s.modOvenCounters_desk i _
@[simp] theorem countStaleAck_desk : (s.countStaleAck i).desk = s.desk := s.modOvenCounters_desk i _
@[simp] theorem forwardUpdate_desk (k : Fin 4) (tag : BitVec 16) (f : StoreFrame) :
    (s.forwardUpdate k tag i f).desk = s.desk := rfl
@[simp] theorem removeWait_desk : (s.removeWait i).desk = s.desk := rfl
@[simp] theorem setOccupancy_desk (o : Occupancy) : (s.setOccupancy i o).desk = s.desk :=
  modOven_desk_same s i _ rfl
@[simp] theorem takeSlot_desk : (s.takeSlot i).desk = s.desk := s.setOccupancy_desk i _

@[simp] theorem offerReply_desk (k : KFrame) : (s.offerReply k).desk = s.desk := by
  unfold offerReply; split <;> rfl
@[simp] theorem offerReport_desk (k : KFrame) : (s.offerReport k).desk = s.desk := by
  unfold offerReport; split <;> rfl
@[simp] theorem offerForward_desk (k : KFrame) : (s.offerForward i k).desk = s.desk := by
  unfold offerForward; split <;> simp
@[simp] theorem answer_desk (r : ReplyTo) (a : Reply) : (s.answer r a).desk = s.desk := s.offerReply_desk _

@[simp] theorem reloadWatch_desk : (s.reloadWatch i).desk = s.desk := by
  unfold reloadWatch; split <;> rfl
@[simp] theorem startWatch_desk : (s.startWatch i).desk = s.desk := by
  unfold startWatch; split <;> rfl
@[simp] theorem refreeze_desk : (s.refreeze i).desk = s.desk := by
  unfold refreeze; split <;> rfl
@[simp] theorem setPresence_desk (p : Presence) (c : PresenceCause) : (s.setPresence i p c).desk = s.desk := by
  rw [setPresence, offerReport_desk]
  exact modOven_desk_same s i _ rfl
@[simp] theorem releaseOccupancy_desk (job : Occupancy) : (s.releaseOccupancy i job).desk = s.desk := by
  unfold releaseOccupancy; split <;> simp
@[simp] theorem giveSlot_desk : (s.giveSlot i).desk = s.desk := by
  unfold giveSlot
  split
  · exact s.setOccupancy_desk i _
  · rfl

@[simp] theorem dropWait_desk (r : DropReason) : (s.dropWait i r).desk = s.desk := by
  unfold dropWait; split <;> simp

@[simp] theorem admitOven_desk (p : Programme) (seq : Byte) (taken : LineTime) (route : Route) :
    (s.admitOven i p seq taken route).desk = s.desk := by
  rw [admitOven, offerReport_desk]
  exact s.takeSlot_desk i

@[simp] theorem admissionPass_desk : s.admissionPass.desk = s.desk :=
  admissionPass_induct (fun t => t.desk = s.desk) (fun _ _ h => h) (fun _ _ _ h => by simp [h])
    (fun _ _ h _ _ _ _ _ _ _ => by simp [h]) rfl

@[simp] theorem bufferFreed_desk : s.bufferFreed.desk = s.desk := by
  unfold bufferFreed; split <;> simp

@[simp] theorem adopt_desk : (s.adopt i).desk = s.desk := by simp [adopt]

@[simp] theorem dropUser_desk (recipe version : Nat) : (s.dropUser recipe version).desk = s.desk := by
  unfold dropUser dropDraining
  repeat' split
  all_goals rfl

@[simp] theorem lockUpdate_desk : (s.lockUpdate i).desk = s.desk := by
  unfold lockUpdate; split <;> simp

@[simp] theorem forwardSample_desk (k : KFrame) : (s.forwardSample i k).desk = s.desk := by
  unfold forwardSample; dsimp only; split <;> simp

@[simp] theorem panelRefused_desk (recipe : Nat) (reason : Result) :
    (s.panelRefused i recipe reason).desk = s.desk := by
  unfold panelRefused; dsimp only; split <;> simp

@[simp] theorem frameLeft_desk (f : DownFrame) : (s.frameLeft f).desk = s.desk := by
  unfold frameLeft
  repeat' split
  all_goals rfl

@[simp] theorem leaveClass_desk (k : Fin 4) : (s.leaveClass k).desk = s.desk := by
  unfold leaveClass
  split
  · rfl
  · exact (bufferFreed_desk _).trans (frameLeft_desk _ _)

@[simp] theorem purge_desk : (s.purge i).desk = s.desk := by
  unfold purge
  dsimp only
  split
  · exact bufferFreed_desk _
  · rfl

@[simp] theorem retireUpdate_desk : (s.retireUpdate i).desk = s.desk := by
  unfold retireUpdate; split <;> simp

@[simp] theorem enterService_desk : (s.enterService i).desk = s.desk :=
  (refreeze_desk _ i).trans (modOven_desk_same s i _ rfl)

@[simp] theorem leaveService_desk : (s.leaveService i).desk = s.desk := by
  simp only [leaveService, admissionPass_desk, refreeze_desk, reloadWatch_desk]
  exact modOven_desk_same s i _ rfl

@[simp] theorem classify_desk (p : List Byte) : (s.classify p).desk = s.desk := by
  unfold classify
  repeat' split
  all_goals rfl

/-- A step that is completed leaves the cook going on (R53). -/
theorem advanceCook_desk (h : (s.cook i).state ≠ .idle) : (s.advanceCook i).desk = s.desk := by
  have active : ((s.cook i).state != .idle) = true := bne_iff_ne.mpr h
  unfold advanceCook
  dsimp only
  split
  all_goals
    rw [putPending_desk]
    exact modCook_desk_same s i _ active.symm

/-! ### Requests that leave the desk -/

theorem requestCleaning_desk (p : Programme) (seq : Byte) :
    (s.requestCleaning i p seq).after.desk = s.desk := by
  unfold requestCleaning
  repeat' split
  · rfl
  · exact s.admitOven_desk i p seq s.lineTime .direct
  · rfl
  · rfl

theorem cancelCleaning_desk (f : StoreFrame) : (s.cancelCleaning i f).after.desk = s.desk := by
  unfold cancelCleaning
  repeat' split
  all_goals rfl

theorem retireLive_desk (r : Fin 512) : (s.retireLive r).desk = s.desk := by
  unfold retireLive
  repeat' split
  all_goals rfl

theorem writeStep_desk (k : Nat) (fields : Option (StepParams × Bool)) :
    (s.writeStep k fields).after.desk = s.desk := by
  unfold writeStep
  repeat' split
  all_goals rfl

theorem readStep_desk (k : Nat) : (s.readStep k).after.desk = s.desk := by
  unfold readStep
  split <;> rfl

theorem takeChunk_desk (f : StoreFrame) (offset : Nat) (data : List Byte) :
    (s.takeChunk i f offset data).after.desk = s.desk := by
  unfold takeChunk
  dsimp only
  repeat' split
  all_goals rfl

theorem sealUpdate_desk (f : StoreFrame) : (s.sealUpdate i f).after.desk = s.desk := by
  unfold sealUpdate
  dsimp only
  repeat' split
  all_goals rfl

theorem abortUpdate_desk (f : StoreFrame) : (s.abortUpdate i f).after.desk = s.desk := by
  unfold abortUpdate
  repeat' split
  all_goals rfl

theorem beginApply_desk (f : StoreFrame) : (s.beginApply i f).desk = s.desk := by
  unfold beginApply
  rw [forwardUpdate_desk, refreeze_desk]
  exact s.setOccupancy_desk i _

theorem forwardDirect_desk (kind : Fin 64) (f : StoreFrame) :
    (s.forwardDirect i kind f).after.desk = s.desk := by
  unfold forwardDirect
  repeat' split
  all_goals rfl

end State

@[simp] theorem Answered.finish_desk (a : Answered) (r : ReplyTo) : (a.finish r).desk = a.after.desk := by
  unfold Answered.finish; split <;> simp

end Sys2Proof.Machine
end

section
/-! SUPPORT. The operations of the Call Table on the desk: SERVICE frames, calls that resolve, occurrences and the
locks they bring (R94 to R106). -/

namespace Sys2Proof.Machine

open Desk (Files Steady Keeps)

/-! ### The number of a new call (R94) -/

/-- The number `k` places after `n`. -/
theorem nextNumber_iterate {n : Nat} (h : 1 ≤ n ∧ n ≤ 65535) (k : Nat) :
    nextNumber^[k] n = (n - 1 + k) % 65535 + 1 := by
  induction k with
  | zero => simp only [Function.iterate_zero, id_eq]; omega
  | succ k ih =>
    rw [Function.iterate_succ_apply', ih]
    unfold nextNumber
    split <;> omega

theorem numberCarried_iff {s : State} {n : Nat} :
    s.numberCarried n = true ↔ ∃ p c, s.call p = some c ∧ c.number = n := by
  unfold State.numberCarried
  rw [List.any_eq_true]
  constructor
  · rintro ⟨p, -, carries⟩
    cases hc : s.call p with
    | none => simp [hc] at carries
    | some c => exact ⟨p, c, hc, by simpa [hc] using carries⟩
  · rintro ⟨p, c, hc, number⟩
    exact ⟨p, List.mem_finRange p, by simpa [hc] using number⟩

/-- The search ends at a number that is not carried, or it has found that many numbers carried. -/
theorem freeNumber_carried {s : State} (fuel : Nat) :
    ∀ n, s.numberCarried (s.freeNumber fuel n) = true → ∀ k ≤ fuel, s.numberCarried (nextNumber^[k] n) = true := by
  induction fuel with
  | zero =>
    intro n carried k hk
    rw [Nat.le_zero.mp hk]
    exact carried
  | succ fuel ih =>
    intro n carried k hk
    unfold State.freeNumber at carried
    split at carried
    · rename_i first
      cases k with
      | zero => exact first
      | succ k => exact ih _ carried k (Nat.le_of_succ_le_succ hk)
    · rename_i first
      exact absurd carried first

theorem freeNumber_range {s : State} (fuel : Nat) :
    ∀ n, 1 ≤ n ∧ n ≤ 65535 → 1 ≤ s.freeNumber fuel n ∧ s.freeNumber fuel n ≤ 65535 := by
  induction fuel with
  | zero => exact fun _ h => h
  | succ fuel ih =>
    intro n h
    unfold State.freeNumber
    split
    · exact ih _ (Desk.nextNumber_range h)
    · exact h

/-- Thirty-two entries cannot carry thirty-three numbers. -/
theorem freeNumber_fresh {s : State} {n : Nat} (h : 1 ≤ n ∧ n ≤ 65535) :
    s.numberCarried (s.freeNumber 32 n) = false := by
  by_contra carried
  have all := freeNumber_carried 32 n (by simpa using carried)
  have place : ∀ k : Fin 33, ∃ p c, s.call p = some c ∧ c.number = nextNumber^[k.val] n :=
    fun k => numberCarried_iff.mp (all k (by omega))
  choose position entry held number using place
  obtain ⟨j, k, apart, same⟩ := Fintype.exists_ne_map_eq_of_card_lt position (by simp)
  have entries : entry j = entry k := Option.some.inj ((held j).symm.trans (same ▸ held k))
  have numbers : nextNumber^[j.val] n = nextNumber^[k.val] n := (number j).symm.trans (entries ▸ number k)
  rw [nextNumber_iterate h, nextNumber_iterate h] at numbers
  exact apart (Fin.ext (by omega))

namespace State

variable {s : State} {i : OvenId} {p : Fin 32} {c b : Call}

/-! ### SERVICE frames (R102, R104) -/

theorem reportCall_steady (s : State) (p : Fin 32) : s.desk.Steady (s.reportCall p).desk := by
  unfold reportCall
  split
  · rename_i c held
    split
    · rename_i opened
      rw [pushUp_desk, leaveReports_desk, setCall_desk]
      exact Desk.put_steady held ⟨rfl, rfl, rfl, rfl, id, fun _ => by simp [opened]⟩ fun _ => by simp
    · rename_i resolved
      rw [pushUp_desk, freeCall_desk]
      exact Desk.free_steady held fun unresolved => absurd resolved unresolved
    · exact .refl
  · exact .refl

theorem buildService_steady (s : State) : s.desk.Steady s.buildService.desk :=
  buildService_induct (fun t => s.desk.Steady t.desk) (fun t p h _ _ => h.trans (t.reportCall_steady p)) .refl

/-! ### Locks derived anew (R105) -/

theorem lockDerived_iff : s.lockDerived i = true ↔ s.desk.Held i := by
  unfold lockDerived
  rw [Bool.or_eq_true, List.any_eq_true]
  refine or_congr Iff.rfl ⟨?_, ?_⟩
  · rintro ⟨p, -, holds⟩
    cases hc : s.call p with
    | none => simp [hc] at holds
    | some c =>
      simp only [hc, Call.unresolved, Bool.and_eq_true, bne_iff_ne, beq_iff_eq] at holds
      obtain ⟨⟨unresolved, oven⟩, severity⟩ := holds
      exact ⟨p, c, hc, unresolved, oven, severity⟩
  · rintro ⟨p, c, hc, unresolved, oven, severity⟩
    have hc : s.call p = some c := hc
    exact ⟨p, List.mem_finRange p, by simp [hc, Call.unresolved, unresolved, oven, severity]⟩

theorem relock_desk (s : State) (i : OvenId) : (s.relock i).desk =
    if s.lockDerived i = true then s.desk else s.desk.setLocked i false := by
  unfold relock
  cases derived : s.lockDerived i with
  | true => simp
  | false =>
    cases locked : (s.oven i).locked with
    | true => simp [modOven_desk]
    | false =>
      have same : s.desk.setLocked i false = s.desk := by
        rw [← locked]
        simp [desk, Desk.setLocked]
      simp [same]

/-- Locks can only have been taken away, and none but the oven's; it is then derived anew. -/
theorem relock_keeps {d : Desk} (files : d.Files s.desk) (falls : ∀ j, s.desk.Held j → d.Held j)
    (others : ∀ j, j ≠ i → d.Held j → s.desk.Held j) : d.Keeps (s.relock i).desk := by
  have held : ∀ j, (s.relock i).desk.Held j ↔ s.desk.Held j := fun j => by
    rw [relock_desk]; split <;> exact Iff.rfl
  have locked : ∀ j, (s.relock i).desk.locked j = true ↔
      d.locked j = true ∧ (j = i → s.desk.Held i) := by
    intro j
    rw [relock_desk, ← lockDerived_iff, ← files.locked]
    split
    · rename_i derived; simp [derived]
    · rename_i free
      by_cases hj : j = i
      · simp [hj, free, Desk.setLocked]
      · simp [hj, Desk.setLocked]
  have rest : (s.relock i).desk.busy = d.busy ∧ (s.relock i).desk.phase = d.phase := by
    rw [relock_desk, ← files.busy, ← files.phase]
    split <;> exact ⟨rfl, rfl⟩
  refine ⟨fun law => ?_, fun law => ?_, fun j sound => ?_, fun j complete => ?_, fun j still => ?_, rest.2,
    fun _ j free => ?_⟩
  · have law := files.merging law
    rw [relock_desk]; split <;> exact law
  · have law := files.numbered law
    rw [relock_desk]; split <;> exact law
  · rw [locked, held]
    rintro ⟨was, derived⟩
    by_cases hj : j = i
    · exact hj ▸ derived hj
    · exact others j hj (sound was)
  · rw [locked, held]
    exact fun holds => ⟨complete (falls j holds), fun hj => hj ▸ holds⟩
  · rw [locked, rest.1]
    exact fun ⟨was, _⟩ => still was
  · rw [← Bool.not_eq_true, locked]
    exact fun ⟨was, _⟩ => by simp [free] at was

/-! ### Calls that resolve (R99, R103, R104) -/

/-- The oven whose lock a call holds while it is unresolved. -/
theorem relockFor_eq (s : State) (c : Call) :
    (∃ i, c.severity = .lockout ∧ c.oven = some i ∧ s.relockFor c = s.relock i) ∨
      (¬ ∃ i, c.severity = .lockout ∧ c.oven = some i) ∧ s.relockFor c = s := by
  unfold relockFor
  split
  · rename_i i severity oven
    exact .inl ⟨i, severity, oven, rfl⟩
  · rename_i none
    exact .inr ⟨fun ⟨i, severity, oven⟩ => none i severity oven, rfl⟩

theorem resolveCall_keeps (held : s.call p = some c) : s.desk.Keeps (s.resolveCall p c).desk := by
  unfold resolveCall
  obtain ⟨u, hu⟩ : ∃ u, u = ((s.setCall p (some { c with cleared := true, state := .resolved })).joinReports
    p).buildService := ⟨_, rfl⟩
  rw [← hu]
  have renews : Call.Renews { c with cleared := true, state := .resolved } c :=
    ⟨rfl, rfl, rfl, rfl, id, fun h => absurd rfl h⟩
  have built : (s.desk.put p (some { c with cleared := true, state := .resolved })).Steady u.desk := by
    rw [hu, ← setCall_desk, ← joinReports_desk _ p]
    exact buildService_steady _
  have files : s.desk.Files u.desk := (Desk.put_files held renews).trans built.toFiles
  have falls : ∀ j, u.desk.Held j → s.desk.Held j := fun j h =>
    Desk.put_falls held renews ((built.held j).mp h)
  have stays : ∀ j, ¬ (c.severity = .lockout ∧ c.oven = some j) → s.desk.Held j → u.desk.Held j :=
    fun j other h => (built.held j).mpr
      (Desk.put_holds held renews (fun _ oven severity => absurd ⟨severity, oven⟩ other) h)
  obtain ⟨i, severity, oven, relocks⟩ | ⟨none, left⟩ := u.relockFor_eq c
  · rw [relocks]
    refine relock_keeps files falls fun j hj h => stays j (fun ⟨_, own⟩ => hj ?_) h
    exact Option.some.inj (own.symm.trans oven)
  · rw [left]
    exact Steady.keeps ⟨files, fun j => ⟨falls j, stays j fun h => none ⟨j, h⟩⟩⟩

theorem setCall_keeps (held : s.call p = some b) (r : c.Renews b)
    (stays : b.state ≠ .resolved → c.state ≠ .resolved) : s.desk.Keeps (s.setCall p (some c)).desk := by
  rw [setCall_desk]
  exact (Desk.put_steady held r stays).keeps

/-- The cleared flag is set. -/
theorem setCleared_keeps (held : s.call p = some c) :
    s.desk.Keeps (s.setCall p (some { c with cleared := true })).desk :=
  setCall_keeps held ⟨rfl, rfl, rfl, rfl, id, id⟩ id

theorem clearCall_keeps (s : State) (p : Fin 32) : s.desk.Keeps (s.clearCall p).desk := by
  unfold clearCall
  split
  · rename_i c held
    split
    · exact .refl
    split
    · exact resolveCall_keeps held
    · exact setCleared_keeps held
  · exact .refl

theorem clearAtSource_keeps (s : State) (sub : Option OvenId) (code : Nat) :
    s.desk.Keeps (s.clearAtSource sub code).desk := by
  unfold clearAtSource
  split
  · exact s.clearCall_keeps _
  · exact .refl

theorem clearOnMatch_keeps (s : State) (i : OvenId) : s.desk.Keeps (s.clearOnMatch i).desk :=
  (s.clearAtSource_keeps _ _).trans (clearAtSource_keeps _ _ _)

theorem acknowledge_keeps (held : s.call p = some c) (opened : c.state = .opened ∨ c.state = .reported) :
    s.desk.Keeps (s.acknowledge p c).after.desk := by
  unfold acknowledge
  dsimp only
  split
  · exact resolveCall_keeps (s := s.leaveReports p) held
  · refine setCall_keeps (s := s.leaveReports p) held ⟨rfl, rfl, rfl, rfl, id, fun _ => ?_⟩ fun _ => ?_
    · rcases opened with h | h <;> simp [h]
    · simp

/-! ### The end of a cook (R57) -/

theorem atEnd_active (c : CookCtx) : c.atEnd.held.active = c.held.active := congrArg CookRun.active (atEnd_held c)

/-- A cook goes IDLE and calls of its oven may resolve. -/
theorem cookGoIdle_keeps (s : State) (i : OvenId) (r : CookResult) : s.desk.Keeps (s.cookGoIdle i r).desk := by
  unfold cookGoIdle
  extract_lets old s1 s2 s3 s4 s5
  have first : s4.desk = s.desk := by
    have told : s2.desk = s1.desk := offerReport_desk _ _
    have ended : s1.desk = s.desk := modCook_desk_same _ i _ (atEnd_active _)
    exact ((releaseOccupancy_desk _ _ _).trans (dropUser_desk _ _ _)).trans (told.trans ended)
  have cleared : s4.desk.Keeps s5.desk :=
    ((clearAtSource_keeps _ _ _).trans (clearAtSource_keeps _ _ _)).trans (clearAtSource_keeps _ _ _)
  rw [modCook_desk]
  exact (Keeps.of_eq first).trans (cleared.trans (Desk.setBusy_keeps false fun h => nomatch h))

theorem cookGoIdle_busy (s : State) (i : OvenId) (r : CookResult) : (s.cookGoIdle i r).desk.busy i = false := by
  unfold cookGoIdle
  dsimp only
  rw [modCook_desk]
  exact Function.update_self ..

theorem stopCook_keeps (s : State) (i : OvenId) (r : CookResult) : s.desk.Keeps (s.stopCook i r).desk := by
  by_cases h : (s.cook i).state = .idle
  · rw [stopCook_idle r h]; exact .refl
  · rw [stopCook_running r h, putStop_desk]; exact s.cookGoIdle_keeps i r

theorem stopCook_busy (s : State) (i : OvenId) (r : CookResult) : (s.stopCook i r).desk.busy i = false := by
  by_cases h : (s.cook i).state = .idle
  · rw [stopCook_idle r h]; simp [desk, CookCtx.held, h]
  · rw [stopCook_running r h, putStop_desk]; exact s.cookGoIdle_busy i r

/-! ### An oven is locked (R105, R106) -/

/-- A LOCKOUT occurrence has come to hold the lock of its oven, and the oven is locked: its cook ends. -/
theorem lockOven_keeps {d : Desk} (ready : d.phase ≠ .restoring) (files : d.Files s.desk)
    (held : ∀ j, s.desk.Held j ↔ d.Held j ∨ i = j) : d.Keeps (s.lockOven i).desk := by
  by_cases locked : (s.oven i).locked = true
  · have was : d.locked i = true := files.locked ▸ locked
    rw [lockOven_locked locked]
    refine ⟨files.merging, files.numbered, fun j sound => ?_, fun j complete => ?_, fun j still => ?_,
      files.phase, fun restoring => absurd restoring ready⟩
    · rw [files.locked, held]; exact fun h => .inl (sound h)
    · rw [files.locked, held]; exact fun h => h.elim complete fun same => same ▸ was
    · rw [files.locked, files.busy]; exact still
  · obtain ⟨u, hu⟩ : ∃ u, u = s.modOven i fun e => { e with locked := true } := ⟨_, rfl⟩
    have ends : (s.lockOven i).desk = (u.stopCook i .abortedLockout).desk := by
      rw [lockOven, if_neg locked, lockUpdate_desk, dropWait_desk, hu]
    have set : u.desk = s.desk.setLocked i true := hu ▸ s.modOven_desk i _
    have heldU : ∀ j, u.desk.Held j ↔ d.Held j ∨ i = j := fun j => by rw [set]; exact held j
    have lockedU : ∀ j, u.desk.locked j = true ↔ d.locked j = true ∨ i = j := by
      intro j
      rw [set, ← files.locked]
      by_cases hj : j = i
      · simp [hj, Desk.setLocked]
      · simp [Desk.setLocked, hj, Ne.symm hj]
    have busyU : u.desk.busy = d.busy := set ▸ files.busy
    have stops := u.stopCook_keeps i .abortedLockout
    rw [ends]
    refine ⟨fun law => stops.merging (set ▸ files.merging law), fun law => stops.numbered (set ▸ files.numbered law),
      fun j sound => stops.sound j fun h => ?_, fun j complete => stops.complete j fun h => ?_,
      fun j still h => ?_, stops.phase.trans (set ▸ files.phase), fun restoring => absurd restoring ready⟩
    · exact (heldU j).mpr (((lockedU j).mp h).imp_left sound)
    · exact (lockedU j).mpr (((heldU j).mp h).imp_left complete)
    · by_cases hj : j = i
      · rw [hj]
        exact u.stopCook_busy i _
      · refine stops.still j (fun was => ?_) h
        rw [busyU]
        exact still (((lockedU j).mp was).resolve_right (Ne.symm hj))

theorem lockSubject_keeps {d : Desk} {sub : Option OvenId} (ready : d.phase ≠ .restoring)
    (files : d.Files s.desk) (held : ∀ j, s.desk.Held j ↔ d.Held j ∨ sub = some j) :
    d.Keeps (s.lockSubject sub).desk := by
  cases sub with
  | none => exact Steady.keeps ⟨files, fun j => (held j).trans (by simp)⟩
  | some i => exact lockOven_keeps ready files fun j => (held j).trans (by simp)

/-! ### Occurrences (R97, R100, R101) -/

theorem mergeCall_keeps (s : State) (p : Fin 32) : s.desk.Keeps (s.mergeCall p).desk := by
  unfold mergeCall
  split
  · rename_i c held
    refine setCall_keeps held ⟨rfl, rfl, rfl, rfl, fun ⟨least, greatest⟩ => ?_, id⟩ id
    simp only [satAdd]
    omega
  · exact .refl

/-- A new entry in its position, in the creation order and on the report list. -/
def filed (s : State) (p : Fin 32) (c : Call) : State :=
  { s with calls :=
      { s.calls with
        slots := s.calls.slots.set p (some c), order := s.calls.order ++ [p],
        reports := s.calls.reports ++ [p], next := nextNumber c.number } }

theorem filed_desk (s : State) (p : Fin 32) (c : Call) : (s.filed p c).desk = s.desk.enter p c := by
  have call : (s.filed p c).call = Function.update s.call p (some c) := s.setCall_eq_update p (some c)
  simp only [desk, call]
  rfl

section
variable {sub : Option OvenId} {code : Nat} {sev : Severity} {kind : CallKind}

theorem createCall_eq : s.createCall p sub code sev kind =
    (s.filed p (newCall s sub code sev kind)).buildService := rfl

/-- A new call is filed with a number of its own; a LOCKOUT one holds the lock of its oven. -/
theorem createCall_files (free : s.call p = none)
    (new : ∀ q b, s.call q = some b → b.oven = sub → b.code = code → b.state = .resolved) :
    s.desk.Files (s.createCall p sub code sev kind).desk ∧
      ∀ j, (s.createCall p sub code sev kind).desk.Held j ↔ s.desk.Held j ∨ (sev = .lockout ∧ sub = some j) := by
  have entered : (s.desk.enter p (newCall s sub code sev kind)).Steady (s.createCall p sub code sev kind).desk := by
    rw [createCall_eq, ← filed_desk]
    exact buildService_steady _
  have files : s.desk.Files (s.desk.enter p (newCall s sub code sev kind)) := by
    refine Desk.enter_files new (by simp [newCall]) fun law => ?_
    obtain ⟨next, -⟩ := law
    have fresh := freeNumber_fresh (s := s) next
    refine ⟨freeNumber_range 32 _ next, fun q b hb same => ?_⟩
    have carried : s.numberCarried (s.freeNumber 32 s.calls.next) = true := numberCarried_iff.mpr ⟨q, b, hb, same⟩
    exact absurd (carried.symm.trans fresh) (by simp)
  have held : ∀ j, (s.desk.enter p (newCall s sub code sev kind)).Held j ↔
      s.desk.Held j ∨ (sev = .lockout ∧ sub = some j) := fun j =>
    Desk.enter_held free (by simp [newCall])
  exact ⟨files.trans entered.toFiles, fun j => (entered.held j).trans (held j)⟩

/-- The newest lesser call stands in the table and is not LOCKOUT (R101). -/
theorem newestLesser_some (h : s.newestLesser = some p) : ∃ c, s.call p = some c ∧ c.severity ≠ .lockout := by
  have lesser := List.find?_some h
  cases hc : s.call p with
  | none => simp [hc] at lesser
  | some c => exact ⟨c, rfl, by simpa [hc] using lesser⟩

theorem freeCall_call (s : State) (p : Fin 32) : (s.freeCall p).call p = none := by
  have := congrArg (fun d => d.call p) (s.freeCall_desk p)
  exact this.trans (Desk.put_self none)

/-- An occurrence keeps every law; only after the restore is one a LOCKOUT. -/
theorem raise_keeps (s : State) (sub : Option OvenId) (code : Nat) (sev : Severity) (kind : CallKind)
    (ready : sev = .lockout → s.phase ≠ .restoring) : s.desk.Keeps (s.raise sub code sev kind).desk := by
  obtain ⟨p, c, -, -, merged⟩ | ⟨none, ⟨-, lost⟩ | ⟨p, minor, -, free, created⟩ | ⟨p, lockout, free, locking⟩ |
    ⟨p, lockout, -, lesser, displacing⟩ | ⟨lockout, -, -, overflowing⟩⟩ := raise_cases (s := s) sub code sev kind
  · rw [merged]; exact s.mergeCall_keeps p
  · rw [lost]; exact .refl
  · rw [created]
    obtain ⟨files, held⟩ := createCall_files (sev := sev) (kind := kind) (lowestFree_some free) (findCall_none.mp none)
    exact Steady.keeps ⟨files, fun j => (held j).trans (by simp [minor])⟩
  · rw [locking]
    obtain ⟨files, held⟩ := createCall_files (sev := sev) (kind := kind) (lowestFree_some free) (findCall_none.mp none)
    exact lockSubject_keeps (ready lockout) files fun j => (held j).trans (by simp [lockout])
  · rw [displacing]
    obtain ⟨c, here, severity⟩ := newestLesser_some lesser
    have freed : s.desk.Steady (s.freeCall p).loseCall.desk := by
      rw [loseCall_desk, freeCall_desk]
      exact Desk.free_steady here fun _ => severity
    have new : ∀ q b, (s.freeCall p).loseCall.call q = some b → b.oven = sub → b.code = code →
        b.state = .resolved := by
      intro q b hb
      have hb : (s.desk.free p).call q = some b := by rw [← freeCall_desk]; exact hb
      exact findCall_none.mp none q b (Desk.free_call hb).2
    obtain ⟨files, held⟩ := createCall_files (s := (s.freeCall p).loseCall) (sev := sev) (kind := kind)
      (s.freeCall_call p) new
    exact lockSubject_keeps (ready lockout) (freed.toFiles.trans files) fun j =>
      (held j).trans (or_congr (freed.held j) (by simp [lockout]))
  · rw [overflowing]
    cases sub with
    | none => exact .refl
    | some i =>
      have set : ((s.overflowSubject (some i)).loseCall).desk = s.desk.setOverflow i true :=
        s.setOverflow_desk i true
      refine lockSubject_keeps (ready lockout) ?_ fun j => ?_
      · rw [set]; exact ⟨id, id, rfl, rfl, rfl⟩
      · rw [set, Desk.setOverflow_held]; simp

theorem raiseIf_keeps (s : State) (i : OvenId) (code : Nat) (sev : Option Severity) (h : sev ≠ some .lockout) :
    s.desk.Keeps (s.raiseIf i code sev).desk := by
  cases sev with
  | none => exact .refl
  | some x => exact s.raise_keeps _ _ _ _ fun e => absurd (congrArg some e) h

end

end State
end Sys2Proof.Machine
end

section
/-! SUPPORT. What the owners of frames and timers do to the desk: jobs that end, samples, acknowledgements, the
HELLO, retirement, the receiver. -/

namespace Sys2Proof.Machine

open Desk (Files Steady Keeps)

namespace State

variable {s : State} {i : OvenId}

/-! ### Jobs that end (R87, R119) -/

theorem endCleaning_keeps (s : State) (i : OvenId) (r : CleanResult) (by' : EndedBy) :
    s.desk.Keeps (s.endCleaning i r by').desk := by
  unfold endCleaning
  extract_lets s1 s2 s3 s4
  have cleared : s.desk.Keeps s2.desk := by
    have given : (s1.modCleanRecord i fun c => { c with timer := .stopped }).desk = s.desk :=
      (modCleanRecord_desk s1 i _).trans ((staleRequests_desk _ i).trans (s.giveSlot_desk i))
    exact (Keeps.of_eq given).trans (clearAtSource_keeps _ _ _)
  have faulted : s2.desk.Keeps s4.desk := by
    have told : s3.desk = s2.desk := offerReport_desk _ _
    unfold s4
    split
    · exact (Keeps.of_eq told).trans (raise_keeps _ _ _ _ _ (by simp))
    · exact .of_eq told
  rw [admissionPass_desk, modCleanRecord_desk]
  exact cleared.trans faulted

theorem endApply_keeps (s : State) (i : OvenId) (cause : FailCause) (announced : Version) :
    s.desk.Keeps (s.endApply i cause announced).desk := by
  unfold endApply
  extract_lets failed s1 s2 s3 s4
  have released : s2.desk = s.desk := releaseOccupancy_desk _ _ _
  have raised : s2.desk.Keeps s3.desk := by
    unfold s3
    split
    · exact raise_keeps _ _ _ _ _ (by simp)
    · exact .refl
  rw [admissionPass_desk, reloadWatch_desk, refreeze_desk, offerReport_desk]
  exact (Keeps.of_eq released).trans raised

/-! ### The cook watch, acknowledgements and expiries (R50 to R53, R60 to R75, R128) -/

theorem applyVerdict_keeps (s : State) (i : OvenId) (v : Verdict) (h : v ≠ .goOn → (s.cook i).state ≠ .idle) :
    s.desk.Keeps (s.applyVerdict i v).desk := by
  cases v with
  | goOn => exact .refl
  | complete => exact .of_eq (s.advanceCook_desk i (h (by simp)))
  | abort r => exact s.stopCook_keeps i r

theorem watchSample_keeps (s : State) (i : OvenId) (x : Sample) : s.desk.Keeps (s.watchSample i x).desk := by
  unfold watchSample
  extract_lets c p o clamped s1 s2 s3 s4
  have mild : o.Mild c := c.takeSample_mild p _ x
  have desk1 : s1.desk = s.desk :=
    (modCook_desk_same _ i _ (congrArg CookRun.active mild.held)).trans (modOvenCounters_desk s i _)
  have cook1 : (s1.cook i).held = (s.cook i).held :=
    (congrArg CookCtx.held (modCook_self _ i _)).trans mild.held
  have cleared : s1.book.Passes s2.book ∧ s1.desk.Keeps s2.desk := by
    unfold s2
    split
    · exact ⟨clearAtSource_passes _ _ _, clearAtSource_keeps _ _ _⟩
    · exact ⟨.refl, .refl⟩
  have raised : s2.Tells s4 ∧ s2.desk.Keeps s4.desk := by
    have missing : s2.Tells s3 ∧ s2.desk.Keeps s3.desk := by
      unfold s3
      split
      · exact ⟨raise_tells _ _ _ _ (by decide), raise_keeps _ _ _ _ _ (by simp)⟩
      · exact ⟨.refl, .refl⟩
    have told : ∀ (t : State) (k : Nat) (sev : Option Severity), sev ≠ some .lockout →
        t.Tells (t.raiseIf i k sev) := by
      intro t k sev h
      cases sev with
      | none => exact .refl
      | some x => exact raise_tells _ _ _ _ fun e => h (congrArg some e)
    exact ⟨(missing.1.trans (told _ _ _ mild.deviation)).trans (told _ _ _ mild.coreTimeout),
      (missing.2.trans (raiseIf_keeps _ i _ _ mild.deviation)).trans (raiseIf_keeps _ i _ _ mild.coreTimeout)⟩
  refine (Keeps.of_eq desk1).trans ((cleared.2.trans raised.2).trans (s4.applyVerdict_keeps i o.verdict fun hv => ?_))
  have running : c.state = .running := c.takeSample_verdict p _ x hv
  have active : (s1.book.ledger.cook i).active = true := by
    have : (s1.cook i).held.active = true := by
      rw [cook1]; simp [CookCtx.held, show (s.cook i).state = .running from running]
    exact this
  rw [← cleared.1.ledger] at active
  rw [raised.1.cook i]
  exact (s2.active_iff i).mp active

theorem stepAck_keeps (s : State) (i : OvenId) (index : Nat) : s.desk.Keeps (s.stepAck i index).desk := by
  have moves (h : (s.cook i).state ≠ .idle) : s.desk.Keeps
      (((s.setSlot i SlotState.reset).modCook i CookCtx.acknowledged).clearAtSource (some i) codeStepNoAck).desk := by
    have active : ((s.cook i).state != .idle) = true := bne_iff_ne.mpr h
    have same : ((s.setSlot i SlotState.reset).modCook i CookCtx.acknowledged).desk = s.desk :=
      modCook_desk_same (s.setSlot i SlotState.reset) i CookCtx.acknowledged active.symm
    exact (Keeps.of_eq same).trans (clearAtSource_keeps _ _ _)
  have ends : s.desk.Keeps
      (((s.setSlot i SlotState.reset).cookGoIdle i .completed).clearAtSource (some i) codeStepNoAck).desk :=
    (cookGoIdle_keeps (s.setSlot i SlotState.reset) i _).trans (clearAtSource_keeps _ _ _)
  unfold stepAck
  split
  · split
    · rename_i state; exact moves (by simp [state])
    · rename_i state; exact moves (by simp [state])
    · exact ends
    · exact .of_eq (s.countStaleAck_desk i)
    · exact .of_eq (s.countStaleAck_desk i)
  · exact .of_eq (s.countStaleAck_desk i)

theorem ackLost_keeps (s : State) (i : OvenId) : s.desk.Keeps (s.ackLost i).desk := by
  unfold ackLost
  split
  · exact s.stopCook_keeps i _
  · exact s.stopCook_keeps i _
  · exact s.cookGoIdle_keeps i _
  · exact .refl
  · exact .refl

theorem watchExpires_keeps (s : State) (i : OvenId) : s.desk.Keeps (s.watchExpires i).desk := by
  unfold watchExpires
  extract_lets s1 s2
  have silenced : s2.desk = s.desk := by
    refine .trans ?_ (s.reloadWatch_desk i)
    unfold s2
    split
    · exact s1.setPresence_desk i _ _
    · rfl
  exact (Keeps.of_eq silenced).trans ((raise_keeps _ _ _ _ _ (by simp)).trans (stopCook_keeps _ _ _))

/-! ### A start finds its oven unlocked (R45, R47) -/

theorem startRefusal_unlocked {r : Fin 512} (h : s.startRefusal i r = none) : (s.oven i).locked = false := by
  rw [startRefusal, refusal_none_iff, refusal_none_iff, refusal_none_iff] at h
  obtain ⟨-, -, unlocked, -⟩ := h
  simpa using unlocked

theorem acceptCook_keeps (r : Fin 512) (v : LiveVersion) (origin : Origin) (batch : BitVec 16)
    (unlocked : (s.oven i).locked = false) : s.desk.Keeps (s.acceptCook i r v origin batch).desk := by
  unfold acceptCook
  extract_lets s1 s2 s3
  have before : s2.desk = s.desk := (setOccupancy_desk _ i _).trans (s.dropWait_desk i _)
  rw [putPending_desk, modCook_desk, before]
  exact Desk.setBusy_keeps _ fun _ => unlocked

theorem startCook_keeps (s : State) (i : OvenId) (r : Fin 512) (origin : Origin) (batch : BitVec 16) :
    s.desk.Keeps (s.startCook i r origin batch).after.desk := by
  unfold startCook
  split
  · exact .refl
  · rename_i allowed
    split
    · exact acceptCook_keeps _ _ _ _ (startRefusal_unlocked allowed)
    · exact .refl

theorem panelStart_keeps (s : State) (i : OvenId) (recipe : Nat) : s.desk.Keeps (s.panelStart i recipe).desk := by
  unfold panelStart
  split
  · exact .of_eq (s.panelRefused_desk i _ _)
  · split
    · exact .of_eq (s.panelRefused_desk i _ _)
    · rename_i allowed _
      rw [offerReport_desk]
      exact acceptCook_keeps _ _ _ _ (startRefusal_unlocked allowed)
    · exact .of_eq (s.panelRefused_desk i _ _)

/-! ### Presence, reconciliation and the HELLO (R4 to R10) -/

theorem returnFromSilent_keeps (s : State) (i : OvenId) (c : PresenceCause) :
    s.desk.Keeps (s.returnFromSilent i c).desk := by
  rw [returnFromSilent, admissionPass_desk, reloadWatch_desk]
  exact (Keeps.of_eq (s.setPresence_desk i _ _)).trans (clearAtSource_keeps _ _ _)

theorem reconcile_keeps (s : State) (i : OvenId) (a : Announced) : s.desk.Keeps (s.reconcile i a).desk := by
  have applies : s.desk.Keeps (s.reconcileApply i a).desk := by
    unfold reconcileApply
    split
    · exact s.endApply_keeps i _ _
    · exact .refl
  have cooks : ∀ t : State, t.desk.Keeps (t.reconcileCook i a).desk := by
    intro t
    unfold reconcileCook
    split
    · exact (t.stopCook_keeps i _).trans (raise_keeps _ _ _ _ _ (by simp))
    split
    · exact raise_keeps (t.putStop i) _ _ _ _ (by simp)
    · exact .refl
  have cleans : ∀ t : State, t.desk.Keeps (t.reconcileClean i a).desk := by
    intro t
    unfold reconcileClean
    split
    · exact .of_eq (t.adopt_desk i)
    · exact .refl
    · exact t.endCleaning_keeps i _ _
    · exact .refl
  exact (applies.trans (cooks _)).trans (cleans _)

theorem helloMismatch_keeps (s : State) (i : OvenId) (a : Announced) (ready : s.phase ≠ .restoring) :
    s.desk.Keeps (s.helloMismatch i a).desk := by
  unfold helloMismatch
  extract_lets wasSilent s1 s2 s3
  have first : s1.desk = s.desk := s.setPresence_desk i _ _
  have second : s1.desk.Keeps s2.desk := by
    unfold s2
    split
    · exact clearAtSource_keeps _ _ _
    · exact .refl
  have third : s2.desk.Keeps s3.desk := by
    unfold s3
    split
    · exact endApply_keeps _ i _ _
    · exact .refl
  have before : s.desk.Keeps s3.desk := (Keeps.of_eq first).trans (second.trans third)
  refine before.trans (raise_keeps _ _ _ _ _ fun _ => ?_)
  rw [show s3.phase = s.phase from before.phase]
  exact ready

theorem helloOwner_keeps (s : State) (i : OvenId) (a : Announced) (ready : s.phase ≠ .restoring) :
    s.desk.Keeps (s.helloOwner i a).desk := by
  unfold helloOwner
  split
  · exact .of_eq (s.setPresence_desk i _ _)
  · exact .refl
  · split
    · have active : ((s.setPresence i .active .hello).startWatch i).desk = s.desk := by simp
      exact (Keeps.of_eq active).trans ((clearOnMatch_keeps _ i).trans (reconcile_keeps _ i a))
    · exact s.raise_keeps _ _ _ _ fun _ => ready
  · split
    · exact (Keeps.of_eq (s.reloadWatch_desk i)).trans ((clearOnMatch_keeps _ i).trans (reconcile_keeps _ i a))
    · exact s.helloMismatch_keeps i a ready
  · exact s.helloMismatch_keeps i a ready

theorem helloArrives_keeps (s : State) (i : OvenId) (f : UpFrame) (ready : s.phase ≠ .restoring) :
    s.desk.Keeps (s.helloArrives i f).desk := by
  unfold helloArrives
  split
  · rename_i a _
    unfold takeHello
    extract_lets s1 s2
    have announced : s1.desk = s.desk := modOven_desk_same s i _ rfl
    have returned : s1.desk.Keeps s2.desk := by
      unfold s2
      split
      · exact returnFromSilent_keeps _ i _
      · exact .refl
    have copied : s.desk.Keeps (s2.offerForward i (upCopy f clsNotice tagHello)).desk := by
      rw [offerForward_desk, ← announced]; exact returned
    rw [countReceived_desk]
    refine copied.trans (helloOwner_keeps _ i a ?_)
    rw [show (s2.offerForward i (upCopy f clsNotice tagHello)).phase = s.phase from copied.phase]
    exact ready
  · split
    · exact .refl
    · exact .of_eq (s.countRefused_desk i)

/-! ### Commissioning and retirement (R15, R17) -/

theorem commission_keeps (s : State) (i : OvenId) (r : CommRecord) :
    s.desk.Keeps (s.commission i r).desk := by
  have written : (s.modOven i fun e => { e with record := some r }).desk = s.desk := modOven_desk_same s i _ rfl
  unfold commission
  dsimp only
  split
  · split
    · exact (Keeps.of_eq (by simp [written])).trans (reconcile_keeps _ i _)
    · exact .of_eq (by simp [written])
  · exact .of_eq (by simp [written])

/-- The calls of a retired oven resolve, and of the locks none but its own is let go. -/
theorem retireCall_files (s : State) (i : OvenId) (p : Fin 32) :
    s.desk.Files (s.retireCall i p).desk ∧ (∀ j, (s.retireCall i p).desk.Held j → s.desk.Held j) ∧
      ∀ j, j ≠ i → s.desk.Held j → (s.retireCall i p).desk.Held j := by
  unfold retireCall
  split
  · rename_i c held
    split
    · rename_i own
      have renews : Call.Renews { c with cleared := true, state := .resolved } c :=
        ⟨rfl, rfl, rfl, rfl, id, fun h => absurd rfl h⟩
      rw [joinReports_desk, leaveReports_desk, setCall_desk]
      refine ⟨Desk.put_files held renews, fun _ => Desk.put_falls held renews, fun j hj => ?_⟩
      refine Desk.put_holds held renews fun _ oven _ => absurd ?_ hj
      exact Option.some.inj (oven.symm.trans own.1)
    · exact ⟨.refl, fun _ => id, fun _ _ => id⟩
  · exact ⟨.refl, fun _ => id, fun _ _ => id⟩

theorem retireCalls_files (s : State) (i : OvenId) :
    s.desk.Files (s.retireCalls i).desk ∧ (∀ j, (s.retireCalls i).desk.Held j → s.desk.Held j) ∧
      ∀ j, j ≠ i → s.desk.Held j → (s.retireCalls i).desk.Held j := by
  have walk : ∀ (l : List (Fin 32)) (t : State), let u := l.foldl (fun t p => t.retireCall i p) t
      t.desk.Files u.desk ∧ (∀ j, u.desk.Held j → t.desk.Held j) ∧
        ∀ j, j ≠ i → t.desk.Held j → u.desk.Held j := by
    intro l
    induction l with
    | nil => exact fun _ => ⟨.refl, fun _ => id, fun _ _ => id⟩
    | cons p rest ih =>
      intro t
      obtain ⟨files, falls, others⟩ := t.retireCall_files i p
      obtain ⟨files', falls', others'⟩ := ih (t.retireCall i p)
      exact ⟨files.trans files', fun j => falls j ∘ falls' j, fun j hj => others' j hj ∘ others j hj⟩
  obtain ⟨files, falls, others⟩ := walk s.calls.order s
  have built := buildService_steady (s.calls.order.foldl (fun t p => t.retireCall i p) s)
  exact ⟨files.trans built.toFiles, fun j h => falls j ((built.held j).mp h),
    fun j hj h => (built.held j).mpr (others j hj h)⟩

/-- The calls of a retired oven resolve, its overflow bit is cleared, and its lock is derived anew. -/
theorem retireLock_keeps (s : State) (i : OvenId) :
    s.desk.Keeps (((s.retireCalls i).setOverflow i false).relock i).desk := by
  obtain ⟨files, falls, others⟩ := s.retireCalls_files i
  refine relock_keeps (s := (s.retireCalls i).setOverflow i false) ?_ (fun j => ?_) fun j hj => ?_
  · rw [setOverflow_desk]
    exact files.trans ⟨id, id, rfl, rfl, rfl⟩
  · rw [setOverflow_desk]
    exact falls j ∘ Desk.setOverflow_falls
  · rw [setOverflow_desk]
    exact Desk.setOverflow_other hj ∘ others j hj

theorem retire_keeps (s : State) (i : OvenId) : s.desk.Keeps (s.retire i).desk := by
  unfold retire
  extract_lets s1 s2 s3 s4 s5 s6
  have before : s3.desk = s.desk := by
    have dropped : s2.desk = s.desk := (retireUpdate_desk s1 i).trans (s.dropWait_desk i _)
    exact (purge_desk _ i).trans ((setSlot_desk _ i _).trans ((modUpdate_desk s2 i _).trans dropped))
  have unlocked : s3.desk.Keeps s5.desk := s3.retireLock_keeps i
  have after : s6.desk = s5.desk := setPresence_desk s5 i _ _
  clear_value s6
  rw [setWatch_desk, modOven_desk_same s6 i _ rfl, after, ← before]
  exact unlocked

/-! ### The receiver (R107, R135, R151) -/

theorem lineError_keeps (s : State) : s.desk.Keeps s.lineError.desk := by
  unfold lineError
  dsimp only
  split
  · exact raise_keeps (s := { s with calls := { s.calls with window := { s.calls.window with
      count := sat16 s.calls.window.count } } }) none codeLineErrors .minor .condition (by simp)
  · exact .refl

theorem countLineCrc_keeps (s : State) : s.desk.Keeps s.countLineCrc.desk :=
  lineError_keeps (s.countDiscard (fun c n => { c with lineCrc := n }) (·.lineCrc))

theorem wholeFrame_keeps (s : State) : s.desk.Keeps s.wholeFrame.desk := by
  have gap : s.desk.Keeps s.lineGap.desk := by
    unfold lineGap
    dsimp only
    split
    · exact .refl
    · exact .refl
    · exact countLineCrc_keeps { s with lineRx := .hunt true }
  exact gap

theorem lineEvent_keeps (s : State) (e : LineEvent) : s.desk.Keeps (s.lineEvent e).desk := by
  have whole : ∀ (t : State) (got : List Byte) (good : Bool), t.desk.Keeps (t.wholeArrives got good).desk := by
    intro t got good
    unfold wholeArrives
    split
    · exact .refl
    split
    · exact t.countLineCrc_keeps
    split
    · exact .refl
    split
    · exact .refl
    split <;> exact .refl
  have took : ∀ (t : State) (o : RxOut), t.desk.Keeps (t.takeRx o).desk := by
    intro t o
    cases o with
    | nothing => exact .refl
    | broken marked =>
      cases marked with
      | false => exact .refl
      | true => exact t.countLineCrc_keeps
    | whole got good => exact whole t got good
  exact took { s with lineRx := (s.lineRx.step e).1 } _

/-! ### Notices and service mode (R98, R131, R133) -/

theorem takeFault_keeps (s : State) (i : OvenId) (code : Nat) (ready : s.phase ≠ .restoring) :
    s.desk.Keeps (s.takeFault i code).desk := by
  unfold takeFault
  split
  · exact s.raise_keeps _ _ _ _ fun _ => ready
  · exact .refl

theorem takeFaultClear_keeps (s : State) (i : OvenId) (code : Nat) :
    s.desk.Keeps (s.takeFaultClear i code).desk := by
  unfold takeFaultClear
  repeat' split
  · exact s.clearCall_keeps _
  · exact .refl
  · exact .refl

theorem serviceKey_desk (s : State) (i : OvenId) (key : Nat) : (s.serviceKey i key).desk = s.desk := by
  unfold serviceKey
  repeat' split
  all_goals simp

end State
end Sys2Proof.Machine
end

section
/-! PROOFS. Every command keeps the laws of calls and locks (R94, R97, R105): a reset gives them, READY goes from a
desk without locks, and every other command is a chain of operations that keep them. -/

namespace Sys2Proof.Machine

open Desk (Steady Keeps)

namespace Desk

variable {d e x : Desk}

/-- The laws hold after where they held before. -/
structure Obeys (d e : Desk) : Prop where
  merging : d.Merging → e.Merging
  numbered : d.Numbered → e.Numbered
  locking : d.Locking → e.Locking

theorem Keeps.obeys (h : d.Keeps e) : d.Obeys e := ⟨h.merging, h.numbered, h.locking⟩

theorem Obeys.of_eq (h : e = d) : d.Obeys e := (Keeps.of_eq h).obeys

protected theorem Obeys.trans (h : d.Obeys e) (h' : e.Obeys x) : d.Obeys x :=
  ⟨h'.merging ∘ h.merging, h'.numbered ∘ h.numbered, h'.locking ∘ h.locking⟩

end Desk

open Desk (Obeys)

variable {s : State}

/-! ### Resets and READY (R164, R165) -/

/-- An empty table holds no lock. -/
theorem restart_obeys (s : State) (c : ResetCause) : s.desk.Obeys (s.restart c).desk := by
  have call : ∀ p, (s.restart c).desk.call p = none := fun p => by
    simp [State.desk, State.restart, State.reset, CallTable.reset, State.call]
  have locked : ∀ i, (s.restart c).desk.locked i = false := fun i => by
    simp [State.desk, State.restart, State.reset, State.oven, OvenEntry.reset]
  have overflow : ∀ i, (s.restart c).desk.overflow i = false := fun i => by
    simp [State.desk, State.restart, State.reset, CallTable.reset]
  have next : (s.restart c).desk.next = 1 := rfl
  refine ⟨fun _ => ?_, fun _ => ?_, fun _ i => ?_⟩
  · simp [Desk.Merging, call]
  · simp [Desk.Numbered, call, next]
  · simp [Desk.Held, call, locked, overflow]

/-- The restore gives back unlocked ovens, and a restoring part has had no lock (R2, R165). -/
theorem restore_obeys (restoring : s.phase = .restoring) : s.desk.Obeys s.restore.desk := by
  unfold State.restore
  split
  · rename_i c _
    have unlocked : ∀ i, (s.restoreFrom c).desk.locked i = false := fun i => by
      simp only [State.desk, State.restoreFrom, State.oven, Fin.getElem_fin, Vector.getElem_map]
      unfold restoredOven
      split <;> rfl
    refine ⟨id, id, fun law i => ?_⟩
    obtain ⟨held, -, quiet⟩ := law i
    have none : ¬ s.desk.Held i := fun h => by simp [quiet restoring] at held; exact held h
    have same : (s.restoreFrom c).desk.Held i ↔ s.desk.Held i := Iff.rfl
    show ((s.restoreFrom c).desk.locked i = true ↔ (s.restoreFrom c).desk.Held i) ∧ _
    refine ⟨?_, ?_, fun _ => unlocked i⟩
    · rw [unlocked, same]
      simpa using none
    · exact fun locked => absurd (locked.symm.trans (unlocked i)) (by simp)
  · exact .of_eq rfl

theorem doReady_obeys (s : State) : s.desk.Obeys (doReady s).desk := by
  unfold doReady
  split
  · rename_i restoring
    extract_lets s1 s2 s3
    have raised : s1.desk.Keeps s3.desk := by
      have told : s2.desk = s1.desk := State.offerReport_desk _ _
      unfold s3
      split
      · exact (Keeps.of_eq told).trans (State.raise_keeps _ _ _ _ _ (by simp))
      · exact .of_eq told
    have ready : s3.desk.Obeys { s3.desk with phase := .ready } :=
      ⟨id, id, fun law i => ⟨(law i).1, (law i).2.1, fun h => nomatch h⟩⟩
    exact ((restore_obeys restoring).trans raised.obeys).trans ready
  · exact .of_eq rfl

/-! ### The ways of a frame -/

section
variable {f : StoreFrame} {u : UpFrame}

theorem owned_keeps {cls : Byte} {act : State → Answered} (h : s.desk.Keeps (act s).after.desk) :
    s.desk.Keeps (s.owned cls f act).desk :=
  arriveStore_induct (fun t => s.desk.Keeps t.desk) .refl .refl .refl (by rw [Answered.finish_desk]; exact h)

theorem control_keeps {g : Gate} {act : State → Answered} (h : ∀ t : State, t.desk.Keeps (act t).after.desk) :
    s.desk.Keeps (s.control g f act).desk :=
  control_induct (fun t => s.desk.Keeps t.desk) .refl .refl .refl (fun _ => .of_eq (State.answer_desk _ _ _))
    (by rw [Answered.finish_desk]; exact h (s.fromGateway f))

theorem forAddress_keeps {act : OvenId → Answered} (h : ∀ i, s.desk.Keeps (act i).after.desk) :
    s.desk.Keeps (s.forAddress f act).after.desk := by
  unfold State.forAddress
  split
  · exact h _
  · exact .refl

theorem forRecipe_keeps {act : Fin 512 → Answered} (h : ∀ r, s.desk.Keeps (act r).after.desk) :
    s.desk.Keeps (s.forRecipe f act).after.desk := by
  unfold State.forRecipe
  split
  · exact h _
  · exact .refl

theorem forOven_keeps {tag : BitVec 16} {ok : Bool} {act : OvenId → Answered}
    (h : ∀ i, s.desk.Keeps (act i).after.desk) : s.desk.Keeps (s.forOven f tag ok act).after.desk := by
  unfold State.forOven
  split
  · exact .refl
  split
  · exact h _
  · exact .refl

/-- An upward frame is counted, or its oven's block acts after the restore (R135, R166). -/
theorem arriveUp_keeps {cls : Byte} {tag : BitVec 16} {act : OvenId → State → State}
    (h : ∀ (i : OvenId) (t : State), t.phase ≠ .restoring → t.desk.Keeps (act i t).desk) :
    s.desk.Keeps (s.arriveUp cls tag u act).desk := by
  refine s.wholeFrame_keeps.trans ?_
  unfold State.arriveUp
  dsimp only
  split
  · exact .refl
  split
  · exact .refl
  split
  · exact .refl
  split
  · exact .refl
  split
  · exact h _ _ ‹_›
  · exact .refl

/-- A frame is counted, or its owner acts after the oven's return and the copy (R3, R10, R137). -/
theorem dispatchUp_keeps {i : OvenId} {forward owner : State → State} (ready : s.phase ≠ .restoring)
    (hf : ∀ t, (forward t).desk = t.desk)
    (ho : ∀ t : State, t.phase ≠ .restoring → t.desk.Keeps (owner t).desk) :
    s.desk.Keeps (s.dispatchUp i forward owner).desk := by
  have heard : ∀ t : State, s.desk.Keeps t.desk →
      s.desk.Keeps (owner (forward ((t.reloadWatch i).countReceived i))).desk := by
    intro t returned
    have same : (forward ((t.reloadWatch i).countReceived i)).desk = t.desk := by simp [hf]
    have copied : s.desk.Keeps (forward ((t.reloadWatch i).countReceived i)).desk :=
      returned.trans (.of_eq same)
    refine copied.trans (ho _ ?_)
    rw [show (forward ((t.reloadWatch i).countReceived i)).phase = s.phase from copied.phase]
    exact ready
  unfold State.dispatchUp
  split
  · exact .refl
  · exact .of_eq (s.countRefused_desk i)
  · exact .of_eq (s.countRefused_desk i)
  · exact heard s .refl
  · exact heard _ (s.returnFromSilent_keeps i _)

theorem takeNotice_keeps {tag : BitVec 16} {owner : OvenId → State → State}
    (h : ∀ (i : OvenId) (t : State), t.phase ≠ .restoring → t.desk.Keeps (owner i t).desk) :
    s.desk.Keeps (s.takeNotice tag u owner).desk :=
  arriveUp_keeps fun i _ ready => dispatchUp_keeps ready (fun t => by split <;> simp) (h i)

end

/-! ### Events without a kitchen frame -/

section
variable (s : State) (i : OvenId)

theorem doWatchTick_desk : (doWatchTick s).desk = s.desk := by
  unfold doWatchTick
  dsimp only
  split <;> rfl

theorem doSilenceWatchExpiry_keeps : s.desk.Keeps (doSilenceWatchExpiry i s).desk := by
  unfold doSilenceWatchExpiry
  split
  · exact s.watchExpires_keeps i
  · exact .refl

theorem doAckTimerExpiry_keeps : s.desk.Keeps (doAckTimerExpiry i s).desk := by
  unfold doAckTimerExpiry
  split
  · exact (State.raise_keeps (s.setSlot i SlotState.reset) _ _ _ _ (by simp)).trans (State.ackLost_keeps _ i)
  · exact .refl

theorem doOvertimeExpiry_keeps : s.desk.Keeps (doOvertimeExpiry i s).desk := by
  unfold doOvertimeExpiry
  split
  · exact State.raise_keeps (s.modCleanRecord i _) _ _ _ _ (by simp)
  · exact .refl

theorem doApplyTimerExpiry_keeps : s.desk.Keeps (doApplyTimerExpiry i s).desk := by
  unfold doApplyTimerExpiry
  split
  · exact s.endApply_keeps i _ _
  · exact .refl

theorem doLineErrorWindowClose_keeps : s.desk.Keeps (doLineErrorWindowClose s).desk := by
  unfold doLineErrorWindowClose
  split
  · extract_lets t
    have cleared : s.desk.Keeps t.desk := by
      unfold t
      split
      · exact s.clearAtSource_keeps _ _
      · exact .refl
    exact cleared
  · exact .refl

theorem doTableClearCompletion_desk : (doTableClearCompletion s).desk = s.desk := by
  unfold doTableClearCompletion
  split
  · exact State.answer_desk _ _ _
  · rfl

theorem doSaveEnd_desk : (doSaveEnd s).desk = s.desk := by
  unfold doSaveEnd
  split
  · exact State.answer_desk _ _ _
  · rfl

theorem doStartUpDiscard_keeps (l : Link) : s.desk.Keeps (doStartUpDiscard l s).desk := by
  unfold doStartUpDiscard
  split
  · cases l with
    | store => exact .refl
    | ovenLine => exact s.wholeFrame_keeps
  · exact .refl

/-- The receiver takes the events one by one. -/
theorem doLineFrameDiscard_keeps (events : List LineEvent) : s.desk.Keeps (doLineFrameDiscard events s).desk := by
  unfold doLineFrameDiscard
  induction events generalizing s with
  | nil => exact .refl
  | cons e rest ih => exact (s.lineEvent_keeps e).trans (ih _)

theorem doStoreFrameDropped_desk (e : EthFrame) : (doStoreFrameDropped e s).desk = s.desk := by
  unfold doStoreFrameDropped
  repeat' split
  all_goals rfl

theorem doStoreClassifierDiscard_desk (e : EthFrame) : (doStoreClassifierDiscard e s).desk = s.desk := by
  unfold doStoreClassifierDiscard
  repeat' split
  · rfl
  · exact s.classify_desk _
  · rfl

theorem doPauseFrame_desk (dest : EthAddr) (quanta : BitVec 16) : (doPauseFrame dest quanta s).desk = s.desk := by
  unfold doPauseFrame
  repeat' split
  all_goals rfl

theorem doLineTransmitterTake_desk : (doLineTransmitterTake s).desk = s.desk := by
  unfold doLineTransmitterTake
  split
  · rename_i source _ _ _
    cases source <;> rfl
  · rfl

theorem doTransmissionEnd_desk : (doTransmissionEnd s).desk = s.desk := by
  unfold doTransmissionEnd
  split
  · rfl
  · dsimp only
    split
    · exact State.leaveClass_desk _ _
    · rfl
    · rfl

theorem doStoreLinkSend_desk : (doStoreLinkSend s).desk = s.desk := by
  unfold doStoreLinkSend
  repeat' split
  all_goals rfl

theorem doStoreLinkTransmissionEnd_obeys : s.desk.Obeys (doStoreLinkTransmissionEnd s).desk := by
  unfold doStoreLinkTransmissionEnd
  split
  · rename_i rest _ _
    split
    · exact restart_obeys s _
    · exact (State.buildService_steady { s with up := { s.up with frames := rest, tx := none } }).keeps.obeys
  · exact .of_eq rfl

theorem doSoftResetTenthTick_obeys : s.desk.Obeys (doSoftResetTenthTick s).desk := by
  unfold doSoftResetTenthTick
  split
  · exact restart_obeys s _
  · exact .of_eq rfl

end

/-! ### Requests -/

section
variable (s : State) (f : StoreFrame)

theorem doConfigWrite_keeps : s.desk.Keeps (doConfigWrite f s).desk :=
  control_keeps fun t => by
    split
    · exact .refl
    · dsimp only
      split
      · exact .of_eq (State.admissionPass_desk _)
      · exact .refl

theorem doDaypartSet_keeps : s.desk.Keeps (doDaypartSet f s).desk :=
  control_keeps fun t => by
    split
    · exact .refl
    · exact .of_eq (State.admissionPass_desk _)

theorem doSoftReset_obeys : s.desk.Obeys (doSoftReset f s).desk := by
  refine control_induct (fun t => s.desk.Obeys t.desk) (.of_eq rfl) (.of_eq rfl) (.of_eq rfl)
    (fun _ => .of_eq (State.answer_desk _ _ _)) ?_
  rw [Answered.finish_desk]
  split
  · exact .of_eq (State.answer_desk (s.fromGateway f) _ _)
  · exact restart_obeys s _

theorem doSave_keeps : s.desk.Keeps (doSave f s).desk :=
  control_keeps fun t => by
    split
    · exact t.raise_keeps _ _ _ _ (by simp)
    · exact .refl

theorem doOvenCommission_keeps : s.desk.Keeps (doOvenCommission f s).desk :=
  control_keeps fun t => forAddress_keeps fun i => by
    dsimp only
    split
    · exact .refl
    split
    · exact .refl
    split
    · exact .refl
    · exact t.commission_keeps i _

theorem doOvenRetire_keeps : s.desk.Keeps (doOvenRetire f s).desk :=
  control_keeps fun t => forAddress_keeps fun i => by
    split
    · exact .refl
    split
    · exact .refl
    · exact t.retire_keeps i

theorem doOvenSet_keeps : s.desk.Keeps (doOvenSet f s).desk :=
  control_keeps fun t => forAddress_keeps fun i => by
    split
    · exact .refl
    · exact .of_eq (t.modOven_desk_same i _ rfl)

theorem doServiceEnter_keeps : s.desk.Keeps (doServiceEnter f s).desk :=
  control_keeps fun t => forAddress_keeps fun i => by
    split
    · exact .refl
    split
    · exact .refl
    split
    · exact .refl
    · exact .of_eq (t.enterService_desk i)

theorem doServiceLeave_keeps : s.desk.Keeps (doServiceLeave f s).desk :=
  control_keeps fun t => forAddress_keeps fun i => by
    split
    · exact .of_eq (t.leaveService_desk i)
    · exact .refl

theorem doWatchReload_keeps : s.desk.Keeps (doWatchReload f s).desk :=
  control_keeps fun t => forAddress_keeps fun i => by
    split
    · exact .of_eq (t.reloadWatch_desk i)
    · exact .refl

theorem doMapStage_keeps : s.desk.Keeps (doMapStage f s).desk :=
  control_keeps fun t => forRecipe_keeps fun r => by
    dsimp only
    split
    · exact .refl
    split
    · exact .refl
    split <;> exact .refl

theorem doRelease_keeps : s.desk.Keeps (doRelease f s).desk :=
  control_keeps fun t => forRecipe_keeps fun r => by
    split
    · exact .refl
    split
    · exact .refl
    split
    · exact .refl
    · exact .of_eq (t.retireLive_desk r)

theorem doWithdraw_keeps : s.desk.Keeps (doWithdraw f s).desk :=
  control_keeps fun t => forRecipe_keeps fun r => by
    split
    · exact .refl
    split
    · exact .refl
    · exact .of_eq (t.retireLive_desk r)

theorem doStepWriteNext_keeps : s.desk.Keeps (doStepWriteNext f s).desk :=
  control_keeps fun t => by
    split
    · exact .of_eq (t.writeStep_desk _ _)
    · exact .refl

theorem doStepReadNext_keeps : s.desk.Keeps (doStepReadNext f s).desk :=
  control_keeps fun t => by
    split
    · exact .of_eq (t.readStep_desk _)
    · exact .refl

theorem doCallAck_keeps : s.desk.Keeps (doCallAck f s).desk :=
  control_keeps fun t => by
    split
    · exact .refl
    split
    · exact .refl
    split
    · exact .refl
    rename_i c held
    split
    · rename_i state; exact State.acknowledge_keeps held (.inl state)
    · rename_i state; exact State.acknowledge_keeps held (.inr state)
    · exact .refl
    · exact .refl

theorem doCallClearOverflow_keeps : s.desk.Keeps (doCallClearOverflow f s).desk :=
  control_keeps fun t => forAddress_keeps fun i => by
    split
    · have cleared : (t.setOverflow i false).desk = t.desk.setOverflow i false := t.setOverflow_desk i false
      refine State.relock_keeps (s := t.setOverflow i false) ?_ (fun j => ?_) fun j hj => ?_
      · rw [cleared]; exact ⟨id, id, rfl, rfl, rfl⟩
      · rw [cleared]; exact Desk.setOverflow_falls
      · rw [cleared]; exact Desk.setOverflow_other hj
    · exact .refl

theorem doCleanRelease_keeps : s.desk.Keeps (doCleanRelease f s).desk :=
  control_keeps fun t => forAddress_keeps fun i => by
    split
    · exact t.endCleaning_keeps i _ _
    · exact .refl

theorem doCookStart_keeps : s.desk.Keeps (doCookStart f s).desk :=
  owned_keeps (forOven_keeps fun i => forRecipe_keeps fun r => s.startCook_keeps i r _ _)

theorem doCookStop_keeps : s.desk.Keeps (doCookStop f s).desk :=
  owned_keeps (forOven_keeps fun i => by
    split
    · exact .refl
    · exact s.stopCook_keeps i _)

theorem doCleanRequest_keeps : s.desk.Keeps (doCleanRequest f s).desk :=
  owned_keeps (forOven_keeps fun i => by
    split
    · exact .of_eq (s.requestCleaning_desk i _ _)
    · exact .refl)

theorem doUpdateOpen_keeps : s.desk.Keeps (doUpdateOpen f s).desk :=
  owned_keeps (forOven_keeps fun i => by
    split
    · exact .refl
    split <;> exact .refl)

theorem doUpdateApply_keeps : s.desk.Keeps (doUpdateApply f s).desk :=
  owned_keeps (forOven_keeps fun i => by
    split
    · exact .refl
    · exact .of_eq (s.beginApply_desk i f))

theorem doDirect_keeps : s.desk.Keeps (doDirect f s).desk :=
  owned_keeps (by
    split
    · exact .of_eq (s.forwardDirect_desk _ _ f)
    · exact .refl)

end

/-! ### Upward frames -/

section
variable (s : State) (u : UpFrame)

theorem doSample_keeps (tag : BitVec 16) : s.desk.Keeps (doSample tag u s).desk :=
  arriveUp_keeps fun i _ ready =>
    dispatchUp_keeps ready (fun t => t.forwardSample_desk i _) fun t _ => t.watchSample_keeps i _

theorem doHello_keeps : s.desk.Keeps (doHello u s).desk :=
  arriveUp_keeps fun i t ready => t.helloArrives_keeps i u ready

theorem doCleanPhase_keeps : s.desk.Keeps (doCleanPhase u s).desk :=
  takeNotice_keeps fun i t _ => by
    dsimp only
    split <;> exact .refl

theorem doCleanDone_keeps : s.desk.Keeps (doCleanDone u s).desk :=
  takeNotice_keeps fun i t _ => by
    split
    · split
      · exact t.endCleaning_keeps i _ _
      · exact .refl
    · exact .refl

theorem doUpdateStatus_keeps : s.desk.Keeps (doUpdateStatus u s).desk :=
  takeNotice_keeps fun i t _ => by
    split
    · split
      · exact .refl
      · exact t.endApply_keeps i _ _
      · exact .refl
    · exact .refl

end

/-! ### Every command -/

theorem exec_obeys (c : Instr) (s : State) : ∃ t, exec c s = .next t ∧ s.desk.Obeys t.desk := by
  cases c with
  | powerOn => exact ⟨_, rfl, restart_obeys s _⟩
  | resetPin => exact ⟨_, rfl, restart_obeys s _⟩
  | ready => exact ⟨_, rfl, doReady_obeys s⟩
  | startUpDiscard link => exact ⟨_, rfl, (doStartUpDiscard_keeps s link).obeys⟩
  | watchTick => exact ⟨_, rfl, .of_eq (doWatchTick_desk s)⟩
  | silenceWatchExpiry n => exact ⟨_, rfl, (doSilenceWatchExpiry_keeps s n).obeys⟩
  | ackTimerExpiry n => exact ⟨_, rfl, (doAckTimerExpiry_keeps s n).obeys⟩
  | overtimeExpiry n => exact ⟨_, rfl, (doOvertimeExpiry_keeps s n).obeys⟩
  | applyTimerExpiry n => exact ⟨_, rfl, (doApplyTimerExpiry_keeps s n).obeys⟩
  | lineErrorWindowClose => exact ⟨_, rfl, (doLineErrorWindowClose_keeps s).obeys⟩
  | pauseExpiry => exact ⟨_, rfl, .of_eq rfl⟩
  | softResetTenthTick => exact ⟨_, rfl, doSoftResetTenthTick_obeys s⟩
  | tableClearCompletion => exact ⟨_, rfl, .of_eq (doTableClearCompletion_desk s)⟩
  | saveEnd => exact ⟨_, rfl, .of_eq (doSaveEnd_desk s)⟩
  | storeFrameDropped e => exact ⟨_, rfl, .of_eq (doStoreFrameDropped_desk s e)⟩
  | storeClassifierDiscard e => exact ⟨_, rfl, .of_eq (doStoreClassifierDiscard_desk s e)⟩
  | pauseFrame dest quanta => exact ⟨_, rfl, .of_eq (doPauseFrame_desk s dest quanta)⟩
  | statusRead f => exact ⟨_, rfl, (control_keeps fun _ => by split <;> exact .refl).obeys⟩
  | configWrite f => exact ⟨_, rfl, (doConfigWrite_keeps s f).obeys⟩
  | configRead f =>
    refine ⟨_, rfl, (control_keeps fun _ => ?_).obeys⟩
    repeat' split
    all_goals exact .refl
  | daypartSet f => exact ⟨_, rfl, (doDaypartSet_keeps s f).obeys⟩
  | rollCall f => exact ⟨_, rfl, (control_keeps fun _ => .of_eq rfl).obeys⟩
  | softReset f => exact ⟨_, rfl, doSoftReset_obeys s f⟩
  | save f => exact ⟨_, rfl, (doSave_keeps s f).obeys⟩
  | ovenCommission f => exact ⟨_, rfl, (doOvenCommission_keeps s f).obeys⟩
  | ovenRetire f => exact ⟨_, rfl, (doOvenRetire_keeps s f).obeys⟩
  | ovenRead f => exact ⟨_, rfl, (control_keeps fun _ => forAddress_keeps fun _ => .refl).obeys⟩
  | ovenSet f => exact ⟨_, rfl, (doOvenSet_keeps s f).obeys⟩
  | serviceEnter f => exact ⟨_, rfl, (doServiceEnter_keeps s f).obeys⟩
  | serviceLeave f => exact ⟨_, rfl, (doServiceLeave_keeps s f).obeys⟩
  | watchReload f => exact ⟨_, rfl, (doWatchReload_keeps s f).obeys⟩
  | mapStage f => exact ⟨_, rfl, (doMapStage_keeps s f).obeys⟩
  | mapSet f =>
    exact ⟨_, rfl, (control_keeps fun _ => forRecipe_keeps fun _ => by split <;> exact .refl).obeys⟩
  | mapRead f => exact ⟨_, rfl, (control_keeps fun _ => forRecipe_keeps fun _ => .refl).obeys⟩
  | mapReadNext f => exact ⟨_, rfl, (control_keeps fun _ => by split <;> exact .refl).obeys⟩
  | release f => exact ⟨_, rfl, (doRelease_keeps s f).obeys⟩
  | withdraw f => exact ⟨_, rfl, (doWithdraw_keeps s f).obeys⟩
  | discardStaged f =>
    exact ⟨_, rfl, (control_keeps fun _ => forRecipe_keeps fun _ => by split <;> exact .refl).obeys⟩
  | stepWrite f => exact ⟨_, rfl, (control_keeps fun t => .of_eq (t.writeStep_desk _ _)).obeys⟩
  | stepWriteNext f => exact ⟨_, rfl, (doStepWriteNext_keeps s f).obeys⟩
  | stepRead f => exact ⟨_, rfl, (control_keeps fun t => .of_eq (t.readStep_desk _)).obeys⟩
  | stepReadNext f => exact ⟨_, rfl, (doStepReadNext_keeps s f).obeys⟩
  | tableClear f => exact ⟨_, rfl, (control_keeps fun _ => by split <;> exact .refl).obeys⟩
  | classMapWrite f => exact ⟨_, rfl, (control_keeps fun _ => by split <;> exact .refl).obeys⟩
  | classMapRead f => exact ⟨_, rfl, (control_keeps fun _ => by split <;> exact .refl).obeys⟩
  | severityMapWrite f => exact ⟨_, rfl, (control_keeps fun _ => by split <;> exact .refl).obeys⟩
  | severityMapRead f => exact ⟨_, rfl, (control_keeps fun _ => by split <;> exact .refl).obeys⟩
  | callRead f => exact ⟨_, rfl, (control_keeps fun _ => by split <;> exact .refl).obeys⟩
  | callAck f => exact ⟨_, rfl, (doCallAck_keeps s f).obeys⟩
  | callClearOverflow f => exact ⟨_, rfl, (doCallClearOverflow_keeps s f).obeys⟩
  | cleanRelease f => exact ⟨_, rfl, (doCleanRelease_keeps s f).obeys⟩
  | cookStart f => exact ⟨_, rfl, (doCookStart_keeps s f).obeys⟩
  | cookStop f => exact ⟨_, rfl, (doCookStop_keeps s f).obeys⟩
  | cleanRequest f => exact ⟨_, rfl, (doCleanRequest_keeps s f).obeys⟩
  | cleanCancel f =>
    exact ⟨_, rfl, (owned_keeps (forOven_keeps fun i => .of_eq (s.cancelCleaning_desk i f))).obeys⟩
  | updateOpen f => exact ⟨_, rfl, (doUpdateOpen_keeps s f).obeys⟩
  | updateChunk f =>
    exact ⟨_, rfl, (owned_keeps (forOven_keeps fun i => .of_eq (s.takeChunk_desk i f _ _))).obeys⟩
  | updateSeal f => exact ⟨_, rfl, (owned_keeps (forOven_keeps fun i => .of_eq (s.sealUpdate_desk i f))).obeys⟩
  | updateApply f => exact ⟨_, rfl, (doUpdateApply_keeps s f).obeys⟩
  | updateAbort f =>
    exact ⟨_, rfl, (owned_keeps (forOven_keeps fun i => .of_eq (s.abortUpdate_desk i f))).obeys⟩
  | direct f => exact ⟨_, rfl, (doDirect_keeps s f).obeys⟩
  | lineFrameDiscard events => exact ⟨_, rfl, (doLineFrameDiscard_keeps s events).obeys⟩
  | sample tag f => exact ⟨_, rfl, (doSample_keeps s f tag).obeys⟩
  | hello f => exact ⟨_, rfl, (doHello_keeps s f).obeys⟩
  | stepAck f => exact ⟨_, rfl, (takeNotice_keeps fun i t _ => t.stepAck_keeps i _).obeys⟩
  | panelStart f => exact ⟨_, rfl, (takeNotice_keeps fun i t _ => t.panelStart_keeps i _).obeys⟩
  | panelStop f => exact ⟨_, rfl, (takeNotice_keeps fun i t _ => t.stopCook_keeps i _).obeys⟩
  | fault f => exact ⟨_, rfl, (takeNotice_keeps fun i t ready => t.takeFault_keeps i _ ready).obeys⟩
  | faultClear f => exact ⟨_, rfl, (takeNotice_keeps fun i t _ => t.takeFaultClear_keeps i _).obeys⟩
  | cleanPhase f => exact ⟨_, rfl, (doCleanPhase_keeps s f).obeys⟩
  | cleanDone f => exact ⟨_, rfl, (doCleanDone_keeps s f).obeys⟩
  | updateStatus f => exact ⟨_, rfl, (doUpdateStatus_keeps s f).obeys⟩
  | serviceKey f => exact ⟨_, rfl, (takeNotice_keeps fun i t _ => .of_eq (t.serviceKey_desk i _)).obeys⟩
  | ovenNote f => exact ⟨_, rfl, (takeNotice_keeps fun _ _ _ => .refl).obeys⟩
  | lineTransmitterTake => exact ⟨_, rfl, .of_eq (doLineTransmitterTake_desk s)⟩
  | transmissionEnd => exact ⟨_, rfl, .of_eq (doTransmissionEnd_desk s)⟩
  | storeLinkSend => exact ⟨_, rfl, .of_eq (doStoreLinkSend_desk s)⟩
  | storeLinkTransmissionEnd => exact ⟨_, rfl, doStoreLinkTransmissionEnd_obeys s⟩

theorem step_obeys {s t : State} (h : step s = .next t) : s.desk.Obeys t.desk := by
  unfold step at h
  split at h
  · rename_i c rest _
    obtain ⟨u, run, obeys⟩ := exec_obeys c { s with pending := rest }
    rw [run] at h
    cases h
    exact obeys
  · cases h
    refine .of_eq ?_
    unfold State.idle
    split <;> rfl

/-! ### The laws of a state are the laws of its desk -/

theorem lockHeld_iff (s : State) (i : OvenId) : s.lockHeld i ↔ s.desk.Held i := Iff.rfl

theorem lockLaw_iff (s : State) : LockLaw s ↔ s.desk.Locking := by
  have idle (i : OvenId) : s.desk.busy i = false ↔ (s.cook i).state = .idle := by
    simp [State.desk, CookCtx.held]
  exact forall_congr' fun i => and_congr Iff.rfl (and_congr (imp_congr Iff.rfl (idle i).symm) Iff.rfl)

/-- Settles O58: the two laws are those of the desk. -/
theorem callTableLawsKept : Obligations.CallTableLawsKept := by
  intro s t h
  have obeys := step_obeys h
  exact ⟨obeys.merging, obeys.numbered⟩

/-- Settles O59. -/
theorem lockLawKept : Obligations.LockLawKept := by
  intro s t law h
  rw [lockLaw_iff] at law ⊢
  exact (step_obeys h).locking law

end Sys2Proof.Machine
end

section
/-! THEOREM. What the Store Link sends and when, and what joins the Upward Queue (R102, R145 to R147, R149, R163):
settles `Obligations.StoreLinkSends`. -/

namespace Sys2Proof.Machine

/-! ### STORE_LINK_SEND and STORE_LINK_TRANSMISSION_END -/

section
variable {s : State} {k : KFrame} {rest : List KFrame} {e : EthFrame}

theorem doStoreLinkSend_idle (head : s.up.frames = k :: rest) (idle : s.up.tx = none) (go : s.pause.remaining = 0) :
    doStoreLinkSend s = { s with up :=
      { s.up with tx := some (ethFrame s.gateway Config.stationAddress s.config.kitchenType k) } } := by
  simp [doStoreLinkSend, idle, head, go]

theorem doStoreLinkSend_paused (paused : 0 < s.pause.remaining) : doStoreLinkSend s = s := by
  unfold doStoreLinkSend
  split
  · exact if_neg paused.ne'
  · rfl

theorem doStoreLinkSend_busy (busy : s.up.tx = some e) : doStoreLinkSend s = s := by
  simp [doStoreLinkSend, busy]

/-- R163: only the end of the REPLY DONE to SOFT_RESET, while a soft reset is awaited, is the reset. -/
theorem doStoreLinkTransmissionEnd_leaves (busy : s.up.tx = some e) (head : s.up.frames = k :: rest)
    (other : ¬(s.softReset.isSome ∧ isSoftResetReply k = true)) :
    doStoreLinkTransmissionEnd s = State.buildService { s with up := { s.up with frames := rest, tx := none } } := by
  simp only [doStoreLinkTransmissionEnd, busy, head, if_neg other]

end

theorem isSoftResetReply_iff (k : KFrame) :
    isSoftResetReply k = true ↔ k.cls = 9 ∧ k.payload.take 4 = [5, 0, 6, 2] := by
  simp [isSoftResetReply]

theorem not_softResetEnd {s : State} {k : KFrame}
    (h : s.softReset = none ∨ k.cls ≠ 9 ∨ k.payload.take 4 ≠ [5, 0, 6, 2]) :
    ¬(s.softReset.isSome ∧ isSoftResetReply k = true) := by
  rw [isSoftResetReply_iff]
  rintro ⟨awaited, cls, payload⟩
  obtain none | other | other := h
  · simp [none] at awaited
  · exact other cls
  · exact other payload

/-! ### The statement -/

/-- Settles O53: the offers by the room the queue has, the Store Link's two instructions by what is on the wire. -/
theorem storeLinkSends : Obligations.StoreLinkSends := by
  refine ⟨fun s i k => ⟨rfl, ?_, ?_⟩, fun s k rest head => ⟨fun idle go => ?_, fun _ paused => ?_,
    fun e busy => ?_, fun e busy other => ?_⟩⟩
  · simp only [State.offerReply, State.upRoom, decide_eq_true_eq]; rfl
  · simp only [State.offerReport, State.upRoom, decide_eq_true_eq]; rfl
  · exact congrArg Host.Outcome.next (doStoreLinkSend_idle head idle go)
  · exact congrArg Host.Outcome.next (doStoreLinkSend_paused paused)
  · exact congrArg Host.Outcome.next (doStoreLinkSend_busy busy)
  · exact congrArg Host.Outcome.next (doStoreLinkTransmissionEnd_leaves busy head (not_softResetEnd other))

end Sys2Proof.Machine
end

section
/-! SUPPORT. What the searches and the operations of the Call Table come to, case by case (R94, R97, R99, R104,
R105). -/

namespace Sys2Proof.Machine

variable {s : State} {p : Fin 32} {c : Call} {i : OvenId} {n : Nat}

/-! ### Searches -/

/-- R97: the unresolved call of its oven and code is found; the law says it is the only one. -/
theorem findCall_of_unresolved (law : MergingLaw s) (here : s.call p = some c) (unresolved : c.state ≠ .resolved) :
    s.findCall c.oven c.code = some p := by
  cases found : s.findCall c.oven c.code with
  | none => exact absurd (findCall_none.mp found p c here rfl rfl) unresolved
  | some q =>
    have ⟨single, _⟩ := law
    obtain ⟨b, there, alive, oven, code⟩ := findCall_some found
    exact congrArg some (single q p b c there here alive unresolved oven code)

theorem callNumbered_some (h : s.callNumbered n = some p) : ∃ c, s.call p = some c ∧ c.number = n := by
  have carries := List.find?_some h
  cases held : s.call p with
  | none => simp [held] at carries
  | some c => exact ⟨c, rfl, by simpa [held] using carries⟩

theorem callNumbered_none : s.callNumbered n = none ↔ ∀ p c, s.call p = some c → c.number ≠ n := by
  unfold State.callNumbered
  rw [List.find?_eq_none]
  refine ⟨fun none p c here number => none p (List.mem_finRange p) ?_, fun none p _ => ?_⟩
  · simp [here, number]
  · cases here : s.call p with
    | none => simp
    | some c => simpa using none p c here

/-- R94: the entry that carries a number is found by it; the law says it is the only one. -/
theorem callNumbered_of_carries (law : NumberLaw s) (here : s.call p = some c) : s.callNumbered c.number = some p := by
  cases found : s.callNumbered c.number with
  | none => exact absurd rfl (callNumbered_none.mp found p c here)
  | some q =>
    have ⟨_, _, single, _⟩ := law
    obtain ⟨b, there, number⟩ := callNumbered_some found
    exact congrArg some (single q p b c there here number)

/-! ### Clearing at source (R99) -/

theorem clearCall_cleared (here : s.call p = some c) (cleared : c.cleared = true) : s.clearCall p = s := by
  simp [State.clearCall, here, cleared]

theorem clearCall_marks (here : s.call p = some c) (uncleared : c.cleared = false)
    (unacknowledged : c.state ≠ .acknowledged) :
    s.clearCall p = s.setCall p (some { c with cleared := true }) := by
  simp [State.clearCall, here, uncleared, unacknowledged]

theorem clearCall_resolves (here : s.call p = some c) (uncleared : c.cleared = false)
    (acknowledged : c.state = .acknowledged) :
    s.clearCall p = s.resolveCall p c := by
  simp [State.clearCall, here, uncleared, acknowledged]

/-- A clearing event without an unresolved call changes nothing (R99). -/
theorem clearAtSource_none {sub : Option OvenId} {code : Nat}
    (none : ∀ p c, s.call p = some c → c.oven = sub → c.code = code → c.state = .resolved) :
    s.clearAtSource sub code = s := by
  rw [State.clearAtSource, findCall_none.mpr none]

theorem clearAtSource_found (law : MergingLaw s) (here : s.call p = some c) (unresolved : c.state ≠ .resolved) :
    s.clearAtSource c.oven c.code = s.clearCall p := by
  rw [State.clearAtSource, findCall_of_unresolved law here unresolved]

/-! ### Locks derived anew (R105) -/

theorem lockDerived_eq_false : s.lockDerived i = false ↔ ¬ s.lockHeld i := by
  rw [← Bool.not_eq_true, State.lockDerived_iff, lockHeld_iff]

theorem relock_left (h : s.lockHeld i ∨ (s.oven i).locked = false) : s.relock i = s := by
  have : ((s.oven i).locked && !s.lockDerived i) = false := by
    obtain held | free := h
    · simp [State.lockDerived_iff.mpr held]
    · simp [free]
  simp [State.relock, this]

theorem relock_unlocks (none : ¬ s.lockHeld i) (locked : (s.oven i).locked = true) :
    s.relock i = (s.modOven i fun e => { e with locked := false }).admissionPass := by
  simp [State.relock, locked, lockDerived_eq_false.mpr none]

theorem relockFor_lockout (severity : c.severity = .lockout) (oven : c.oven = some i) : s.relockFor c = s.relock i := by
  simp only [State.relockFor, severity, oven]

/-- Only a LOCKOUT call of an oven holds a lock. -/
theorem relockFor_none (h : c.severity ≠ .lockout ∨ c.oven = none) : s.relockFor c = s := by
  obtain ⟨i, severity, oven, -⟩ | ⟨-, left⟩ := s.relockFor_eq c
  · simp [severity, oven] at h
  · exact left

end Sys2Proof.Machine
end

section
/-! THEOREM. Clearing at source, acknowledging, and clearing an overflow bit (R95, R99, R101, R103 to R105): settles
`Obligations.CallAckAndClearOverflow`. -/

namespace Sys2Proof.Machine

variable {s : State} {f : StoreFrame} {p : Fin 32} {c : Call} {i : OvenId}

/-! ### CALL_ACK (R103) -/

/-- The entry that carries the number is the one that answers (R103). -/
theorem callNumbered_carried (law : NumberLaw s) (here : s.call p = some c) (number : c.number = field f.payload 0 2) :
    (s.fromGateway f).callNumbered (field f.payload 0 2) = some p ∧ (s.fromGateway f).call p = some c :=
  number ▸ ⟨callNumbered_of_carries (s := s.fromGateway f) law here, here⟩

section
variable (h : Requested s f 45 [2])
include h

theorem doCallAck_zero (zero : field f.payload 0 2 = 0) :
    doCallAck f s = (s.fromGateway f).replies f { result := .badField } :=
  control_replies h (by decide) (fun saved => nomatch saved) rfl (if_pos zero)

theorem doCallAck_unknown (nonzero : field f.payload 0 2 ≠ 0)
    (none : ∀ p c, s.call p = some c → c.number ≠ field f.payload 0 2) :
    doCallAck f s = (s.fromGateway f).replies f { result := .state } := by
  refine control_replies h (by decide) (fun saved => nomatch saved) rfl ((if_neg nonzero).trans ?_)
  rw [callNumbered_none (s := s.fromGateway f).mpr none]
  rfl

theorem doCallAck_known (nonzero : field f.payload 0 2 ≠ 0) (law : NumberLaw s) (here : s.call p = some c)
    (number : c.number = field f.payload 0 2) (known : c.state = .acknowledged ∨ c.state = .resolved) :
    doCallAck f s = (s.fromGateway f).replies f { result := .done, detail := c.state.code } := by
  obtain ⟨found, there⟩ := callNumbered_carried law here number
  refine control_replies h (by decide) (fun saved => nomatch saved) rfl ((if_neg nonzero).trans ?_)
  obtain state | state := known <;> simp only [found, there, state] <;> rfl

theorem doCallAck_waiting {u : State} {a : Reply} (nonzero : field f.payload 0 2 ≠ 0) (law : NumberLaw s)
    (here : s.call p = some c) (number : c.number = field f.payload 0 2)
    (waiting : c.state = .opened ∨ c.state = .reported)
    (done : (s.fromGateway f).acknowledge p c = { after := u, reply := some a }) : doCallAck f s = u.replies f a := by
  obtain ⟨found, there⟩ := callNumbered_carried law here number
  refine control_replies h (by decide) (fun saved => nomatch saved) rfl ((if_neg nonzero).trans ?_)
  obtain state | state := waiting <;> simp only [found, there, state] <;> exact done

end

/-- An entry still open at its source becomes ACKNOWLEDGED, one cleared there RESOLVED (R103, R104). -/
theorem acknowledge_open (still : c.cleared = false) : s.acknowledge p c =
    { after := (s.leaveReports p).setCall p (some { c with state := .acknowledged })
      reply := some { result := .done, detail := 3 } } := by
  simp only [State.acknowledge, still]
  rfl

theorem acknowledge_cleared (cleared : c.cleared = true) : s.acknowledge p c =
    { after := (State.buildService
        (((s.leaveReports p).setCall p (some { c with state := .resolved })).joinReports p)).relockFor c
      reply := some { result := .done, detail := 4 } } := by
  have flagged : { c with cleared := true, state := .resolved } = { c with state := .resolved } := by rw [← cleared]
  rw [State.acknowledge, if_pos cleared, State.resolveCall, flagged]
  rfl

/-! ### CALL_CLEAR_OVERFLOW (R101, R105) -/

section
variable (h : RequestedFor s f 46 [1] i)
include h

theorem doCallClearOverflow_clear (clear : s.calls.overflow[i] = false) :
    doCallClearOverflow f s = (s.fromGateway f).replies f { result := .state } := by
  obtain ⟨requested, oven⟩ := h
  refine control_replies requested (by decide) (fun saved => nomatch saved) rfl ((forAddress_some oven).trans ?_)
  exact if_neg (Bool.eq_false_iff.mp clear)

theorem doCallClearOverflow_set (set : s.calls.overflow[i] = true) : doCallClearOverflow f s =
    (((s.fromGateway f).setOverflow i false).relock i).replies f { result := .done } := by
  obtain ⟨requested, oven⟩ := h
  refine control_replies requested (by decide) (fun saved => nomatch saved) rfl ((forAddress_some oven).trans ?_)
  exact if_pos set

end

theorem doCallClearOverflow_noOven (h : Requested s f 46 [1]) (none : NoOven f) :
    doCallClearOverflow f s = (s.fromGateway f).replies f { result := .badField } :=
  control_replies h (by decide) (fun saved => nomatch saved) rfl (forAddress_none none)

/-- With its bit cleared an oven is held locked by an unresolved LOCKOUT call only. -/
theorem setOverflow_lockHeld : (s.setOverflow i false).lockHeld i ↔
    ∃ p c, s.call p = some c ∧ c.state ≠ .resolved ∧ c.oven = some i ∧ c.severity = .lockout := by
  have clear : (s.setOverflow i false).calls.overflow[i] = false := by simp [State.setOverflow]
  exact or_iff_right (by simp [clear])

/-! ### The statement -/

/-- Settles O35: clearing at source by the call found, the lock by what still holds it, CALL_ACK by the state of the
entry, CALL_CLEAR_OVERFLOW by the bit. -/
theorem callAckAndClearOverflow : Obligations.CallAckAndClearOverflow := by
  refine ⟨fun s sub code => ⟨clearAtSource_none, fun p c law here unresolved oven code => ?_⟩, fun s c =>
    ⟨relockFor_none, fun i severity oven => ?_⟩, fun s f h none => ?_, fun s f h => ⟨fun zero => ?_,
    fun nonzero none => ?_, fun p c nonzero law here number => ⟨fun state => ?_, fun state => ?_,
    fun waiting still => ?_, fun waiting cleared => ?_⟩⟩, fun s f i h => ⟨fun clear => ?_, fun set left => ?_,
    fun set unheld locked => ?_⟩⟩
  · rw [← oven, ← code, clearAtSource_found law here unresolved]
    exact ⟨clearCall_cleared here, clearCall_marks here, clearCall_resolves here⟩
  · rw [relockFor_lockout severity oven]
    exact ⟨relock_left, relock_unlocks⟩
  · exact congrArg Host.Outcome.next (doCallClearOverflow_noOven h none)
  · exact congrArg Host.Outcome.next (doCallAck_zero h zero)
  · exact congrArg Host.Outcome.next (doCallAck_unknown h nonzero none)
  · rw [← show c.state.code = 3 from congrArg CallState.code state]
    exact congrArg Host.Outcome.next (doCallAck_known h nonzero law here number (.inl state))
  · rw [← show c.state.code = 4 from congrArg CallState.code state]
    exact congrArg Host.Outcome.next (doCallAck_known h nonzero law here number (.inr state))
  · exact congrArg Host.Outcome.next (doCallAck_waiting h nonzero law here number waiting (acknowledge_open still))
  · exact congrArg Host.Outcome.next
      (doCallAck_waiting h nonzero law here number waiting (acknowledge_cleared cleared))
  · exact congrArg Host.Outcome.next (doCallClearOverflow_clear h clear)
  · have kept : ((s.fromGateway f).setOverflow i false).relock i = (s.fromGateway f).setOverflow i false :=
      relock_left (left.imp_left setOverflow_lockHeld.mpr)
    exact congrArg Host.Outcome.next ((doCallClearOverflow_set h set).trans (by rw [kept]; rfl))
  · have cleared : ((s.fromGateway f).setOverflow i false).relock i =
        (((s.fromGateway f).setOverflow i false).modOven i fun e => { e with locked := false }).admissionPass :=
      relock_unlocks (fun held => unheld (setOverflow_lockHeld.mp held)) locked
    exact congrArg Host.Outcome.next ((doCallClearOverflow_set h set).trans (by rw [cleared]; rfl))

end Sys2Proof.Machine
end

section
/-! THEOREM. FAULT, FAULT_CLEAR, UPDATE_STATUS and SERVICE_KEY at their owners (R98, R118, R131, R133): settles
`Obligations.OwnedNotices`. -/

namespace Sys2Proof.Machine

variable {s : State} {f : UpFrame} {i : OvenId} {p : Fin 32} {c : Call} {k : Nat}

/-! ### Each notice at its owner (R3, R137) -/

theorem doFault_heard (h : Heard s 8 5 f i) : doFault f s = (s.noticed i 5 f).takeFault i (byteAt f.payload 0) :=
  takeNotice_heard h

theorem doFaultClear_heard (h : Heard s 8 6 f i) :
    doFaultClear f s = (s.noticed i 6 f).takeFaultClear i (byteAt f.payload 0) := takeNotice_heard h

theorem doServiceKey_heard (h : Heard s 8 10 f i) :
    doServiceKey f s = (s.noticed i 10 f).serviceKey i (byteAt f.payload 0) := takeNotice_heard h

/-! ### FAULT and FAULT_CLEAR (R98) -/

theorem takeFault_mapped (n : Fin 199) (code : k = n.val + 1) :
    s.takeFault i k = s.raise (some i) k s.severity[n] .condition := by
  subst code
  have mapped : s.faultSeverity (n.val + 1) = some s.severity[n] := by
    unfold State.faultSeverity
    rw [dif_pos (by omega)]
    rfl
  rw [State.takeFault, mapped]

theorem takeFault_ignored (none : k = 0 ∨ 199 < k) : s.takeFault i k = s.ignoreFault := by
  have unmapped : s.faultSeverity k = Option.none := dif_neg (by omega)
  rw [State.takeFault, unmapped]

theorem takeFaultClear_found (least : 1 ≤ k) (greatest : k ≤ 199) (law : MergingLaw s) (here : s.call p = some c)
    (unresolved : c.state ≠ .resolved) (oven : c.oven = some i) (code : c.code = k) :
    s.takeFaultClear i k = s.clearCall p := by
  rw [State.takeFaultClear, if_pos ⟨least, greatest⟩, ← oven, ← code, findCall_of_unresolved law here unresolved]

theorem takeFaultClear_ignored (none : k = 0 ∨ 199 < k ∨
    ∀ p c, s.call p = some c → c.oven = some i → c.code = k → c.state = .resolved) :
    s.takeFaultClear i k = s.ignoreFault := by
  unfold State.takeFaultClear
  split
  · obtain zero | high | resolved := none
    · omega
    · omega
    · rw [findCall_none.mpr resolved]
  · rfl

/-- What a clearing event does to the call found (R99). -/
theorem clearCall_eq (here : s.call p = some c) : s.clearCall p =
    if c.cleared then s else if c.state = .acknowledged then s.resolveCall p c
    else s.setCall p (some { c with cleared := true }) := by
  rw [State.clearCall, here]

/-! ### UPDATE_STATUS (R118) -/

section
variable (h : Heard s 8 9 f i)
include h

theorem doUpdateStatus_begun (applying : ((s.noticed i 9 f).update i).state = .applying)
    (status : byteAt f.payload 0 = 1) :
    doUpdateStatus f s = (s.noticed i 9 f).modUpdate i fun u => { u with begun := true } := by
  refine (takeNotice_heard h).trans ((if_pos applying).trans ?_)
  rw [status]
  rfl

theorem doUpdateStatus_failed (applying : ((s.noticed i 9 f).update i).state = .applying)
    (status : byteAt f.payload 0 = 2) : doUpdateStatus f s = (s.noticed i 9 f).endApply i .status ⟨0, 0⟩ := by
  refine (takeNotice_heard h).trans ((if_pos applying).trans ?_)
  rw [status]
  rfl

theorem doUpdateStatus_none (none : ((s.noticed i 9 f).update i).state ≠ .applying ∨ byteAt f.payload 0 = 0 ∨
    2 < byteAt f.payload 0) : doUpdateStatus f s = s.noticed i 9 f := by
  refine (takeNotice_heard h).trans ?_
  by_cases applying : ((s.noticed i 9 f).update i).state = .applying
  · have neither := none.resolve_left (not_not.mpr applying)
    refine (if_pos applying).trans ?_
    split
    · omega
    · omega
    · rfl
  · exact if_neg applying

end

/-! ### SERVICE_KEY (R131, R133) -/

theorem serviceKey_enterAgain (service : (s.oven i).service = true) : s.serviceKey i 1 = s := if_pos service

theorem serviceKey_enterRefused (service : (s.oven i).service = false) (taken : (s.oven i).occupancy ≠ .free) :
    s.serviceKey i 1 = s.countRefused i :=
  (if_neg (Bool.eq_false_iff.mp service)).trans (if_pos taken)

theorem serviceKey_enters (service : (s.oven i).service = false) (free : (s.oven i).occupancy = .free) :
    s.serviceKey i 1 = s.enterService i :=
  (if_neg (Bool.eq_false_iff.mp service)).trans (if_neg (not_not.mpr free))

theorem serviceKey_leaveAgain (service : (s.oven i).service = false) : s.serviceKey i 2 = s :=
  if_neg (Bool.eq_false_iff.mp service)

theorem serviceKey_leaves (service : (s.oven i).service = true) : s.serviceKey i 2 = s.leaveService i := if_pos service

theorem serviceKey_unknown (unknown : k = 0 ∨ 2 < k) : s.serviceKey i k = s.countRefused i := by
  unfold State.serviceKey
  split
  · omega
  · omega
  · rfl

/-- An oven without a watch has none to write. -/
theorem setWatch_none (off : s.watch i = none) : s.setWatch i none = s := by
  have same : s.watches.set i none = s.watches := by
    rw [← off]
    exact Vector.set_getElem_self i.isLt
  rw [State.setWatch, same]

/-- The oven with its service flag brought to `b`. -/
abbrev State.withService (s : State) (i : OvenId) (b : Bool) : State := s.modOven i fun e => { e with service := b }

theorem withService_freezes (b : Bool) :
    ((s.withService i b).oven i).freezes = (b || (s.oven i).occupancy == .applying) := by
  simp [OvenEntry.freezes]

/-- Service mode freezes the watch there is (R132). -/
theorem enterService_eq : s.enterService i =
    (s.withService i true).setWatch i ((s.watch i).map fun w => { w with frozen := true }) := by
  unfold State.enterService
  cases watch : s.watch i with
  | none =>
    have off : (s.withService i true).watch i = none := watch
    rw [refreeze_none off]
    exact (setWatch_none off).symm
  | some w => rw [refreeze_some (s := s.withService i true) watch, withService_freezes]; rfl

/-- The watch loads anew and runs unless the oven is APPLYING; then an admission pass (R134). -/
theorem leaveService_eq {w : Watch} {r : CommRecord} (watch : s.watch i = some w)
    (record : (s.oven i).record = some r) : s.leaveService i =
      ((s.withService i false).setWatch i
        (some { counter := r.window, prescaler := r.scale, scale := r.scale,
                frozen := (s.oven i).occupancy == .applying })).admissionPass := by
  have kept : ((s.withService i false).oven i).record = some r := by simpa using record
  have loaded := reloadWatch_loaded (s := s.withService i false) watch kept
  have freezes : (((s.withService i false).setWatch i (some (Watch.loaded r w.frozen))).oven i).freezes =
      ((s.oven i).occupancy == .applying) := withService_freezes false
  rw [State.leaveService, loaded, refreeze_some (State.setWatch_self ..), setWatch_setWatch, freezes]
  rfl

/-! ### The statement -/

/-- Settles O50: each notice is heard and its owner acts by code or state. -/
theorem ownedNotices : Obligations.OwnedNotices := by
  refine fun s f i => ⟨fun h => ⟨fun n code => ?_, fun none => ?_⟩,
    fun h => ⟨fun p c least greatest law here unresolved oven code => ?_, fun none => ?_⟩,
    fun h => ⟨fun applying status => ?_, fun applying status => ?_, fun none => ?_⟩,
    fun h => ⟨fun key service => ?_, fun key service taken => ?_, fun key service free => ?_, fun key service => ?_,
      fun r w key service watch record => ?_, fun unknown => ?_⟩⟩
  · exact congrArg Host.Outcome.next ((doFault_heard h).trans (takeFault_mapped n code))
  · exact congrArg Host.Outcome.next ((doFault_heard h).trans (takeFault_ignored none))
  · exact congrArg Host.Outcome.next ((doFaultClear_heard h).trans
      ((takeFaultClear_found least greatest law here unresolved oven code).trans (clearCall_eq here)))
  · exact congrArg Host.Outcome.next ((doFaultClear_heard h).trans (takeFaultClear_ignored none))
  · exact congrArg Host.Outcome.next (doUpdateStatus_begun h applying status)
  · exact congrArg Host.Outcome.next (doUpdateStatus_failed h applying status)
  · exact congrArg Host.Outcome.next (doUpdateStatus_none h none)
  all_goals refine congrArg Host.Outcome.next ((doServiceKey_heard h).trans ?_)
  · rw [key]; exact serviceKey_enterAgain service
  · rw [key]; exact serviceKey_enterRefused service taken
  · rw [key]; exact (serviceKey_enters service free).trans enterService_eq
  · rw [key]; exact serviceKey_leaveAgain service
  · rw [key]; exact (serviceKey_leaves service).trans (leaveService_eq watch record)
  · exact serviceKey_unknown unknown

end Sys2Proof.Machine
end

section
/-! SUPPORT. What a lock leaves of transfers and line time on its way to them (R57, R85, R105, R106). -/

namespace Sys2Proof.Machine

variable {s t u : State} {i : OvenId} {p : Fin 32}

/-- The update contexts and the line time are the same. -/
def State.Transfers (s t : State) : Prop := t.updates = s.updates ∧ t.lineTime = s.lineTime

namespace State.Transfers

protected theorem refl : s.Transfers s := ⟨rfl, rfl⟩

protected theorem trans (h : s.Transfers t) (h' : t.Transfers u) : s.Transfers u := by
  obtain ⟨updates, lineTime⟩ := h
  obtain ⟨updates', lineTime'⟩ := h'
  exact ⟨updates'.trans updates, lineTime'.trans lineTime⟩

theorem of_tells (h : s.Tells t) : s.Transfers t := by
  obtain ⟨calls, up, rfl⟩ := h
  exact .refl

theorem offers (h : s.Transfers t) (k : KFrame) : s.Transfers (t.offerReport k) :=
  h.trans (of_tells (offerReport_tells k))

theorem update (h : s.Transfers t) (i : OvenId) : t.update i = s.update i := by
  obtain ⟨updates, -⟩ := h
  rw [State.update, updates]
  rfl

end State.Transfers

namespace State

theorem dropWait_transfers (s : State) (i : OvenId) (r : DropReason) : s.Transfers (s.dropWait i r) := by
  obtain ⟨-, left⟩ | ⟨w, -, -, dropped⟩ := dropWait_cases (s := s) i r
  · rw [left]; exact .refl
  · rw [dropped]; exact .offers (t := s.removeWait i) ⟨rfl, rfl⟩ _

theorem admitOven_transfers (s : State) (i : OvenId) (p : Programme) (seq : Byte) (taken : LineTime) (route : Route) :
    s.Transfers (s.admitOven i p seq taken route) := .offers ⟨rfl, rfl⟩ _

theorem admissionPass_transfers (s : State) : s.Transfers s.admissionPass :=
  admissionPass_induct (fun t => s.Transfers t) (fun _ _ h => h) (fun t i r h => h.trans (t.dropWait_transfers i r))
    (fun t _ h _ _ _ _ _ _ _ => (h.trans (t.admitOven_transfers ..)).trans ⟨rfl, rfl⟩) .refl

theorem relockFor_transfers (s : State) (c : Call) : s.Transfers (s.relockFor c) := by
  obtain ⟨i, -, -, relocks⟩ | ⟨-, left⟩ := s.relockFor_eq c
  · rw [relocks]
    obtain left | ⟨-, -, cleared⟩ := relock_cases (s := s) i
    · rw [left]; exact .refl
    · rw [cleared]; exact .trans ⟨rfl, rfl⟩ (admissionPass_transfers _)
  · rw [left]; exact .refl

theorem clearAtSource_transfers (s : State) (sub : Option OvenId) (code : Nat) :
    s.Transfers (s.clearAtSource sub code) := by
  obtain left | ⟨p, c, -, -, -, -, -, ⟨-, resolved⟩ | ⟨-, marked⟩⟩ := clearAtSource_cases (s := s) sub code
  · rw [left]; exact .refl
  · rw [resolved]
    exact .trans (.of_tells (.trans ⟨_, _, rfl⟩ buildService_tells)) (relockFor_transfers _ c)
  · rw [marked]; exact ⟨rfl, rfl⟩

theorem dropUser_transfers (s : State) (recipe version : Nat) : s.Transfers (s.dropUser recipe version) := by
  unfold dropUser dropDraining
  repeat' split
  all_goals exact ⟨rfl, rfl⟩

theorem releaseOccupancy_transfers (s : State) (i : OvenId) (job : Occupancy) :
    s.Transfers (s.releaseOccupancy i job) := by
  unfold releaseOccupancy
  split
  · exact ⟨rfl, rfl⟩
  · exact .refl

theorem modCook_transfers (s : State) (i : OvenId) (g : CookCtx → CookCtx) : s.Transfers (s.modCook i g) := ⟨rfl, rfl⟩

theorem cookGoIdle_transfers (s : State) (i : OvenId) (r : CookResult) : s.Transfers (s.cookGoIdle i r) := by
  unfold cookGoIdle
  extract_lets stopped s1 s2 s3 s4 s5
  have toS2 : s.Transfers s2 := .offers (t := s1) ⟨rfl, rfl⟩ _
  have toS4 : s.Transfers s4 := (toS2.trans (dropUser_transfers ..)).trans (releaseOccupancy_transfers ..)
  have toS5 : s.Transfers s5 := ((toS4.trans (clearAtSource_transfers ..)).trans
    (clearAtSource_transfers ..)).trans (clearAtSource_transfers ..)
  exact toS5.trans (modCook_transfers ..)

theorem putStop_transfers (s : State) (i : OvenId) : s.Transfers (s.putStop i) := ⟨rfl, rfl⟩

theorem stopCook_transfers (s : State) (i : OvenId) (r : CookResult) : s.Transfers (s.stopCook i r) := by
  unfold stopCook
  split
  · exact .refl
  · exact (s.cookGoIdle_transfers i r).trans (putStop_transfers _ i)

end State
end Sys2Proof.Machine
end

section
/-! THEOREM. What an occurrence does to the Call Table and to the lock of its oven (R94, R97, R100, R101, R105, R106,
R122): settles `Obligations.Occurrences`. -/

namespace Sys2Proof.Machine

variable {s t : State} {i : OvenId} {p : Fin 32} {c : Call} {n : Nat}

/-! ### An oven becomes locked (R105, R106, R122) -/

/-- A transfer fails as it stood when the oven was locked (R122). -/
theorem lockUpdate_fails (kept : s.Transfers t) (transfer : (s.update i).state = .opened ∨
    (s.update i).state = .receiving ∨ (s.update i).state = .sealed) :
    t.lockUpdate i = (t.modUpdate i fun u => { u with state := .failed, cause := .locked }).offerReport
      (reportUpdateEnd i (s.update i) .locked .locked ⟨0, 0⟩ s.lineTime) := by
  have ⟨_, lineTime⟩ := kept
  rw [← kept.update i] at transfer ⊢
  refine (if_pos transfer).trans ?_
  dsimp only
  rw [State.modUpdate_self, lineTime]
  rfl

theorem lockUpdate_left (kept : s.Transfers t) (none : ¬((s.update i).state = .opened ∨
    (s.update i).state = .receiving ∨ (s.update i).state = .sealed)) : t.lockUpdate i = t := by
  rw [← kept.update i] at none
  exact if_neg none

/-- The steps of a lock before the transfer of the oven: flag, cook and wait entry. -/
def State.locking (s : State) (i : OvenId) : State :=
  let a := s.modOven i fun e => { e with locked := true }
  State.dropWait (if (s.cook i).state = .idle then a else (a.cookGoIdle i .abortedLockout).putStop i) i .locked

theorem locking_transfers : s.Transfers (s.locking i) :=
  (State.Transfers.trans (t := s.modOven i fun e => { e with locked := true }) ⟨rfl, rfl⟩
    (State.stopCook_transfers _ i .abortedLockout)).trans (State.dropWait_transfers _ i .locked)

theorem lockOven_free (free : (s.oven i).locked = false) : s.lockOven i = (s.locking i).lockUpdate i :=
  if_neg (Bool.eq_false_iff.mp free)

/-! ### Searches of the Call Table (R93, R94, R101) -/

theorem freeNumber_free (free : ∀ p c, s.call p = some c → c.number ≠ n) : ∀ k, s.freeNumber k n = n
  | 0 => rfl
  | _ + 1 => if_neg fun carried => by
      obtain ⟨p, c, here, number⟩ := numberCarried_iff.mp carried
      exact free p c here number

theorem freeNumber_carries (here : s.call p = some c) (number : c.number = n) (k : Nat) :
    s.freeNumber (k + 1) n = s.freeNumber k (nextNumber n) :=
  if_pos (numberCarried_iff.mpr ⟨p, c, here, number⟩)

/-- The free position with none free below it is found (R93). -/
theorem lowestFree_of_lowest (free : s.call p = none) (below : ∀ q, q < p → (s.call q).isSome = true) :
    s.lowestFree = some p := by
  unfold State.lowestFree allPositions
  rw [List.find?_eq_some_iff_getElem]
  refine ⟨by simp [free], p.val, by simp, by simp, fun j hj => ?_⟩
  simpa using below ⟨j, by omega⟩ hj

/-- The newest lesser call is the last in the creation order with only LOCKOUT ones after it (R101). -/
theorem newestLesser_of_newest {before after : List (Fin 32)} (order : s.calls.order = before ++ p :: after)
    (here : s.call p = some c) (lesser : c.severity ≠ .lockout)
    (newer : ∀ q ∈ after, ∀ d, s.call q = some d → d.severity = .lockout) : s.newestLesser = some p := by
  unfold State.newestLesser
  rw [order, List.find?_eq_some_iff_append]
  refine ⟨by simpa [here] using lesser, after.reverse, before.reverse, by simp, fun q hq => ?_⟩
  cases there : s.call q with
  | none => rfl
  | some d => simp [newer q (List.mem_reverse.mp hq) d there]

theorem newestLesser_none (lockout : ∀ q, ∃ d, s.call q = some d ∧ d.severity = .lockout) : s.newestLesser = none := by
  unfold State.newestLesser
  rw [List.find?_eq_none]
  intro q _
  obtain ⟨d, there, severity⟩ := lockout q
  simp [there, severity]

/-! ### An occurrence by case (R97, R100, R101) -/

section
variable {sub : Option OvenId} {code : Nat} {sev : Severity} {kind : CallKind}

theorem raise_merges (law : MergingLaw s) (here : s.call p = some c) (unresolved : c.state ≠ .resolved)
    (sev : Severity) (kind : CallKind) : s.raise c.oven c.code sev kind = s.setCall p (some
      { c with occurrences := min 255 (c.occurrences + 1), lastSeen := s.lineTime,
               cleared := if c.kind = .condition then false else c.cleared }) := by
  rw [State.raise, findCall_of_unresolved law here unresolved]
  simp only [State.mergeCall, here]
  rfl

variable (fresh : ∀ p c, s.call p = some c → c.oven = sub → c.code = code → c.state = .resolved)
include fresh

theorem raise_creates (lesser : sev ≠ .lockout) (room : s.callsInUse < 28) (free : s.lowestFree = some p) :
    s.raise sub code sev kind = s.createCall p sub code sev kind := by
  rw [State.raise, findCall_none.mpr fresh]
  simp only [if_neg lesser, if_pos room, free]

theorem raise_lost (lesser : sev ≠ .lockout) (full : 28 ≤ s.callsInUse) : s.raise sub code sev kind = s.loseCall := by
  rw [State.raise, findCall_none.mpr fresh]
  simp only [if_neg lesser, if_neg (Nat.not_lt.mpr full)]

theorem raise_locks (lockout : sev = .lockout) (free : s.lowestFree = some p) :
    s.raise sub code sev kind = (s.createCall p sub code sev kind).lockSubject sub := by
  rw [State.raise, findCall_none.mpr fresh]
  simp only [if_pos lockout, free]

theorem raise_displaces (lockout : sev = .lockout) (full : s.lowestFree = none) (lesser : s.newestLesser = some p) :
    s.raise sub code sev kind = (((s.freeCall p).loseCall).createCall p sub code sev kind).lockSubject sub := by
  rw [State.raise, findCall_none.mpr fresh]
  simp only [if_pos lockout, full, lesser]

theorem raise_overflows (lockout : sev = .lockout) (full : s.lowestFree = none) (none : s.newestLesser = none) :
    s.raise sub code sev kind = ((s.overflowSubject sub).loseCall).lockSubject sub := by
  rw [State.raise, findCall_none.mpr fresh]
  simp only [if_pos lockout, full, none]

end

/-! ### The statement -/

/-- Settles O33: the lock by flag and transfer, the number search by what is carried, the occurrence by the searches
of the Call Table. -/
theorem occurrences : Obligations.Occurrences := by
  refine ⟨fun s => ⟨rfl, fun i => ⟨lockOven_locked, fun free transfer => ?_, fun free none => ?_⟩⟩,
    fun s k n => ⟨fun free => freeNumber_free free k, fun p c here number => freeNumber_carries here number k⟩,
    fun s sub code sev kind => ⟨fun p c law here unresolved oven code => ?_,
      fun p fresh lesser room ⟨free, below⟩ => ?_, fun fresh lesser full => raise_lost fresh lesser full,
      fun p fresh lockout ⟨free, below⟩ => ?_,
      fun p c before after fresh lockout full order here lesser newer => ?_,
      fun i fresh lockout oven all => ?_⟩⟩
  · exact (lockOven_free free).trans (lockUpdate_fails locking_transfers transfer)
  · exact (lockOven_free free).trans (lockUpdate_left locking_transfers none)
  · rw [← oven, ← code]
    exact raise_merges law here unresolved sev kind
  · exact raise_creates fresh lesser room (lowestFree_of_lowest free below)
  · exact raise_locks fresh lockout (lowestFree_of_lowest free below)
  · exact raise_displaces fresh lockout (lowestFree_none.mpr full) (newestLesser_of_newest order here lesser newer)
  · have full : ∀ q, (s.call q).isSome = true := fun q => by
      obtain ⟨d, there, -⟩ := all q
      rw [there]; rfl
    subst oven
    exact raise_overflows fresh lockout (lowestFree_none.mpr full) (newestLesser_none all)

end Sys2Proof.Machine
end

section
/-! SUPPORT. How SERVICE frames are built: which entry is next, what building one leaves, and how long building goes on
(R102, R104). -/

namespace Sys2Proof.Machine

variable {s : State} {p q : Fin 32} {c : Call}

/-! ### The entry that is next (R102) -/

/-- The severities, the most severe first. -/
abbrev severities : List Severity := [.lockout, .major, .minor, .info]

/-- The entry of a severity that has waited longest. -/
def State.longestWaiting (s : State) (sev : Severity) : Option (Fin 32) :=
  s.calls.reports.find? fun p => (s.call p).any fun c => c.severity == sev

theorem nextReport_eq (s : State) : s.nextReport = severities.findSome? s.longestWaiting := by
  unfold State.nextReport State.longestWaiting
  congr 1
  funext sev
  congr 1
  funext p
  cases s.call p <;> rfl

theorem longestWaiting_none {sev : Severity} : s.longestWaiting sev = none ↔
    ∀ q ∈ s.calls.reports, ∀ d, s.call q = some d → d.severity ≠ sev := by
  simp [State.longestWaiting, List.find?_eq_none, Option.any_eq_false]

theorem mem_severities (sev : Severity) : sev ∈ severities := by cases sev <;> decide

/-- Nothing is next exactly where no position on the report list holds a call. -/
theorem nextReport_none : s.nextReport = none ↔ ∀ p ∈ s.calls.reports, s.call p = none := by
  rw [nextReport_eq, List.findSome?_eq_none_iff]
  refine ⟨fun none p waits => ?_, fun empty sev _ => longestWaiting_none.mpr fun q waits d there => ?_⟩
  · cases here : s.call p with
    | none => rfl
    | some c => exact absurd rfl (longestWaiting_none.mp (none c.severity (mem_severities _)) p waits c here)
  · rw [empty q waits] at there
    cases there

/-- A severity that does not stand before another one is that one or less severe. -/
theorem severities_order {before after : List Severity} {x y : Severity} (split : severities = before ++ x :: after)
    (later : y ∉ before) : y = x ∨ x.code < y.code := by
  have sorted : severities.Pairwise fun a b => a.code < b.code := by decide
  have listed := mem_severities y
  rw [split] at sorted listed
  obtain ⟨-, fromX, -⟩ := List.pairwise_append.mp sorted
  obtain earlier | same | less := (List.mem_append.mp listed).imp_right List.mem_cons.mp
  · exact absurd earlier later
  · exact .inl same
  · exact .inr (List.rel_of_pairwise_cons fromX less)

/-- The most severe waiting call is next, and among those the one that has waited longest. -/
theorem nextReport_first (next : s.nextReport = some p) : ∃ c before after,
    s.calls.reports = before ++ p :: after ∧ s.call p = some c ∧
    (∀ q ∈ before, ∀ d, s.call q = some d → c.severity.code < d.severity.code) ∧
    ∀ q ∈ after, ∀ d, s.call q = some d → c.severity.code ≤ d.severity.code := by
  rw [nextReport_eq, List.findSome?_eq_some_iff] at next
  obtain ⟨severer, sev, _, split, longest, none⟩ := next
  obtain ⟨holds, before, after, reports, skipped⟩ := List.find?_eq_some_iff_append.mp longest
  obtain ⟨c, here, severity⟩ := (Option.any_eq_true _ _).mp holds
  have severity : c.severity = sev := beq_iff_eq.mp severity
  have unsevere : ∀ q ∈ s.calls.reports, ∀ d, s.call q = some d → d.severity = sev ∨ sev.code < d.severity.code :=
    fun q waits d there => severities_order split fun severe =>
      longestWaiting_none.mp (none _ severe) q waits d there rfl
  refine ⟨c, before, after, reports, here, fun q passed d there => ?_, fun q later d there => ?_⟩ <;> rw [severity]
  · have other : d.severity ≠ sev := by simpa [there] using skipped q passed
    exact (unsevere q (by simp [reports, passed]) d there).resolve_left other
  · obtain same | less := unsevere q (by simp [reports, later]) d there
    · rw [same]
    · exact less.le

/-! ### One SERVICE frame (R102, R104) -/

theorem reportCall_opened (here : s.call p = some c) (opened : c.state = .opened) : s.reportCall p =
    ((s.setCall p (some { c with state := .reported })).leaveReports p).pushUp (serviceFrame c .reported) := by
  simp only [State.reportCall, here, opened]

theorem reportCall_resolved (here : s.call p = some c) (resolved : c.state = .resolved) :
    s.reportCall p = (s.freeCall p).pushUp (serviceFrame c .resolved) := by
  simp only [State.reportCall, here, resolved]

/-- What is reported leaves the report list. -/
theorem reportCall_reports (s : State) (p : Fin 32) :
    (s.reportCall p).calls.reports = s.calls.reports.filter fun q => q != p := by
  unfold State.reportCall
  split
  · split <;> rfl
  · rfl

theorem reportCall_other (other : q ≠ p) : (s.reportCall p).call q = s.call q := by
  unfold State.reportCall
  split
  · split
    · exact State.setCall_other _ _ _ _ (Ne.symm other)
    · exact State.setCall_other _ _ _ _ (Ne.symm other)
    · rfl
  · rfl

theorem reportCall_shorter (waits : p ∈ s.calls.reports) :
    (s.reportCall p).calls.reports.length < s.calls.reports.length := by
  rw [reportCall_reports]
  exact List.length_filter_lt_length_iff_exists.mpr ⟨p, waits, by simp⟩

/-! ### Building while there is room (R102) -/

theorem buildServiceN_settled (settled : 32 ≤ s.up.frames.length ∨ s.nextReport = none) (n : Nat) :
    buildServiceN n s = s := by
  cases n with
  | zero => rfl
  | succ n =>
    unfold buildServiceN
    obtain full | none := settled
    · exact if_neg (by simpa [State.upRoom] using full)
    · rw [none]
      exact ite_id _

theorem buildServiceN_builds (room : s.up.frames.length < 32) (next : s.nextReport = some p) (n : Nat) :
    buildServiceN (n + 1) s = buildServiceN n (s.reportCall p) := by
  rw [buildServiceN, if_pos (by simpa [State.upRoom] using room), next]

/-- Either nothing is built, or the next entry is. -/
theorem settled_or_builds (s : State) : (32 ≤ s.up.frames.length ∨ s.nextReport = none) ∨
    ∃ p, s.up.frames.length < 32 ∧ s.nextReport = some p := by
  obtain full | room := le_or_gt 32 s.up.frames.length
  · exact .inl (.inl full)
  · cases next : s.nextReport with
    | none => exact .inl (.inr rfl)
    | some p => exact .inr ⟨p, room, rfl⟩

/-- One frame for each place on the report list is enough. -/
theorem buildServiceN_succ (n : Nat) : ∀ s : State, s.calls.reports.length ≤ n →
    buildServiceN (n + 1) s = buildServiceN n s := by
  induction n with
  | zero =>
    intro s short
    have empty : s.calls.reports = [] := List.length_eq_zero_iff.mp (Nat.le_zero.mp short)
    exact buildServiceN_settled (.inr (nextReport_none.mpr (by simp [empty]))) 1
  | succ n ih =>
    intro s short
    obtain settled | ⟨p, room, next⟩ := settled_or_builds s
    · rw [buildServiceN_settled settled, buildServiceN_settled settled]
    · obtain ⟨waits, -⟩ := nextReport_some next
      have shorter := reportCall_shorter waits
      rw [buildServiceN_builds room next, buildServiceN_builds room next, ih _ (by omega)]

theorem buildServiceN_enough {n : Nat} (enough : s.calls.reports.length ≤ n) : buildServiceN n s = s.buildService := by
  induction n, enough using Nat.le_induction with
  | base => rfl
  | succ n enough ih => rw [buildServiceN_succ n s enough, ih]

theorem buildService_settled (settled : 32 ≤ s.up.frames.length ∨ s.nextReport = none) : s.buildService = s :=
  buildServiceN_settled settled _

/-- Building goes on from the state each frame leaves. -/
theorem buildService_builds (room : s.up.frames.length < 32) (next : s.nextReport = some p) :
    s.buildService = (s.reportCall p).buildService := by
  obtain ⟨waits, -⟩ := nextReport_some next
  have shorter := reportCall_shorter waits
  obtain ⟨n, length⟩ : ∃ n, s.calls.reports.length = n + 1 := Nat.exists_eq_add_one.mpr (by omega)
  rw [State.buildService, length, buildServiceN_builds room next, buildServiceN_enough (by omega)]

/-- Building ends where the queue is full or no call waits. -/
theorem buildService_ends (held : ∀ p ∈ s.calls.reports, (s.call p).isSome = true) :
    32 ≤ s.buildService.up.frames.length ∨ s.buildService.calls.reports = [] := by
  induction length : s.calls.reports.length using Nat.strong_induction_on generalizing s with
  | _ n ih =>
    obtain settled | ⟨p, room, next⟩ := settled_or_builds s
    · rw [buildService_settled settled]
      refine settled.imp_right fun none => List.eq_nil_iff_forall_not_mem.mpr fun p waits => ?_
      simpa [nextReport_none.mp none p waits] using held p waits
    · obtain ⟨waits, -⟩ := nextReport_some next
      rw [buildService_builds room next]
      refine ih _ (length ▸ reportCall_shorter waits) (fun q stays => ?_) rfl
      rw [reportCall_reports, List.mem_filter, bne_iff_ne] at stays
      obtain ⟨waited, other⟩ := stays
      rw [reportCall_other other]
      exact held q waited

end Sys2Proof.Machine
end

section
/-! THEOREM. SERVICE frames (R102, R104): settles `Obligations.ServiceFrames`. -/

namespace Sys2Proof.Machine

theorem serviceBytes_eq (c : Call) (x : CallState) : serviceBytes c x = spells
    [(2, c.number), (1, (c.oven.map fun i => i.val + 1).getD 0), (1, c.code), (1, c.severity.code),
      (1, c.kind.code), (1, x.code), (1, if c.cleared then 1 else 0), (1, c.occurrences),
      (4, c.firstSeen.toNat), (4, c.lastSeen.toNat)] := by
  have oven : ovenCode c.oven = (c.oven.map fun i => i.val + 1).getD 0 := by cases c.oven <;> rfl
  simp only [serviceBytes, oven, spells_cons, spells_nil, beWord, beFlag_eq, List.append_nil, List.append_assoc]

/-- Settles O34: the frame's fields, the codes, and the building one frame at a time. -/
theorem serviceFrames : Obligations.ServiceFrames :=
  ⟨serviceBytes_eq, rfl, rfl, rfl, fun _ _ => ⟨rfl, rfl⟩, fun _ => ⟨buildService_ends, fun _ => buildService_builds,
    buildService_settled, nextReport_none, fun _ => nextReport_first, fun _ _ => reportCall_opened,
    fun _ _ => reportCall_resolved⟩⟩

end Sys2Proof.Machine
end

section
/-! SUPPORT. The law of one update context (R109), and the operations of the part that could break it: most leave the
update contexts as they are, and those that end, fail or advance a transfer keep the law of its context. -/

namespace Sys2Proof.Machine

variable {s t u : State} {i : OvenId}

theorem State.Transfers.updates_eq (h : s.Transfers t) : t.updates = s.updates := by
  obtain ⟨updates, -⟩ := h
  exact updates

/-! ### The law of one context -/

/-- Bytes passed stay within the image, and a SEALED or APPLYING context holds the whole image, checked (R109). -/
def UpdateCtx.Lawful (u : UpdateCtx) : Prop :=
  u.passed ≤ u.length ∧
    (u.state = .sealed ∨ u.state = .applying → u.passed = u.length ∧ ~~~u.crc = u.expectedCrc)

theorem updateLaw_iff (s : State) : UpdateLaw s ↔ ∀ i, (s.update i).Lawful := Iff.rfl

/-- A context that is given up owes no whole image. -/
theorem UpdateCtx.Lawful.ends {u v : UpdateCtx} (law : u.Lawful) (passed : v.passed = u.passed)
    (length : v.length = u.length) (ended : v.state = .idle ∨ v.state = .failed) : v.Lawful := by
  obtain ⟨within, -⟩ := law
  refine ⟨by rw [passed, length]; exact within, fun whole => ?_⟩
  rcases ended with ended | ended <;> simp [ended] at whole

/-! ### What an event keeps -/

/-- Every context that is lawful before is lawful after. -/
def State.Upholds (s t : State) : Prop := ∀ i, (s.update i).Lawful → (t.update i).Lawful

namespace State.Upholds

protected theorem refl : s.Upholds s := fun _ law => law

protected theorem trans (h : s.Upholds t) (h' : t.Upholds u) : s.Upholds u := fun i law => h' i (h i law)

theorem of_updates (h : t.updates = s.updates) : s.Upholds t := by
  intro i law
  rw [State.update, h]
  exact law

theorem of_transfers (h : s.Transfers t) : s.Upholds t := of_updates h.updates_eq

theorem of_tells (h : s.Tells t) : s.Upholds t := of_transfers (.of_tells h)

/-- One context is written, and stays lawful. -/
theorem modUpdate {g : UpdateCtx → UpdateCtx} (h : (s.update i).Lawful → (g (s.update i)).Lawful) :
    s.Upholds (s.modUpdate i g) := by
  intro j law
  by_cases same : j = i
  · subst same
    rw [modUpdate_self]
    exact h law
  · rw [modUpdate_other s i j g (Ne.symm same)]
    exact law

end State.Upholds

open State (Upholds)

namespace State

/-! ### Operations that leave the update contexts -/

section
variable (s : State) (i : OvenId)

theorem dropWait_updates (r : DropReason) : (s.dropWait i r).updates = s.updates :=
  (s.dropWait_transfers i r).updates_eq

@[simp] theorem admissionPass_updates : s.admissionPass.updates = s.updates :=
  s.admissionPass_transfers.updates_eq

@[simp] theorem clearAtSource_updates (sub : Option OvenId) (code : Nat) :
    (s.clearAtSource sub code).updates = s.updates :=
  (s.clearAtSource_transfers sub code).updates_eq

@[simp] theorem stopCook_updates (r : CookResult) : (s.stopCook i r).updates = s.updates :=
  (s.stopCook_transfers i r).updates_eq

@[simp] theorem cookGoIdle_updates (r : CookResult) : (s.cookGoIdle i r).updates = s.updates :=
  (s.cookGoIdle_transfers i r).updates_eq

@[simp] theorem buildService_updates : s.buildService.updates = s.updates :=
  (Transfers.of_tells buildService_tells).updates_eq

/-- An occurrence that is not LOCKOUT locks no oven (R97, R105). -/
theorem raise_updates {sub : Option OvenId} {code : Nat} {sev : Severity} {kind : CallKind} (h : sev ≠ .lockout) :
    (s.raise sub code sev kind).updates = s.updates :=
  (Transfers.of_tells (raise_tells sub code sev kind h)).updates_eq

@[simp] theorem setPresence_updates (p : Presence) (c : PresenceCause) :
    (s.setPresence i p c).updates = s.updates := offerReport_updates _ _

@[simp] theorem reloadWatch_updates : (s.reloadWatch i).updates = s.updates := by
  unfold reloadWatch
  split <;> rfl

@[simp] theorem startWatch_updates : (s.startWatch i).updates = s.updates := by
  unfold startWatch
  split <;> rfl

@[simp] theorem refreeze_updates : (s.refreeze i).updates = s.updates := by
  unfold refreeze
  split <;> rfl

@[simp] theorem bufferFreed_updates : s.bufferFreed.updates = s.updates := by
  unfold bufferFreed
  split
  · exact s.admissionPass_updates
  · rfl

@[simp] theorem relock_updates : (s.relock i).updates = s.updates := by
  obtain left | ⟨-, -, cleared⟩ := relock_cases (s := s) i
  · rw [left]
  · rw [cleared]; exact admissionPass_updates _

@[simp] theorem resolveCall_updates (p : Fin 32) (c : Call) : (s.resolveCall p c).updates = s.updates :=
  (relockFor_transfers _ c).updates_eq.trans (buildService_updates _)

@[simp] theorem clearCall_updates (p : Fin 32) : (s.clearCall p).updates = s.updates := by
  unfold clearCall
  split
  · split
    · rfl
    split
    · exact s.resolveCall_updates p _
    · rfl
  · rfl

@[simp] theorem acknowledge_updates (p : Fin 32) (c : Call) : (s.acknowledge p c).after.updates = s.updates := by
  unfold acknowledge
  dsimp only
  split
  · exact resolveCall_updates _ p c
  · rfl

@[simp] theorem returnFromSilent_updates (c : PresenceCause) : (s.returnFromSilent i c).updates = s.updates := by
  simp [returnFromSilent]

@[simp] theorem clearOnMatch_updates : (s.clearOnMatch i).updates = s.updates := by simp [clearOnMatch]

/-! ### Cleanings and cooks that leave the update contexts -/

@[simp] theorem giveSlot_updates : (s.giveSlot i).updates = s.updates := by
  unfold giveSlot
  split <;> rfl

@[simp] theorem endCleaning_updates (r : CleanResult) (by' : EndedBy) :
    (s.endCleaning i r by').updates = s.updates := by
  unfold endCleaning
  extract_lets s1 s2 s3 s4
  have given : s1.updates = s.updates := s.giveSlot_updates i
  have cleared : s2.updates = s1.updates := clearAtSource_updates _ _ _
  have reported : s3.updates = s2.updates := offerReport_updates _ _
  have faulted : s4.updates = s3.updates := by
    unfold s4
    split
    · exact s3.raise_updates (by decide)
    · rfl
  exact (admissionPass_updates _).trans (faulted.trans (reported.trans (cleared.trans given)))

@[simp] theorem adopt_updates : (s.adopt i).updates = s.updates := dropWait_updates _ i _

theorem requestCleaning_updates (p : Programme) (seq : Byte) :
    (s.requestCleaning i p seq).after.updates = s.updates := by
  unfold requestCleaning
  repeat' split
  · rfl
  · exact offerReport_updates _ _
  · rfl
  · rfl

theorem cancelCleaning_updates (f : StoreFrame) : (s.cancelCleaning i f).after.updates = s.updates := by
  unfold cancelCleaning
  repeat' split
  all_goals rfl

theorem advanceCook_updates : (s.advanceCook i).updates = s.updates := by
  unfold advanceCook
  dsimp only
  split <;> rfl

theorem acceptCook_updates (r : Fin 512) (v : LiveVersion) (origin : Origin) (batch : BitVec 16) :
    (s.acceptCook i r v origin batch).updates = s.updates := by
  unfold acceptCook
  extract_lets s1 s2 s3
  have dropped : s1.updates = s.updates := (modOven_updates _ i _).trans (s.dropWait_updates i _)
  have begun : s3.updates = s1.updates := (modCook_updates s2 i _).trans (modRecipe_updates s1 r _)
  exact (setSlot_updates s3 i _).trans (begun.trans dropped)

theorem startCook_updates (r : Fin 512) (origin : Origin) (batch : BitVec 16) :
    (s.startCook i r origin batch).after.updates = s.updates := by
  unfold startCook
  split
  · rfl
  · split
    · exact s.acceptCook_updates i r _ _ _
    · rfl

theorem panelRefused_updates (recipe : Nat) (reason : Result) :
    (s.panelRefused i recipe reason).updates = s.updates := by
  unfold panelRefused
  dsimp only
  split
  · exact offerReport_updates _ _
  · exact offerReport_updates _ _

theorem panelStart_updates (recipe : Nat) : (s.panelStart i recipe).updates = s.updates := by
  unfold panelStart
  split
  · exact s.panelRefused_updates i _ _
  · split
    · exact s.panelRefused_updates i _ _
    · exact (offerReport_updates _ _).trans (s.acceptCook_updates i _ _ _ _)
    · exact s.panelRefused_updates i _ _

theorem stepAck_updates (index : Nat) : (s.stepAck i index).updates = s.updates := by
  unfold stepAck
  split
  · split
    · exact clearAtSource_updates _ _ _
    · exact clearAtSource_updates _ _ _
    · exact (clearAtSource_updates _ _ _).trans (cookGoIdle_updates _ i _)
    · rfl
    · rfl
  · rfl

theorem ackLost_updates : (s.ackLost i).updates = s.updates := by
  unfold ackLost
  split
  · exact s.stopCook_updates i _
  · exact s.stopCook_updates i _
  · exact s.cookGoIdle_updates i _
  · rfl
  · rfl

theorem watchExpires_updates : (s.watchExpires i).updates = s.updates := by
  unfold watchExpires
  extract_lets s1 s2
  have silenced : s2.updates = s1.updates := by
    unfold s2
    split
    · exact s1.setPresence_updates i _ _
    · rfl
  exact (stopCook_updates _ i _).trans ((raise_updates _ (by decide)).trans
    (silenced.trans (s.reloadWatch_updates i)))

end
end State
end Sys2Proof.Machine
end

section
/-! PROOFS. Every command keeps the law of the update contexts (R109): locks, ended applies, retirement, the UPDATE
frames and the clock write contexts, a reset gives empty ones, and every other operation leaves them. -/

namespace Sys2Proof.Machine

variable {s t : State} {i : OvenId}

open State (Upholds)

/-! ### A lock, an occurrence, the end of an apply (R97, R106, R119) -/

namespace State

theorem lockUpdate_upholds (s : State) (i : OvenId) : s.Upholds (s.lockUpdate i) := by
  unfold lockUpdate
  split
  · exact .trans (.modUpdate fun law => law.ends rfl rfl (.inr rfl)) (.of_updates (offerReport_updates _ _))
  · exact .refl

theorem lockOven_upholds (s : State) (i : OvenId) : s.Upholds (s.lockOven i) := by
  unfold lockOven
  split
  · exact .refl
  · refine .trans (.of_updates ?_) (lockUpdate_upholds _ i)
    exact (dropWait_updates _ i _).trans (stopCook_updates (s.modOven i fun e => { e with locked := true }) i _)

theorem lockSubject_upholds (s : State) (sub : Option OvenId) : s.Upholds (s.lockSubject sub) := by
  cases sub with
  | none => exact .refl
  | some i => exact s.lockOven_upholds i

theorem overflowSubject_updates (s : State) (sub : Option OvenId) : (s.overflowSubject sub).updates = s.updates := by
  cases sub <;> rfl

theorem raise_upholds (s : State) (sub : Option OvenId) (code : Nat) (sev : Severity) (kind : CallKind) :
    s.Upholds (s.raise sub code sev kind) := by
  obtain ⟨p, c, -, -, merged⟩ | ⟨-, ⟨-, lost⟩ | ⟨p, -, -, -, created⟩ | ⟨p, -, -, locking⟩ |
    ⟨p, -, -, -, displacing⟩ | ⟨-, -, -, overflowing⟩⟩ := raise_cases (s := s) sub code sev kind
  · rw [merged]; exact .of_tells (mergeCall_tells p)
  · rw [lost]; exact .refl
  · rw [created]; exact .of_tells (createCall_tells ..)
  · rw [locking]; exact .trans (.of_tells (createCall_tells ..)) (lockSubject_upholds _ sub)
  · rw [displacing]
    exact .trans (.of_tells (s := (s.freeCall p).loseCall) (createCall_tells ..)) (lockSubject_upholds _ sub)
  · have lost : s.Upholds (s.overflowSubject sub).loseCall := .of_updates (s.overflowSubject_updates sub)
    rw [overflowing]
    exact lost.trans (lockSubject_upholds _ sub)

theorem endApply_upholds (s : State) (i : OvenId) (cause : FailCause) (announced : Version) :
    s.Upholds (s.endApply i cause announced) := by
  unfold endApply
  extract_lets failed s1 s2 s3 s4
  have ended : s.Upholds s1 := .modUpdate fun law => law.ends rfl rfl (by cases failed <;> simp)
  have raised : s2.Upholds s3 := by
    unfold s3
    split
    · exact s2.raise_upholds _ _ _ _
    · exact .refl
  have reported : s3.Upholds s4 := .of_updates (offerReport_updates _ _)
  have released : s1.Upholds s2 := .of_transfers (s1.releaseOccupancy_transfers i _)
  exact (ended.trans (released.trans (raised.trans reported))).trans (.of_updates (by simp))

/-! ### Samples, reconciliation, the HELLO (R4 to R10, R60 to R75) -/

theorem raiseIf_upholds (s : State) (i : OvenId) (code : Nat) (sev : Option Severity) :
    s.Upholds (s.raiseIf i code sev) := by
  cases sev with
  | none => exact .refl
  | some sev => exact s.raise_upholds _ _ _ _

theorem applyVerdict_updates (s : State) (i : OvenId) (v : Verdict) : (s.applyVerdict i v).updates = s.updates := by
  cases v with
  | goOn => rfl
  | complete => exact s.advanceCook_updates i
  | abort r => exact s.stopCook_updates i r

theorem watchSample_upholds (s : State) (i : OvenId) (x : Sample) : s.Upholds (s.watchSample i x) := by
  unfold watchSample
  extract_lets c p o clamped s1 s2 s3 s4
  have cleared : s1.Upholds s2 := by
    unfold s2
    split
    · exact .of_updates (clearAtSource_updates _ _ _)
    · exact .refl
  have missing : s2.Upholds s3 := by
    unfold s3
    split
    · exact s2.raise_upholds _ _ _ _
    · exact .refl
  have raised : s3.Upholds s4 := (s3.raiseIf_upholds i _ _).trans (raiseIf_upholds _ i _ _)
  exact ((show s.Upholds s1 from .refl).trans (cleared.trans (missing.trans raised))).trans
    (.of_updates (s4.applyVerdict_updates i _))

theorem reconcile_upholds (s : State) (i : OvenId) (a : Announced) : s.Upholds (s.reconcile i a) := by
  have applies : s.Upholds (s.reconcileApply i a) := by
    unfold reconcileApply
    split
    · exact s.endApply_upholds i _ _
    · exact .refl
  have cooks : ∀ t : State, t.Upholds (t.reconcileCook i a) := by
    intro t
    unfold reconcileCook
    split
    · exact .trans (.of_updates (t.stopCook_updates i _)) (raise_upholds _ _ _ _ _)
    split
    · exact raise_upholds (t.putStop i) _ _ _ _
    · exact .refl
  have cleans : ∀ t : State, (t.reconcileClean i a).updates = t.updates := by
    intro t
    unfold reconcileClean
    split
    · exact t.adopt_updates i
    · rfl
    · exact t.endCleaning_updates i _ _
    · rfl
  exact (applies.trans (cooks _)).trans (.of_updates (cleans _))

theorem helloMismatch_upholds (s : State) (i : OvenId) (a : Announced) : s.Upholds (s.helloMismatch i a) := by
  unfold helloMismatch
  extract_lets wasSilent s1 s2 s3
  have demoted : s.Upholds s1 := .of_updates (s.setPresence_updates i _ _)
  have cleared : s1.Upholds s2 := by
    unfold s2
    split
    · exact .of_updates (clearAtSource_updates _ _ _)
    · exact .refl
  have ended : s2.Upholds s3 := by
    unfold s3
    split
    · exact s2.endApply_upholds i _ _
    · exact .refl
  exact (demoted.trans (cleared.trans ended)).trans (s3.raise_upholds _ _ _ _)

theorem helloOwner_upholds (s : State) (i : OvenId) (a : Announced) : s.Upholds (s.helloOwner i a) := by
  unfold helloOwner
  split
  · exact .of_updates (s.setPresence_updates i _ _)
  · exact .refl
  · split
    · exact .trans (.of_updates (by simp)) (reconcile_upholds _ i a)
    · exact s.raise_upholds _ _ _ _
  · split
    · exact .trans (.of_updates (by simp)) (reconcile_upholds _ i a)
    · exact s.helloMismatch_upholds i a
  · exact s.helloMismatch_upholds i a

theorem countReceived_updates (s : State) (i : OvenId) : (s.countReceived i).updates = s.updates := rfl

theorem takeHello_upholds (s : State) (i : OvenId) (a : Announced) (k : KFrame) : s.Upholds (s.takeHello i a k) := by
  unfold takeHello
  extract_lets s1 s2
  have returned : s1.Upholds s2 := by
    unfold s2
    split
    · exact .of_updates (s1.returnFromSilent_updates i _)
    · exact .refl
  have announced : s.Upholds s1 := .of_updates (s.modOven_updates i _)
  have copied : s2.Upholds (s2.offerForward i k) := .of_updates (offerForward_updates _ _ i)
  have owned : s.Upholds ((s2.offerForward i k).helloOwner i a) :=
    (announced.trans (returned.trans copied)).trans (helloOwner_upholds _ i a)
  exact owned.trans (.of_updates (countReceived_updates _ i))

theorem helloArrives_upholds (s : State) (i : OvenId) (f : UpFrame) : s.Upholds (s.helloArrives i f) := by
  unfold helloArrives
  split
  · exact s.takeHello_upholds i _ _
  · split <;> exact .refl

/-! ### Commissioning, retirement, service mode (R15, R17, R131, R133) -/

theorem commission_upholds (s : State) (i : OvenId) (r : CommRecord) : s.Upholds (s.commission i r) := by
  unfold commission
  dsimp only
  split
  · split
    · exact .trans (.of_updates (by simp)) (reconcile_upholds _ i _)
    · exact .of_updates (setPresence_updates _ i _ _)
  · exact .of_updates (setPresence_updates _ i _ _)

theorem retireUpdate_upholds (s : State) (i : OvenId) : s.Upholds (s.retireUpdate i) := by
  unfold retireUpdate
  split
  · exact .refl
  · exact .trans (.modUpdate fun law => law.ends rfl rfl (.inl rfl)) (.of_updates (offerReport_updates _ _))

theorem purge_updates (s : State) (i : OvenId) : (s.purge i).updates = s.updates := by
  unfold purge
  dsimp only
  split
  · exact bufferFreed_updates _
  · rfl

theorem retireCalls_updates (s : State) (i : OvenId) : (s.retireCalls i).updates = s.updates := by
  have one : ∀ (t : State) (p : Fin 32), (t.retireCall i p).updates = t.updates := by
    intro t p
    unfold retireCall
    split
    · split <;> rfl
    · rfl
  have walk : ∀ (l : List (Fin 32)) (t : State), (l.foldl (fun t p => t.retireCall i p) t).updates = t.updates := by
    intro l
    induction l with
    | nil => exact fun _ => rfl
    | cons p rest ih => exact fun t => (ih _).trans (one t p)
  exact (buildService_updates _).trans (walk _ _)

/-- The context goes IDLE before its chunks are purged. -/
theorem retire_upholds (s : State) (i : OvenId) : s.Upholds (s.retire i) := by
  unfold retire
  extract_lets s1 s2 s3 s4 s5 s6
  have ended : s.Upholds s2 := .trans (.of_updates (s.dropWait_updates i _)) (s1.retireUpdate_upholds i)
  have purged : s2.Upholds s3 := by
    clear_value s2
    have emptied : s2.Upholds (s2.modUpdate i fun u => { u with queued := 0 }) := .modUpdate id
    exact emptied.trans (.of_updates (purge_updates _ i))
  have resolved : s3.Upholds s4 := .of_updates (s3.retireCalls_updates i)
  have unlocked : s4.Upholds s5 :=
    .of_updates ((relock_updates _ i).trans (s4.setOverflow_updates i false))
  have vacated : s5.Upholds s6 := .of_updates (s5.setPresence_updates i _ _)
  have left : s.Upholds s6 := ended.trans (purged.trans (resolved.trans (unlocked.trans vacated)))
  clear_value s6
  exact left.trans (.of_updates rfl)

theorem enterService_updates (s : State) (i : OvenId) : (s.enterService i).updates = s.updates := by
  simp [enterService]

theorem leaveService_updates (s : State) (i : OvenId) : (s.leaveService i).updates = s.updates := by
  simp [leaveService]

theorem serviceKey_updates (s : State) (i : OvenId) (key : Nat) : (s.serviceKey i key).updates = s.updates := by
  unfold serviceKey
  split
  · split
    · rfl
    split
    · rfl
    · exact s.enterService_updates i
  · split
    · exact s.leaveService_updates i
    · rfl
  · rfl

theorem takeFault_upholds (s : State) (i : OvenId) (code : Nat) : s.Upholds (s.takeFault i code) := by
  unfold takeFault
  split
  · exact s.raise_upholds _ _ _ _
  · exact .refl

theorem takeFaultClear_updates (s : State) (i : OvenId) (code : Nat) :
    (s.takeFaultClear i code).updates = s.updates := by
  unfold takeFaultClear
  split
  · split
    · exact s.clearCall_updates _
    · rfl
  · rfl

/-! ### UPDATE frames (R111 to R121) -/

theorem absorb_state {u : UpdateCtx} (taken : u.transferring = true) (data : List Byte) :
    (u.absorb data).state = .receiving := by
  rcases transferring_iff.mp taken with state | state <;> simp [UpdateCtx.absorb, state]

/-- A chunk within the image keeps bytes passed within it, and the transfer goes on. -/
theorem absorb_lawful {u : UpdateCtx} {data : List Byte} (taken : u.transferring = true)
    (inside : u.passed + data.length ≤ u.length) : (u.absorb data).Lawful :=
  ⟨inside, fun whole => by simp [absorb_state taken] at whole⟩

/-- A chunk that is taken starts at bytes passed and lies within the image. -/
theorem takeChunk_upholds (s : State) (i : OvenId) (f : StoreFrame) (offset : Nat) (data : List Byte) :
    s.Upholds (s.takeChunk i f offset data).after := by
  unfold takeChunk
  extract_lets u
  split
  · exact .refl
  rename_i transferring
  split
  · exact .modUpdate id
  rename_i notBehind
  split
  · exact .refl
  rename_i notAhead
  split
  · exact .refl
  rename_i notBeyond
  split
  · exact .refl
  split
  · exact .refl
  have taken : u.transferring = true := by simpa using transferring
  have inside : u.passed + data.length ≤ u.length := by omega
  exact .modUpdate (s := s.forwardUpdate 3 tagChunk i f) fun _ => absorb_lawful taken inside

theorem checks_iff {u : UpdateCtx} : u.checks = true ↔ u.passed = u.length ∧ ~~~u.crc = u.expectedCrc := by
  simp [UpdateCtx.checks]

/-- A transfer is sealed after its check agrees. -/
theorem sealUpdate_upholds (s : State) (i : OvenId) (f : StoreFrame) : s.Upholds (s.sealUpdate i f).after := by
  unfold sealUpdate
  extract_lets u
  split
  · exact .refl
  split
  · exact .modUpdate fun law => law.ends rfl rfl (.inr rfl)
  rename_i checked
  have whole := checks_iff.mp (by simpa using checked)
  split
  · exact .refl
  split
  · exact .refl
  · exact .modUpdate (g := fun x => { x with state := .sealed }) fun ⟨within, _⟩ => ⟨within, fun _ => whole⟩

theorem abortUpdate_upholds (s : State) (i : OvenId) (f : StoreFrame) : s.Upholds (s.abortUpdate i f).after := by
  unfold abortUpdate
  split
  · exact .refl
  split
  · exact .refl
  · exact .modUpdate (g := fun x => { x with state := .idle }) fun law => law.ends rfl rfl (.inl rfl)

theorem applyRefusal_sealed (h : s.applyRefusal i = none) : (s.update i).state = .sealed := by
  rw [applyRefusal, refusal_none_iff] at h
  obtain ⟨state, -⟩ := h
  simpa using state

/-- An apply begins on a SEALED context. -/
theorem beginApply_upholds (h : (s.update i).state = .sealed) (f : StoreFrame) : s.Upholds (s.beginApply i f) := by
  unfold beginApply
  extract_lets s1
  have begun : s.Upholds s1 := .modUpdate (s := s.setOccupancy i .applying) fun ⟨within, whole⟩ =>
    ⟨within, fun _ => whole (.inl h)⟩
  exact begun.trans (.of_updates (s1.refreeze_updates i))

/-! ### Class frames that leave, the receiver, the clock (R107, R124, R144, R151) -/

/-- A chunk that has left counts down the queued ones alone. -/
theorem frameLeft_upholds (s : State) (f : DownFrame) : s.Upholds (s.frameLeft f) := by
  unfold frameLeft
  split
  · exact .refl
  split
  · exact .refl
  split
  · exact .modUpdate id
  split
  · split <;> exact .refl
  · exact .refl

theorem leaveClass_upholds (s : State) (k : Fin 4) : s.Upholds (s.leaveClass k) := by
  unfold leaveClass
  split
  · exact .refl
  · rename_i h rest _
    have left := frameLeft_upholds { s with down := { s.down with classes := s.down.classes.set k rest } } h
    exact left.trans (.of_updates (bufferFreed_updates _))

theorem lineError_updates (s : State) : s.lineError.updates = s.updates := by
  unfold lineError
  dsimp only
  split
  · exact raise_updates { s with calls := { s.calls with window := { s.calls.window with
      count := sat16 s.calls.window.count } } } (by decide)
  · rfl

theorem countLineCrc_updates (s : State) : s.countLineCrc.updates = s.updates := lineError_updates _

theorem wholeFrame_updates (s : State) : s.wholeFrame.updates = s.updates := by
  have gap : s.lineGap.updates = s.updates := by
    unfold lineGap
    dsimp only
    split
    · rfl
    · rfl
    · exact countLineCrc_updates _
  exact gap

theorem wholeArrives_updates (s : State) (got : List Byte) (good : Bool) :
    (s.wholeArrives got good).updates = s.updates := by
  unfold wholeArrives
  split
  · rfl
  split
  · exact s.countLineCrc_updates
  split
  · rfl
  split
  · rfl
  split <;> rfl

theorem lineEvent_updates (s : State) (e : LineEvent) : (s.lineEvent e).updates = s.updates := by
  have took : ∀ (t : State) (o : RxOut), (t.takeRx o).updates = t.updates := by
    intro t o
    cases o with
    | nothing => rfl
    | broken marked =>
      cases marked with
      | false => rfl
      | true => exact t.countLineCrc_updates
    | whole got good => exact t.wholeArrives_updates got good
  exact took { s with lineRx := (s.lineRx.step e).1 } _

/-- A second of line time moves the apply timer alone. -/
theorem second_upholds (s : State) : s.Upholds s.second := by
  intro i law
  have at' : s.second.update i = UpdateCtx.second (s.lineTime + 1) (s.update i) := by simp [second, update]
  rw [at']
  exact law

/-- Every context is empty after a reset. -/
theorem restart_upholds (s : State) (c : ResetCause) : s.Upholds (s.restart c) := by
  intro i _
  have empty : (s.restart c).update i = UpdateCtx.reset := by simp [restart, reset, update]
  rw [empty]
  exact ⟨Nat.le_refl _, fun whole => by simp [UpdateCtx.reset] at whole⟩

end State
end Sys2Proof.Machine
end

section
/-! PROOFS. Every step keeps the law of the update contexts (R109): the ways of a frame, command by command. -/

namespace Sys2Proof.Machine

open State (Upholds)

variable {s : State}

/-! ### The ways of a frame -/

theorem Answered.finish_updates (a : Answered) (r : ReplyTo) : (a.finish r).updates = a.after.updates := by
  unfold Answered.finish
  split
  · exact State.offerReply_updates _ _
  · rfl

section
variable {f : StoreFrame} {u : UpFrame}

theorem owned_upholds {cls : Byte} {act : State → Answered} (h : s.Upholds (act s).after) :
    s.Upholds (s.owned cls f act) :=
  arriveStore_induct (fun t => s.Upholds t) .refl .refl .refl (h.trans (.of_updates (Answered.finish_updates _ _)))

theorem control_upholds {g : Gate} {act : State → Answered} (h : ∀ t : State, t.Upholds (act t).after) :
    s.Upholds (s.control g f act) :=
  control_induct (fun t => s.Upholds t) .refl .refl .refl
    (fun _ => .of_updates (State.offerReply_updates (s.fromGateway f) _))
    ((h (s.fromGateway f)).trans (.of_updates (Answered.finish_updates _ _)))

theorem forAddress_upholds {act : OvenId → Answered} (h : ∀ i, s.Upholds (act i).after) :
    s.Upholds (s.forAddress f act).after := by
  unfold State.forAddress
  split
  · exact h _
  · exact .refl

theorem forRecipe_upholds {act : Fin 512 → Answered} (h : ∀ r, s.Upholds (act r).after) :
    s.Upholds (s.forRecipe f act).after := by
  unfold State.forRecipe
  split
  · exact h _
  · exact .refl

theorem forOven_upholds {tag : BitVec 16} {ok : Bool} {act : OvenId → Answered}
    (h : ∀ i, s.Upholds (act i).after) : s.Upholds (s.forOven f tag ok act).after := by
  unfold State.forOven
  split
  · exact .refl
  split
  · exact h _
  · exact .refl

theorem arriveUp_upholds {cls : Byte} {tag : BitVec 16} {act : OvenId → State → State}
    (h : ∀ (i : OvenId) (t : State), t.Upholds (act i t)) : s.Upholds (s.arriveUp cls tag u act) := by
  have whole : s.Upholds s.wholeFrame := .of_updates s.wholeFrame_updates
  exact arriveUp_induct (fun t => s.Upholds t) whole whole whole whole fun i => whole.trans (h i _)

/-- A frame is counted, or its owner acts after the oven's return and the copy (R3, R10, R137). -/
theorem dispatchUp_upholds {i : OvenId} {forward owner : State → State}
    (hf : ∀ t, (forward t).updates = t.updates) (ho : ∀ t : State, t.Upholds (owner t)) :
    s.Upholds (s.dispatchUp i forward owner) := by
  have heard : ∀ t : State, t.Upholds (owner (forward ((t.reloadWatch i).countReceived i))) := by
    intro t
    have copied : (forward ((t.reloadWatch i).countReceived i)).updates = t.updates :=
      (hf _).trans (t.reloadWatch_updates i)
    exact .trans (.of_updates copied) (ho _)
  unfold State.dispatchUp
  split
  · exact .refl
  · exact .refl
  · exact .refl
  · exact heard s
  · exact .trans (.of_updates (s.returnFromSilent_updates i _)) (heard _)

theorem takeNotice_upholds {tag : BitVec 16} {owner : OvenId → State → State}
    (h : ∀ (i : OvenId) (t : State), t.Upholds (owner i t)) : s.Upholds (s.takeNotice tag u owner) :=
  arriveUp_upholds fun i _ => dispatchUp_upholds (fun t => by split <;> simp) (h i)

end

/-! ### Events without a kitchen frame -/

section
variable (s : State) (i : OvenId)

theorem doReady_upholds : s.Upholds (doReady s) := by
  unfold doReady
  split
  · extract_lets s1 s2 s3
    have restored : s.Upholds s1 := by
      unfold s1 State.restore
      split <;> exact .refl
    have started : s1.Upholds s2 := .of_updates (State.offerReport_updates _ _)
    have raised : s2.Upholds s3 := by
      unfold s3
      split
      · exact s2.raise_upholds _ _ _ _
      · exact .refl
    exact restored.trans (started.trans raised)
  · exact .refl

theorem doStartUpDiscard_upholds (l : Link) : s.Upholds (doStartUpDiscard l s) := by
  unfold doStartUpDiscard
  split
  · cases l with
    | store => exact .refl
    | ovenLine => exact .of_updates s.wholeFrame_updates
  · exact .refl

theorem doWatchTick_upholds : s.Upholds (doWatchTick s) := by
  unfold doWatchTick
  extract_lets ticked
  split
  · exact .refl
  · exact .trans (t := ticked) .refl ticked.second_upholds

theorem doSilenceWatchExpiry_upholds : s.Upholds (doSilenceWatchExpiry i s) := by
  unfold doSilenceWatchExpiry
  split
  · exact .of_updates (s.watchExpires_updates i)
  · exact .refl

theorem doAckTimerExpiry_upholds : s.Upholds (doAckTimerExpiry i s) := by
  unfold doAckTimerExpiry
  split
  · exact .trans (State.raise_upholds (s.setSlot i SlotState.reset) _ _ _ _) (.of_updates (State.ackLost_updates _ i))
  · exact .refl

theorem doOvertimeExpiry_upholds : s.Upholds (doOvertimeExpiry i s) := by
  unfold doOvertimeExpiry
  split
  · exact State.raise_upholds (s.modCleanRecord i _) _ _ _ _
  · exact .refl

theorem doApplyTimerExpiry_upholds : s.Upholds (doApplyTimerExpiry i s) := by
  unfold doApplyTimerExpiry
  split
  · exact s.endApply_upholds i _ _
  · exact .refl

theorem doLineErrorWindowClose_updates : (doLineErrorWindowClose s).updates = s.updates := by
  unfold doLineErrorWindowClose
  split
  · dsimp only
    split
    · exact s.clearAtSource_updates _ _
    · rfl
  · rfl

theorem doTableClearCompletion_updates : (doTableClearCompletion s).updates = s.updates := by
  unfold doTableClearCompletion
  split
  · exact State.offerReply_updates _ _
  · rfl

theorem doSaveEnd_updates : (doSaveEnd s).updates = s.updates := by
  unfold doSaveEnd
  split
  · exact State.offerReply_updates _ _
  · rfl

theorem doSoftResetTenthTick_upholds : s.Upholds (doSoftResetTenthTick s) := by
  unfold doSoftResetTenthTick
  split
  · exact s.restart_upholds _
  · exact .refl

theorem doStoreFrameDropped_updates (e : EthFrame) : (doStoreFrameDropped e s).updates = s.updates := by
  unfold doStoreFrameDropped
  split
  · rfl
  · split <;> rfl
  · rfl
  · rfl

theorem doStoreClassifierDiscard_updates (e : EthFrame) : (doStoreClassifierDiscard e s).updates = s.updates := by
  have classified : ∀ p, (s.classify p).updates = s.updates := by
    intro p
    unfold State.classify
    repeat' split
    all_goals rfl
  unfold doStoreClassifierDiscard
  split
  · split
    · rfl
    · exact classified _
  · rfl

theorem doPauseFrame_updates (dest : EthAddr) (quanta : BitVec 16) :
    (doPauseFrame dest quanta s).updates = s.updates := by
  unfold doPauseFrame
  split
  · rfl
  split <;> rfl

/-- The receiver takes the events one by one. -/
theorem doLineFrameDiscard_updates (events : List LineEvent) : (doLineFrameDiscard events s).updates = s.updates := by
  unfold doLineFrameDiscard
  induction events generalizing s with
  | nil => rfl
  | cons e rest ih => exact (ih _).trans (s.lineEvent_updates e)

theorem doLineTransmitterTake_updates : (doLineTransmitterTake s).updates = s.updates := by
  obtain ⟨source, k, -, -, taken⟩ | ⟨-, left⟩ := lineTransmitterTake_cases (s := s)
  · rw [taken]
    cases source <;> rfl
  · rw [left]

theorem doTransmissionEnd_upholds : s.Upholds (doTransmissionEnd s) := by
  unfold doTransmissionEnd
  split
  · exact .refl
  · dsimp only
    split
    · exact State.leaveClass_upholds { s with down := { s.down with tx := none } } _
    · exact .refl
    · exact .refl

theorem doStoreLinkSend_updates : (doStoreLinkSend s).updates = s.updates := by
  unfold doStoreLinkSend
  split
  · split <;> rfl
  · rfl

theorem doStoreLinkTransmissionEnd_upholds : s.Upholds (doStoreLinkTransmissionEnd s) := by
  unfold doStoreLinkTransmissionEnd
  split
  · split
    · exact s.restart_upholds _
    · exact .of_updates (State.buildService_updates _)
  · exact .refl

end

/-! ### Requests for the part, its ovens and its tables -/

section
variable (s : State) (f : StoreFrame)

theorem doConfigWrite_upholds : s.Upholds (doConfigWrite f s) :=
  control_upholds fun t => by
    split
    · exact .refl
    · dsimp only
      split
      · exact .of_updates (State.admissionPass_updates _)
      · exact .refl

theorem doConfigRead_upholds : s.Upholds (doConfigRead f s) :=
  control_upholds fun t => by
    repeat' split
    all_goals exact .refl

theorem doDaypartSet_upholds : s.Upholds (doDaypartSet f s) :=
  control_upholds fun t => by
    split
    · exact .refl
    · exact .of_updates (State.admissionPass_updates _)

theorem doSoftReset_upholds : s.Upholds (doSoftReset f s) := by
  refine control_upholds fun t => ?_
  split
  · exact .of_updates (State.offerReply_updates t _)
  · exact t.restart_upholds _

theorem doSave_upholds : s.Upholds (doSave f s) :=
  control_upholds fun t => by
    split
    · exact t.raise_upholds _ _ _ _
    · exact .refl

theorem doOvenCommission_upholds : s.Upholds (doOvenCommission f s) :=
  control_upholds fun t => forAddress_upholds fun i => by
    dsimp only
    split
    · exact .refl
    split
    · exact .refl
    split
    · exact .refl
    · exact t.commission_upholds i _

theorem doOvenRetire_upholds : s.Upholds (doOvenRetire f s) :=
  control_upholds fun t => forAddress_upholds fun i => by
    split
    · exact .refl
    split
    · exact .refl
    · exact t.retire_upholds i

theorem doOvenSet_upholds : s.Upholds (doOvenSet f s) :=
  control_upholds fun t => forAddress_upholds fun i => by split <;> exact .refl

theorem doServiceEnter_upholds : s.Upholds (doServiceEnter f s) :=
  control_upholds fun t => forAddress_upholds fun i => by
    split
    · exact .refl
    split
    · exact .refl
    split
    · exact .refl
    · exact .of_updates (t.enterService_updates i)

theorem doServiceLeave_upholds : s.Upholds (doServiceLeave f s) :=
  control_upholds fun t => forAddress_upholds fun i => by
    split
    · exact .of_updates (t.leaveService_updates i)
    · exact .refl

theorem doWatchReload_upholds : s.Upholds (doWatchReload f s) :=
  control_upholds fun t => forAddress_upholds fun i => by
    split
    · exact .of_updates (t.reloadWatch_updates i)
    · exact .refl

theorem doMapStage_upholds : s.Upholds (doMapStage f s) :=
  control_upholds fun t => forRecipe_upholds fun r => by
    dsimp only
    split
    · exact .refl
    split
    · exact .refl
    split <;> exact .refl

theorem retireLive_updates (r : Fin 512) : (s.retireLive r).updates = s.updates := by
  unfold State.retireLive
  repeat' split
  all_goals rfl

theorem doRelease_upholds : s.Upholds (doRelease f s) :=
  control_upholds fun t => forRecipe_upholds fun r => by
    split
    · exact .refl
    split
    · exact .refl
    split
    · exact .refl
    · exact .of_updates (retireLive_updates t r)

theorem doWithdraw_upholds : s.Upholds (doWithdraw f s) :=
  control_upholds fun t => forRecipe_upholds fun r => by
    split
    · exact .refl
    split
    · exact .refl
    · exact .of_updates (retireLive_updates t r)

theorem writeStep_upholds (k : Nat) (fields : Option (StepParams × Bool)) :
    s.Upholds (s.writeStep k fields).after := by
  unfold State.writeStep
  repeat' split
  all_goals exact .refl

theorem readStep_upholds (k : Nat) : s.Upholds (s.readStep k).after := by
  unfold State.readStep
  split <;> exact .refl

theorem doStepWriteNext_upholds : s.Upholds (doStepWriteNext f s) :=
  control_upholds fun t => by
    split
    · exact writeStep_upholds t _ _
    · exact .refl

theorem doStepReadNext_upholds : s.Upholds (doStepReadNext f s) :=
  control_upholds fun t => by
    split
    · exact readStep_upholds t _
    · exact .refl

theorem doCallAck_upholds : s.Upholds (doCallAck f s) :=
  control_upholds fun t => by
    split
    · exact .refl
    split
    · exact .refl
    split
    · exact .refl
    split
    · exact .of_updates (t.acknowledge_updates _ _)
    · exact .of_updates (t.acknowledge_updates _ _)
    · exact .refl
    · exact .refl

theorem doCallClearOverflow_upholds : s.Upholds (doCallClearOverflow f s) :=
  control_upholds fun t => forAddress_upholds fun i => by
    split
    · exact .of_updates ((State.relock_updates _ i).trans (t.setOverflow_updates i false))
    · exact .refl

theorem doCleanRelease_upholds : s.Upholds (doCleanRelease f s) :=
  control_upholds fun t => forAddress_upholds fun i => by
    split
    · exact .of_updates (t.endCleaning_updates i _ _)
    · exact .refl

/-! ### Frames for an oven (R44, R79, R110, R141) -/

theorem doCookStart_upholds : s.Upholds (doCookStart f s) :=
  owned_upholds (forOven_upholds fun i => forRecipe_upholds fun r => .of_updates (s.startCook_updates i r _ _))

theorem doCookStop_upholds : s.Upholds (doCookStop f s) :=
  owned_upholds (forOven_upholds fun i => by
    split
    · exact .refl
    · exact .of_updates (s.stopCook_updates i _))

theorem doCleanRequest_upholds : s.Upholds (doCleanRequest f s) :=
  owned_upholds (forOven_upholds fun i => by
    split
    · exact .of_updates (s.requestCleaning_updates i _ _)
    · exact .refl)

/-- An accepted OPEN starts with no byte passed. -/
theorem doUpdateOpen_upholds : s.Upholds (doUpdateOpen f s) :=
  owned_upholds (forOven_upholds fun i => by
    split
    · exact .refl
    split
    · exact .refl
    · rename_i o _ _ _
      exact .modUpdate (g := fun u => u.openWith o) fun _ =>
        ⟨Nat.zero_le _, fun whole => by simp [UpdateCtx.openWith] at whole⟩)

theorem doUpdateApply_upholds : s.Upholds (doUpdateApply f s) :=
  owned_upholds (forOven_upholds fun i => by
    split
    · exact .refl
    · rename_i allowed
      exact State.beginApply_upholds (State.applyRefusal_sealed allowed) f)

theorem doDirect_upholds : s.Upholds (doDirect f s) :=
  owned_upholds (by
    split
    · unfold State.forwardDirect
      repeat' split
      all_goals exact .refl
    · exact .refl)

end

/-! ### Upward frames -/

section
variable (s : State) (u : UpFrame)

theorem doSample_upholds (tag : BitVec 16) : s.Upholds (doSample tag u s) := by
  have forwarded : ∀ (i : OvenId) (t : State) (k : KFrame), (t.forwardSample i k).updates = t.updates := by
    intro i t k
    unfold State.forwardSample
    dsimp only
    split
    · exact State.offerForward_updates _ _ i
    · rfl
  exact arriveUp_upholds fun i _ => dispatchUp_upholds (fun t => forwarded i t _) fun t => t.watchSample_upholds i _

theorem doCleanPhase_upholds : s.Upholds (doCleanPhase u s) :=
  takeNotice_upholds fun i t => by
    dsimp only
    split <;> exact .refl

theorem doCleanDone_upholds : s.Upholds (doCleanDone u s) :=
  takeNotice_upholds fun i t => by
    split
    · split
      · exact .of_updates (t.endCleaning_updates i _ _)
      · exact .refl
    · exact .refl

theorem doUpdateStatus_upholds : s.Upholds (doUpdateStatus u s) :=
  takeNotice_upholds fun i t => by
    split
    · split
      · exact .modUpdate id
      · exact t.endApply_upholds i _ _
      · exact .refl
    · exact .refl

end

/-! ### Every command -/

theorem exec_upholds (c : Instr) (s : State) : ∃ t, exec c s = .next t ∧ s.Upholds t := by
  cases c with
  | powerOn => exact ⟨_, rfl, s.restart_upholds _⟩
  | resetPin => exact ⟨_, rfl, s.restart_upholds _⟩
  | ready => exact ⟨_, rfl, doReady_upholds s⟩
  | startUpDiscard link => exact ⟨_, rfl, doStartUpDiscard_upholds s link⟩
  | watchTick => exact ⟨_, rfl, doWatchTick_upholds s⟩
  | silenceWatchExpiry n => exact ⟨_, rfl, doSilenceWatchExpiry_upholds s n⟩
  | ackTimerExpiry n => exact ⟨_, rfl, doAckTimerExpiry_upholds s n⟩
  | overtimeExpiry n => exact ⟨_, rfl, doOvertimeExpiry_upholds s n⟩
  | applyTimerExpiry n => exact ⟨_, rfl, doApplyTimerExpiry_upholds s n⟩
  | lineErrorWindowClose => exact ⟨_, rfl, .of_updates (doLineErrorWindowClose_updates s)⟩
  | pauseExpiry => exact ⟨_, rfl, .refl⟩
  | softResetTenthTick => exact ⟨_, rfl, doSoftResetTenthTick_upholds s⟩
  | tableClearCompletion => exact ⟨_, rfl, .of_updates (doTableClearCompletion_updates s)⟩
  | saveEnd => exact ⟨_, rfl, .of_updates (doSaveEnd_updates s)⟩
  | storeFrameDropped e => exact ⟨_, rfl, .of_updates (doStoreFrameDropped_updates s e)⟩
  | storeClassifierDiscard e => exact ⟨_, rfl, .of_updates (doStoreClassifierDiscard_updates s e)⟩
  | pauseFrame dest quanta => exact ⟨_, rfl, .of_updates (doPauseFrame_updates s dest quanta)⟩
  | statusRead f => exact ⟨_, rfl, control_upholds fun _ => by split <;> exact .refl⟩
  | configWrite f => exact ⟨_, rfl, doConfigWrite_upholds s f⟩
  | configRead f => exact ⟨_, rfl, doConfigRead_upholds s f⟩
  | daypartSet f => exact ⟨_, rfl, doDaypartSet_upholds s f⟩
  | rollCall f => exact ⟨_, rfl, control_upholds fun _ => .of_updates rfl⟩
  | softReset f => exact ⟨_, rfl, doSoftReset_upholds s f⟩
  | save f => exact ⟨_, rfl, doSave_upholds s f⟩
  | ovenCommission f => exact ⟨_, rfl, doOvenCommission_upholds s f⟩
  | ovenRetire f => exact ⟨_, rfl, doOvenRetire_upholds s f⟩
  | ovenRead f => exact ⟨_, rfl, control_upholds fun _ => forAddress_upholds fun _ => .refl⟩
  | ovenSet f => exact ⟨_, rfl, doOvenSet_upholds s f⟩
  | serviceEnter f => exact ⟨_, rfl, doServiceEnter_upholds s f⟩
  | serviceLeave f => exact ⟨_, rfl, doServiceLeave_upholds s f⟩
  | watchReload f => exact ⟨_, rfl, doWatchReload_upholds s f⟩
  | mapStage f => exact ⟨_, rfl, doMapStage_upholds s f⟩
  | mapSet f => exact ⟨_, rfl, control_upholds fun _ => forRecipe_upholds fun _ => by split <;> exact .refl⟩
  | mapRead f => exact ⟨_, rfl, control_upholds fun _ => forRecipe_upholds fun _ => .refl⟩
  | mapReadNext f => exact ⟨_, rfl, control_upholds fun _ => by split <;> exact .refl⟩
  | release f => exact ⟨_, rfl, doRelease_upholds s f⟩
  | withdraw f => exact ⟨_, rfl, doWithdraw_upholds s f⟩
  | discardStaged f =>
    exact ⟨_, rfl, control_upholds fun _ => forRecipe_upholds fun _ => by split <;> exact .refl⟩
  | stepWrite f => exact ⟨_, rfl, control_upholds fun t => writeStep_upholds t _ _⟩
  | stepWriteNext f => exact ⟨_, rfl, doStepWriteNext_upholds s f⟩
  | stepRead f => exact ⟨_, rfl, control_upholds fun t => readStep_upholds t _⟩
  | stepReadNext f => exact ⟨_, rfl, doStepReadNext_upholds s f⟩
  | tableClear f => exact ⟨_, rfl, control_upholds fun _ => by split <;> exact .refl⟩
  | classMapWrite f => exact ⟨_, rfl, control_upholds fun _ => by split <;> exact .refl⟩
  | classMapRead f => exact ⟨_, rfl, control_upholds fun _ => by split <;> exact .refl⟩
  | severityMapWrite f => exact ⟨_, rfl, control_upholds fun _ => by split <;> exact .refl⟩
  | severityMapRead f => exact ⟨_, rfl, control_upholds fun _ => by split <;> exact .refl⟩
  | callRead f => exact ⟨_, rfl, control_upholds fun _ => by split <;> exact .refl⟩
  | callAck f => exact ⟨_, rfl, doCallAck_upholds s f⟩
  | callClearOverflow f => exact ⟨_, rfl, doCallClearOverflow_upholds s f⟩
  | cleanRelease f => exact ⟨_, rfl, doCleanRelease_upholds s f⟩
  | cookStart f => exact ⟨_, rfl, doCookStart_upholds s f⟩
  | cookStop f => exact ⟨_, rfl, doCookStop_upholds s f⟩
  | cleanRequest f => exact ⟨_, rfl, doCleanRequest_upholds s f⟩
  | cleanCancel f =>
    exact ⟨_, rfl, owned_upholds (forOven_upholds fun i => .of_updates (s.cancelCleaning_updates i f))⟩
  | updateOpen f => exact ⟨_, rfl, doUpdateOpen_upholds s f⟩
  | updateChunk f => exact ⟨_, rfl, owned_upholds (forOven_upholds fun i => s.takeChunk_upholds i f _ _)⟩
  | updateSeal f => exact ⟨_, rfl, owned_upholds (forOven_upholds fun i => s.sealUpdate_upholds i f)⟩
  | updateApply f => exact ⟨_, rfl, doUpdateApply_upholds s f⟩
  | updateAbort f => exact ⟨_, rfl, owned_upholds (forOven_upholds fun i => s.abortUpdate_upholds i f)⟩
  | direct f => exact ⟨_, rfl, doDirect_upholds s f⟩
  | lineFrameDiscard events => exact ⟨_, rfl, .of_updates (doLineFrameDiscard_updates s events)⟩
  | sample tag f => exact ⟨_, rfl, doSample_upholds s f tag⟩
  | hello f => exact ⟨_, rfl, arriveUp_upholds fun i t => t.helloArrives_upholds i f⟩
  | stepAck f => exact ⟨_, rfl, takeNotice_upholds fun i t => .of_updates (t.stepAck_updates i _)⟩
  | panelStart f => exact ⟨_, rfl, takeNotice_upholds fun i t => .of_updates (t.panelStart_updates i _)⟩
  | panelStop f => exact ⟨_, rfl, takeNotice_upholds fun i t => .of_updates (t.stopCook_updates i _)⟩
  | fault f => exact ⟨_, rfl, takeNotice_upholds fun i t => t.takeFault_upholds i _⟩
  | faultClear f => exact ⟨_, rfl, takeNotice_upholds fun i t => .of_updates (t.takeFaultClear_updates i _)⟩
  | cleanPhase f => exact ⟨_, rfl, doCleanPhase_upholds s f⟩
  | cleanDone f => exact ⟨_, rfl, doCleanDone_upholds s f⟩
  | updateStatus f => exact ⟨_, rfl, doUpdateStatus_upholds s f⟩
  | serviceKey f => exact ⟨_, rfl, takeNotice_upholds fun i t => .of_updates (t.serviceKey_updates i _)⟩
  | ovenNote f => exact ⟨_, rfl, takeNotice_upholds fun _ _ => .refl⟩
  | lineTransmitterTake => exact ⟨_, rfl, .of_updates (doLineTransmitterTake_updates s)⟩
  | transmissionEnd => exact ⟨_, rfl, doTransmissionEnd_upholds s⟩
  | storeLinkSend => exact ⟨_, rfl, .of_updates (doStoreLinkSend_updates s)⟩
  | storeLinkTransmissionEnd => exact ⟨_, rfl, doStoreLinkTransmissionEnd_upholds s⟩

theorem step_upholds {s t : State} (h : step s = .next t) : s.Upholds t := by
  unfold step at h
  split at h
  · rename_i c rest _
    obtain ⟨u, run, upholds⟩ := exec_upholds c { s with pending := rest }
    rw [run] at h
    cases h
    exact upholds
  · cases h
    refine .of_updates ?_
    unfold State.idle
    split <;> rfl

/-- Settles O60: the law is one of each context, and every step keeps each context's. -/
theorem updateLawKept : Obligations.UpdateLawKept := by
  intro s t law h
  rw [updateLaw_iff] at law ⊢
  exact fun i => step_upholds h i (law i)

end Sys2Proof.Machine
end

section
/-! THEOREM. UPDATE OPEN and CHUNK (R110 to R115): their checks in order, what an accepted OPEN sets and what an
accepted chunk moves; settles `Obligations.UpdateTransfer`. -/

namespace Sys2Proof.Machine

variable {s u : State} {i : OvenId} {f : StoreFrame} {a : Reply}

/-- A frame for an oven that passes the form checks acts, and is not answered. -/
theorem owned_silently {cls : Byte} {tag : BitVec 16} {ok : Bool} {length : Nat} {act : State → OvenId → Answered}
    (h : Sent s f tag i length) (short : length ≤ maxPayload) (form : ok = true)
    (done : act s i = { after := u, reply := none }) : s.owned cls f (fun t => t.forOven f tag ok (act t)) = u := by
  obtain ⟨ready, same, oven, len, exact⟩ := h
  rw [owned_pass cls _ i ready oven len (exact ▸ short), forOven_pass tag ok _ i same form oven, done]
  rfl

theorem bufferFree_false (full : 48 ≤ s.down.inUse) : s.bufferFree = false :=
  Bool.eq_false_iff.mpr fun buffer => Nat.not_lt.mpr full (bufferFree_iff.mp buffer)

theorem sent_oven {tag : BitVec 16} {n : Nat} (h : Sent s f tag i n) : ovenOf f.oven.toNat = some i := by
  obtain ⟨-, -, oven, -⟩ := h
  exact oven

/-- A forwarded frame keeps oven address, tag, sequence and payload of the store's (R110). -/
theorem forwardUpdate_eq {tag : BitVec 16} {n : Nat} (h : Sent s f tag i n) (t : State) (k : Fin 4) :
    t.forwardUpdate k tag i f = t.pushDown k
      { frame := { cls := 3, oven := f.oven, tag := tag, seq := f.seq, payload := f.payload }, live := true } := by
  rw [State.forwardUpdate, downFrame, ovenByte_eq (sent_oven h)]

/-! ### The fields of an OPEN (R110, R156) -/

section
variable {p : List Byte}

theorem openFields_none (h : ¬ (field p 0 2 ≠ 0 ∧ 1 ≤ field p 2 4 ∧ field p 2 4 ≤ 8388608)) :
    openFields p = none := if_pos (by omega)

theorem openFields_some (h : field p 0 2 ≠ 0 ∧ 1 ≤ field p 2 4 ∧ field p 2 4 ≤ 8388608) :
    openFields p = some { imageId := field p 0 2, length := field p 2 4, crc := BitVec.ofNat 32 (field p 6 4),
                          version := ⟨p.getD 10 0, p.getD 11 0⟩ } := if_neg (by omega)

end

/-! ### The checks of an OPEN in order, each reached when those before it pass (R111) -/

section

theorem openRefusal_unknown (unknown : (s.oven i).record = none) :
    s.openRefusal i = some { result := .unknownOven } :=
  if_pos (by simp [OvenEntry.commissioned, unknown])

variable (known : (s.oven i).record.isSome = true)
include known

theorem openRefusal_passive (passive : (s.oven i).presence ≠ .active) :
    s.openRefusal i = some { result := .notActive } := by
  simp [State.openRefusal, OvenEntry.commissioned, known, passive]

variable (active : (s.oven i).presence = .active)
include active

theorem openRefusal_locked (locked : (s.oven i).locked = true) : s.openRefusal i = some { result := .locked } := by
  simp [State.openRefusal, OvenEntry.commissioned, known, active, locked]

variable (unlocked : (s.oven i).locked = false)
include unlocked

theorem openRefusal_state (busy : ¬ ((s.update i).state = .idle ∨ (s.update i).state = .failed)) :
    s.openRefusal i = some { result := .state } := by
  simp [State.openRefusal, OvenEntry.commissioned, known, active, unlocked, not_or.mp busy]

variable (idle : (s.update i).state = .idle ∨ (s.update i).state = .failed)
include idle

/-- Of a context that is IDLE or FAILED the chunks still queued and the pool are looked at. -/
theorem openRefusal_idle : s.openRefusal i =
    if 0 < (s.update i).queued then some s.bulkBusy else if !s.bufferFree then some poolBusy else none := by
  have checked : ¬ ((s.update i).state ≠ .idle ∧ (s.update i).state ≠ .failed) := by tauto
  simp [State.openRefusal, OvenEntry.commissioned, known, active, unlocked, checked]

theorem openRefusal_queued (queued : 0 < (s.update i).queued) :
    s.openRefusal i = some { result := .busy, detail := s.config.bulkHoldOff } :=
  (openRefusal_idle known active unlocked idle).trans (if_pos queued)

variable (empty : (s.update i).queued = 0)
include empty

theorem openRefusal_full (full : 48 ≤ s.down.inUse) : s.openRefusal i = some { result := .busy, detail := 2 } := by
  rw [openRefusal_idle known active unlocked idle, if_neg (by omega), if_pos (by simp [bufferFree_false full])]
  rfl

theorem openRefusal_allowed (room : s.down.inUse < 48) : s.openRefusal i = none := by
  rw [openRefusal_idle known active unlocked idle, if_neg (by omega), if_neg (by simp [bufferFree_iff.mpr room])]

end

/-! ### UPDATE_OPEN (R110 to R112) -/

theorem doUpdateOpen_misformed (h : Misformed s f 1 12 12) :
    doUpdateOpen f s = s.repliesTo 3 f { result := .badField } :=
  owned_misformed h (fun form => by simp at form; omega) (by decide)

section
variable (h : Sent s f 1 i 12)
include h

theorem doUpdateOpen_noFields (none : openFields f.payload = none) :
    doUpdateOpen f s = s.repliesTo 3 f { result := .badField } :=
  owned_replies h (by decide) (by simp [sent_length h]) (by decide) (by simp only [none]; rfl)

variable {o : OpenFields} (fields : openFields f.payload = some o)
include fields

theorem doUpdateOpen_refused (refused : s.openRefusal i = some a) : doUpdateOpen f s = s.repliesTo 3 f a :=
  owned_replies h (by decide) (by simp [sent_length h]) (by decide) (by simp only [fields, refused]; rfl)

theorem doUpdateOpen_accepted (allowed : s.openRefusal i = none) : doUpdateOpen f s =
    ((s.modUpdate i fun u => u.openWith o).pushDown 1
      { frame := { cls := 3, oven := f.oven, tag := 1, seq := f.seq, payload := f.payload },
        live := true }).repliesTo 3 f { result := .accepted } := by
  rw [← forwardUpdate_eq h]
  exact owned_replies h (by decide) (by simp [sent_length h]) (by decide) (by simp only [fields, allowed]; rfl)

end

/-! ### UPDATE_CHUNK (R113 to R115) -/

theorem doUpdateChunk_misformed (h : Misformed s f 2 5 452) :
    doUpdateChunk f s = s.repliesTo 3 f { result := .badField } :=
  owned_misformed h (fun form => by simpa using form) (by decide)

section
variable (h : Sent s f 2 i f.payload.length) (least : 5 ≤ f.payload.length) (greatest : f.payload.length ≤ 452)
include h least greatest

theorem doUpdateChunk_answered
    (act : s.takeChunk i f (field f.payload 0 4) (f.payload.drop 4) = { after := u, reply := some a }) :
    doUpdateChunk f s = u.repliesTo 3 f a :=
  owned_replies h (greatest.trans (by decide)) (by simp [least, greatest]) (by decide) act

theorem doUpdateChunk_silent
    (act : s.takeChunk i f (field f.payload 0 4) (f.payload.drop 4) = { after := u, reply := none }) :
    doUpdateChunk f s = u :=
  owned_silently h (greatest.trans (by decide)) (by simp [least, greatest]) act

end

/-! The checks of R113 in order, each reached when those before it pass. -/

section
variable {offset : Nat} {data : List Byte}

theorem takeChunk_state (closed : ¬ ((s.update i).state = .opened ∨ (s.update i).state = .receiving)) :
    s.takeChunk i f offset data = { after := s, reply := some { result := .state } } :=
  if_pos (by simpa using mt State.transferring_iff.mp closed)

variable (taken : (s.update i).state = .opened ∨ (s.update i).state = .receiving)
include taken

/-- A chunk the oven has been sent already is dropped and counted (R113). -/
theorem takeChunk_repeated (behind : offset < (s.update i).passed) : s.takeChunk i f offset data =
    { after := s.modUpdate i fun u => { u with repeated := min 65535 (u.repeated + 1) }, reply := none } := by
  simp only [State.takeChunk, State.transferring_iff.mpr taken, behind, if_true]
  rfl

theorem takeChunk_gap (ahead : (s.update i).passed < offset) : s.takeChunk i f offset data =
    { after := s, reply := some { result := .gap, detail := (s.update i).passed } } := by
  simp [State.takeChunk, State.transferring_iff.mpr taken, ahead, Nat.not_lt_of_gt ahead, State.says]

variable (here : offset = (s.update i).passed)
include here

theorem takeChunk_beyond (beyond : (s.update i).length < offset + data.length) : s.takeChunk i f offset data =
    { after := s, reply := some { result := .badField } } := by
  subst here
  simp [State.takeChunk, State.transferring_iff.mpr taken, beyond, State.says]

variable (fits : offset + data.length ≤ (s.update i).length)
include fits

/-- Of a chunk that fits, the bulk limit and the pool are looked at. -/
theorem takeChunk_fits : s.takeChunk i f offset data =
    if s.config.bulkLimit ≤ s.down.classes[3].length then s.refuses s.bulkBusy
    else if !s.bufferFree then s.refuses poolBusy
    else ((s.forwardUpdate 3 tagChunk i f).modUpdate i fun x => x.absorb data).silently := by
  subst here
  simp [State.takeChunk, State.transferring_iff.mpr taken, Nat.not_lt.mpr fits]

theorem takeChunk_bulk (bulk : s.config.bulkLimit ≤ s.down.classes[3].length) : s.takeChunk i f offset data =
    { after := s, reply := some { result := .busy, detail := s.config.bulkHoldOff } } :=
  (takeChunk_fits taken here fits).trans (if_pos bulk)

variable (below : s.down.classes[3].length < s.config.bulkLimit)
include below

theorem takeChunk_full (full : 48 ≤ s.down.inUse) : s.takeChunk i f offset data =
    { after := s, reply := some { result := .busy, detail := 2 } } := by
  rw [takeChunk_fits taken here fits, if_neg (Nat.not_le.mpr below), if_pos (by simp [bufferFree_false full])]
  rfl

theorem takeChunk_accepted (room : s.down.inUse < 48) : s.takeChunk i f offset data =
    { after := (s.forwardUpdate 3 tagChunk i f).modUpdate i fun x => x.absorb data, reply := none } := by
  rw [takeChunk_fits taken here fits, if_neg (Nat.not_le.mpr below), if_neg (by simp [bufferFree_iff.mpr room])]
  rfl

end

/-- Settles O45: the form, then the checks of R111 and of R113 one by one. -/
theorem updateTransfer : Obligations.UpdateTransfer := by
  refine ⟨fun s f => ⟨fun wrong => congrArg Host.Outcome.next (doUpdateOpen_misformed wrong),
    fun wrong => congrArg Host.Outcome.next (doUpdateChunk_misformed wrong)⟩, ?_, ?_⟩
  · intro s f i sent e u n answers form unlocked idle
    have refuse : ∀ {a : Reply}, form → s.openRefusal i = some a → answers a := fun form first =>
      congrArg Host.Outcome.next (doUpdateOpen_refused sent (openFields_some form) first)
    refine ⟨fun wrong => congrArg Host.Outcome.next (doUpdateOpen_noFields sent (openFields_none wrong)),
      fun form unknown => refuse form (openRefusal_unknown unknown),
      fun form known passive => refuse form (openRefusal_passive known passive),
      fun form known active locked => refuse form (openRefusal_locked known active locked),
      fun ⟨form, known, active, unlocked⟩ busy => refuse form (openRefusal_state known active unlocked busy),
      fun ⟨⟨form, known, active, unlocked⟩, idle⟩ queued =>
        refuse form (openRefusal_queued known active unlocked idle queued),
      fun ⟨⟨form, known, active, unlocked⟩, idle⟩ empty full =>
        refuse form (openRefusal_full known active unlocked idle empty full),
      fun ⟨⟨form, known, active, unlocked⟩, idle⟩ empty room => ?_⟩
    exact congrArg Host.Outcome.next (doUpdateOpen_accepted sent (openFields_some form)
      (openRefusal_allowed known active unlocked idle empty room))
  · intro s f i sent least greatest u off data answers open' here fits
    have answer : ∀ {a : Reply}, s.takeChunk i f off data = { after := s, reply := some a } → answers a :=
      fun act => congrArg Host.Outcome.next (doUpdateChunk_answered sent least greatest act)
    refine ⟨fun closed => answer (takeChunk_state closed),
      fun taken behind => congrArg Host.Outcome.next
        (doUpdateChunk_silent sent least greatest (takeChunk_repeated taken behind)),
      fun taken ahead => answer (takeChunk_gap taken ahead),
      fun ⟨taken, here⟩ beyond => answer (takeChunk_beyond taken here beyond),
      fun ⟨⟨taken, here⟩, fits⟩ bulk => answer (takeChunk_bulk taken here fits bulk),
      fun ⟨⟨taken, here⟩, fits⟩ below full => answer (takeChunk_full taken here fits below full),
      fun ⟨⟨taken, here⟩, fits⟩ below room => ?_⟩
    have run := doUpdateChunk_silent sent least greatest (takeChunk_accepted taken here fits below room)
    rw [forwardUpdate_eq sent] at run
    exact congrArg Host.Outcome.next run

end Sys2Proof.Machine
end

section
/-! THEOREM. UPDATE SEAL, APPLY and ABORT (R110, R116, R117, R121): their checks in order and what each does to the
context; settles `Obligations.UpdateSealApplyAbort`. -/

namespace Sys2Proof.Machine

variable {s u : State} {i : OvenId} {f : StoreFrame} {a : Reply}

/-- A frame without a payload is forwarded without one (R110). -/
theorem forwardUpdate_bare {tag : BitVec 16} (h : Sent s f tag i 0) (t : State) (k : Fin 4) :
    t.forwardUpdate k tag i f = t.pushDown k
      { frame := { cls := 3, oven := f.oven, tag := tag, seq := f.seq, payload := [] }, live := true } := by
  rw [forwardUpdate_eq h, List.length_eq_zero_iff.mp (sent_length h)]

/-! ### UPDATE_SEAL (R116) -/

theorem doUpdateSeal_misformed (h : Misformed s f 3 0 0) :
    doUpdateSeal f s = s.repliesTo 3 f { result := .badField } :=
  owned_misformed h (fun form => by simpa using form) (by decide)

theorem doUpdateSeal_answered (h : Sent s f 3 i 0) (act : s.sealUpdate i f = { after := u, reply := some a }) :
    doUpdateSeal f s = u.repliesTo 3 f a :=
  owned_replies h (by decide) (by simp [sent_length h]) (by decide) act

theorem sealUpdate_state (closed : ¬ ((s.update i).state = .opened ∨ (s.update i).state = .receiving)) :
    s.sealUpdate i f = { after := s, reply := some { result := .state } } :=
  if_pos (by simpa using mt State.transferring_iff.mp closed)

section
variable (taken : (s.update i).state = .opened ∨ (s.update i).state = .receiving)
include taken

/-- A transfer that is short or does not check fails. -/
theorem sealUpdate_mismatch
    (wrong : ¬ ((s.update i).passed = (s.update i).length ∧ ~~~(s.update i).crc = (s.update i).expectedCrc)) :
    s.sealUpdate i f =
      { after := s.modUpdate i fun x => { x with state := .failed, cause := .mismatch },
        reply := some { result := .mismatch, detail := (s.update i).passed } } := by
  have unchecked : (s.update i).checks = false := Bool.eq_false_iff.mpr (mt State.checks_iff.mp wrong)
  simp [State.sealUpdate, State.transferring_iff.mpr taken, unchecked, State.says]

variable (whole : (s.update i).passed = (s.update i).length ∧ ~~~(s.update i).crc = (s.update i).expectedCrc)
include whole

theorem sealUpdate_queued (queued : 0 < (s.update i).queued) : s.sealUpdate i f =
    { after := s, reply := some { result := .busy, detail := s.config.bulkHoldOff } } := by
  simp [State.sealUpdate, State.transferring_iff.mpr taken, State.checks_iff.mpr whole, queued, State.refuses,
    State.bulkBusy]

variable (empty : (s.update i).queued = 0)
include empty

theorem sealUpdate_full (full : 48 ≤ s.down.inUse) : s.sealUpdate i f =
    { after := s, reply := some { result := .busy, detail := 2 } } := by
  simp [State.sealUpdate, State.transferring_iff.mpr taken, State.checks_iff.mpr whole, empty, bufferFree_false full,
    State.refuses, poolBusy]

theorem sealUpdate_seals (room : s.down.inUse < 48) : s.sealUpdate i f =
    { after := (s.modUpdate i fun x => { x with state := .sealed }).forwardUpdate 1 tagSeal i f,
      reply := some { result := .done } } := by
  simp [State.sealUpdate, State.transferring_iff.mpr taken, State.checks_iff.mpr whole, empty,
    bufferFree_iff.mpr room, State.says]

end

/-! ### UPDATE_APPLY (R117) -/

theorem doUpdateApply_misformed (h : Misformed s f 4 0 0) :
    doUpdateApply f s = s.repliesTo 3 f { result := .badField } :=
  owned_misformed h (fun form => by simpa using form) (by decide)

theorem doUpdateApply_refused (h : Sent s f 4 i 0) (refused : s.applyRefusal i = some a) :
    doUpdateApply f s = s.repliesTo 3 f a :=
  owned_replies h (by decide) (by simp [sent_length h]) (by decide) (by simp only [refused]; rfl)

theorem doUpdateApply_accepted (h : Sent s f 4 i 0) (allowed : s.applyRefusal i = none) :
    doUpdateApply f s = (s.beginApply i f).repliesTo 3 f { result := .accepted } :=
  owned_replies h (by decide) (by simp [sent_length h]) (by decide) (by simp only [allowed]; rfl)

theorem applyRefusal_state (other : (s.update i).state ≠ .sealed) :
    s.applyRefusal i = some { result := .state } := if_pos other

section
variable (state : (s.update i).state = .sealed)
include state

theorem applyRefusal_occupied (busy : (s.oven i).occupancy ≠ .free) :
    s.applyRefusal i = some { result := .occupied } := by
  simp [State.applyRefusal, State.occupancyFree, state, busy]

variable (free : (s.oven i).occupancy = .free)
include free

theorem applyRefusal_waits (waits : ∃ w ∈ s.cleaning.queue, w.oven = i) :
    s.applyRefusal i = some { result := .cleanPending } := by
  simp [State.applyRefusal, State.occupancyFree, state, free, waiting_exists.mpr waits]

variable (absent : ¬ ∃ w ∈ s.cleaning.queue, w.oven = i)
include absent

/-- Of a FREE oven that does not wait, the daypart and the pool are looked at; service mode lifts the daypart. -/
theorem applyRefusal_free : s.applyRefusal i =
    if !s.config.updateMask.getLsbD s.daypart.val && !(s.oven i).service then some { result := .daypart }
    else if !s.bufferFree then some poolBusy else none := by
  have waits : s.waiting i = false := Bool.eq_false_iff.mpr (mt waiting_exists.mp absent)
  simp only [State.applyRefusal, State.occupancyFree, state, free, waits]
  rfl

theorem applyRefusal_daypart
    (day : ¬ (s.config.updateMask.getLsbD s.daypart.val = true ∨ (s.oven i).service = true)) :
    s.applyRefusal i = some { result := .daypart } := by
  obtain ⟨closed, served⟩ := not_or.mp day
  rw [applyRefusal_free state free absent, Bool.eq_false_iff.mpr closed, Bool.eq_false_iff.mpr served]
  rfl

variable (day : s.config.updateMask.getLsbD s.daypart.val = true ∨ (s.oven i).service = true)
include day

theorem applyRefusal_open : s.applyRefusal i = if !s.bufferFree then some poolBusy else none := by
  rw [applyRefusal_free state free absent, if_neg]
  rcases day with day | service
  · rw [day]; simp
  · rw [service]; simp

theorem applyRefusal_full (full : 48 ≤ s.down.inUse) :
    s.applyRefusal i = some { result := .busy, detail := 2 } := by
  rw [applyRefusal_open state free absent day, bufferFree_false full]
  rfl

theorem applyRefusal_allowed (room : s.down.inUse < 48) : s.applyRefusal i = none := by
  rw [applyRefusal_open state free absent day, bufferFree_iff.mpr room]
  rfl

end

/-- A watch that is put back as it stands changes nothing. -/
theorem setWatch_watch (s : State) (i : OvenId) : s.setWatch i (s.watch i) = s := by
  simp [State.setWatch, State.watch]

/-- An oven whose conditions freeze it has its watch frozen, where it has one (R130). -/
theorem refreeze_freezes (h : (s.oven i).freezes = true) :
    s.refreeze i = s.setWatch i ((s.watch i).map fun w => { w with frozen := true }) := by
  cases watch : s.watch i with
  | none => rw [refreeze_none watch, Option.map_none, ← watch, setWatch_watch]
  | some w => rw [refreeze_some watch, h]; rfl

theorem beginApply_eq (h : Sent s f 4 i 0) : s.beginApply i f =
    (((s.modOven i fun e => { e with occupancy := .applying }).modUpdate i fun x =>
      { x with state := .applying, begun := false, timer := .running,
               deadline := s.lineTime + BitVec.ofNat 32 s.config.applyTimeout }).setWatch i
      ((s.watch i).map fun w => { w with frozen := true })).pushDown 1
      { frame := { cls := 3, oven := f.oven, tag := 4, seq := f.seq, payload := [] }, live := true } := by
  unfold State.beginApply
  extract_lets s1
  have freezes : (s1.oven i).freezes = true := by
    have occupied : s1.oven i = { s.oven i with occupancy := .applying } := by simp [s1, State.setOccupancy]
    simp [occupied, OvenEntry.freezes]
  rw [forwardUpdate_bare h, refreeze_freezes freezes]
  rfl

/-! ### UPDATE_ABORT (R121) -/

theorem doUpdateAbort_misformed (h : Misformed s f 5 0 0) :
    doUpdateAbort f s = s.repliesTo 3 f { result := .badField } :=
  owned_misformed h (fun form => by simpa using form) (by decide)

theorem doUpdateAbort_answered (h : Sent s f 5 i 0) (act : s.abortUpdate i f = { after := u, reply := some a }) :
    doUpdateAbort f s = u.repliesTo 3 f a :=
  owned_replies h (by decide) (by simp [sent_length h]) (by decide) act

theorem abortUpdate_state (none : (s.update i).state = .idle ∨ (s.update i).state = .applying) :
    s.abortUpdate i f = { after := s, reply := some { result := .state } } := if_pos none

section
variable (begun : (s.update i).state ≠ .idle) (noApply : (s.update i).state ≠ .applying)
include begun noApply

theorem abortUpdate_full (full : 48 ≤ s.down.inUse) :
    s.abortUpdate i f = { after := s, reply := some { result := .busy, detail := 2 } } := by
  simp [State.abortUpdate, begun, noApply, bufferFree_false full, State.refuses, poolBusy]

theorem abortUpdate_aborts (room : s.down.inUse < 48) : s.abortUpdate i f =
    { after := (s.modUpdate i fun x => { x with state := .idle }).forwardUpdate 0 tagAbort i f,
      reply := some { result := .done } } := by
  simp [State.abortUpdate, begun, noApply, bufferFree_iff.mpr room, State.says]

end

/-- Settles O46: the forms, then SEAL, APPLY and ABORT, each in the order of its checks. -/
theorem updateSealApplyAbort : Obligations.UpdateSealApplyAbort := by
  refine ⟨?_, ?_⟩
  · intro s f refused
    exact ⟨fun wrong => congrArg Host.Outcome.next (doUpdateSeal_misformed wrong),
      fun wrong => congrArg Host.Outcome.next (doUpdateApply_misformed wrong),
      fun wrong => congrArg Host.Outcome.next (doUpdateAbort_misformed wrong)⟩
  intro s f i u answers forward room poolBusy open' checks waits day free
  refine ⟨fun sent => ?_, fun sent => ?_, fun sent => ?_⟩
  · have answer : ∀ {t : State} {a : Reply}, s.sealUpdate i f = { after := t, reply := some a } →
        answers (.updateSeal f) t a := fun act => congrArg Host.Outcome.next (doUpdateSeal_answered sent act)
    refine ⟨fun closed => answer (sealUpdate_state closed),
      fun taken wrong => answer (sealUpdate_mismatch taken wrong),
      fun taken whole queued => answer (sealUpdate_queued taken whole queued),
      fun taken whole empty full => answer (sealUpdate_full taken whole empty (Nat.not_lt.mp full)),
      fun taken whole empty room => answer ?_⟩
    rw [sealUpdate_seals taken whole empty room, forwardUpdate_bare sent]
  · have refuse : ∀ {a : Reply}, s.applyRefusal i = some a → answers (.updateApply f) s a := fun first =>
      congrArg Host.Outcome.next (doUpdateApply_refused sent first)
    refine ⟨fun other => refuse (applyRefusal_state other),
      fun state busy => refuse (applyRefusal_occupied state busy),
      fun state free waits => refuse (applyRefusal_waits state free waits),
      fun state free absent closed => refuse (applyRefusal_daypart state free absent closed),
      fun state free absent day full => refuse (applyRefusal_full state free absent day (Nat.not_lt.mp full)),
      fun state free absent day room => ?_⟩
    have run := doUpdateApply_accepted sent (applyRefusal_allowed state free absent day room)
    rw [beginApply_eq sent] at run
    exact congrArg Host.Outcome.next run
  · have answer : ∀ {t : State} {a : Reply}, s.abortUpdate i f = { after := t, reply := some a } →
        answers (.updateAbort f) t a := fun act => congrArg Host.Outcome.next (doUpdateAbort_answered sent act)
    refine ⟨fun none => answer (abortUpdate_state none),
      fun begun noApply full => answer (abortUpdate_full begun noApply (Nat.not_lt.mp full)),
      fun begun noApply room => answer ?_⟩
    rw [abortUpdate_aborts begun noApply room, forwardUpdate_bare sent]

end Sys2Proof.Machine
end

section
/-! THEOREM. A Watch Tick (R124, R126): what it counts every tick, and what every tenth one does to line time and the
timers on it (R91, R107, R120); settles `Obligations.WatchTickCounts`. -/

namespace Sys2Proof.Machine

variable {s : State}

/-! ### One entry at a tick and at a second -/

/-- A watch counts its prescaler, then its counter, unless it is frozen or has run out (R126, R130). -/
theorem Watch.tick_eq (w : Watch) : w.tick =
    if w.frozen = true ∨ w.counter = 0 then w
    else if w.prescaler ≤ 1 then { w with prescaler := w.scale, counter := w.counter - 1 }
    else { w with prescaler := w.prescaler - 1 } := by
  simp only [Watch.tick, Bool.or_eq_true, beq_iff_eq]

/-- A running overtime timer whose deadline is reached becomes due (R91). -/
theorem CleanRecord.second_eq (now : LineTime) (r : CleanRecord) : r.second now =
    if r.timer = .running ∧ r.deadline = now then { r with timer := .due } else r := by
  unfold CleanRecord.second LineTimer.at
  split <;> rfl

/-- A running apply timer whose deadline is reached becomes due (R120). -/
theorem UpdateCtx.second_eq (now : LineTime) (u : UpdateCtx) : u.second now =
    if u.timer = .running ∧ u.deadline = now then { u with timer := .due } else u := by
  unfold UpdateCtx.second LineTimer.at
  split <;> rfl

/-! ### The state at a tick and at a second -/

theorem State.countTick_slot (s : State) (i : OvenId) :
    s.countTick.slot i = { slot := (s.slot i).slot, timer := (s.slot i).timer.map fun n => n - 1 } := by
  simp [State.countTick, State.slot, SlotState.tick]

theorem State.second_cleanRecord (s : State) (i : OvenId) :
    s.second.cleanRecord i = (s.cleanRecord i).second (s.lineTime + 1) := by
  simp [State.second, State.cleanRecord]

theorem State.second_update (s : State) (i : OvenId) :
    s.second.update i = (s.update i).second (s.lineTime + 1) := by
  simp [State.second, State.update]

/-- Before the tenth tick only the phase moves on. -/
theorem doWatchTick_early (early : s.tickPhase < 9) :
    doWatchTick s = { s.countTick with tickPhase := s.tickPhase + 1 } := if_pos early

/-- The tenth tick is a second of line time (R124). -/
theorem doWatchTick_tenth (tenth : 9 ≤ s.tickPhase) : doWatchTick s = s.countTick.second :=
  if_neg (Nat.not_lt.mpr tenth)

/-- Whatever the tick, watches, slots and the awaited soft reset are those counted; the rest but line time and its
timers is as it was. -/
theorem doWatchTick_counted (s : State) :
    (doWatchTick s).watches = s.countTick.watches ∧ (doWatchTick s).slots = s.countTick.slots ∧
      (doWatchTick s).softReset = s.countTick.softReset ∧
      { doWatchTick s with
          watches := s.watches, slots := s.slots, softReset := s.softReset, tickPhase := s.tickPhase,
          lineTime := s.lineTime, cleaning := s.cleaning, updates := s.updates, calls := s.calls } = s := by
  rcases Nat.lt_or_ge s.tickPhase 9 with early | tenth
  · rw [doWatchTick_early early]
    exact ⟨rfl, rfl, rfl, rfl⟩
  · rw [doWatchTick_tenth tenth]
    exact ⟨rfl, rfl, rfl, rfl⟩

theorem doWatchTick_watch (s : State) (i : OvenId) : (doWatchTick s).watch i = (s.watch i).map Watch.tick := by
  obtain ⟨watches, -⟩ := doWatchTick_counted s
  rw [← State.countTick_watch, State.watch, watches, State.watch]

theorem doWatchTick_slot (s : State) (i : OvenId) : (doWatchTick s).slot i =
    { slot := (s.slot i).slot, timer := (s.slot i).timer.map fun n => n - 1 } := by
  obtain ⟨-, slots, -⟩ := doWatchTick_counted s
  rw [← State.countTick_slot, State.slot, slots, State.slot]

/-- Settles O11: what every tick counts, then the tick before the tenth and the tenth. -/
theorem watchTickCounts : Obligations.WatchTickCounts := by
  intro s
  obtain ⟨-, -, softReset, frame⟩ := doWatchTick_counted s
  refine ⟨doWatchTick s, rfl, fun i => ?_, doWatchTick_slot s, softReset, fun early => ?_, fun tenth => ?_, frame⟩
  · rw [doWatchTick_watch, funext Watch.tick_eq]
  · rw [doWatchTick_early early]
    exact ⟨rfl, rfl, rfl, rfl, rfl⟩
  · rw [doWatchTick_tenth tenth]
    exact ⟨rfl, rfl,
      fun i => (s.countTick.second_cleanRecord i).trans (CleanRecord.second_eq ..),
      fun i => (s.countTick.second_update i).trans (UpdateCtx.second_eq ..), rfl, rfl, rfl⟩

end Sys2Proof.Machine
end

section
/-! THEOREM. SERVICE_ENTER and SERVICE_LEAVE (R130 to R134): their checks in order and what each does to flag, watch
and admission; settles `Obligations.ServiceMode`. -/

namespace Sys2Proof.Machine

variable {s u : State} {f : StoreFrame} {i : OvenId} {a : Reply}

/-! ### SERVICE_ENTER (R131, R132) -/

/-- The checks of R131 and, past them, service mode. -/
def State.serviceEntry (s : State) (i : OvenId) : Answered :=
  if !(s.oven i).commissioned then s.says .unknownOven
  else if (s.oven i).occupancy ≠ .free then s.says .occupied
  else if (s.oven i).service then s.says .state
  else (s.enterService i).says .done

theorem doServiceEnter_eq (f : StoreFrame) (s : State) : doServiceEnter f s =
    s.control gateServiceEnter f fun t => t.forAddress f t.serviceEntry := rfl

theorem doServiceEnter_answered (h : RequestedFor s f 14 [1] i)
    (act : (s.fromGateway f).serviceEntry i = { after := u, reply := some a }) :
    doServiceEnter f s = u.replies f a := by
  rw [doServiceEnter_eq]
  exact control_replies h.1 (by decide) (fun saved => nomatch saved) rfl ((forAddress_some h.2).trans act)

theorem doServiceEnter_badField (h : Requested s f 14 [1]) (none : NoOven f) :
    doServiceEnter f s = (s.fromGateway f).replies f { result := .badField } :=
  control_replies h (by decide) (fun saved => nomatch saved) rfl (forAddress_none none)

theorem serviceEntry_unknown (unknown : (s.oven i).record = none) : s.serviceEntry i = s.says .unknownOven :=
  if_pos (by simp [OvenEntry.commissioned, unknown])

section
variable (known : (s.oven i).record.isSome = true)
include known

theorem serviceEntry_known : s.serviceEntry i =
    if (s.oven i).occupancy ≠ .free then s.says .occupied
    else if (s.oven i).service then s.says .state
    else (s.enterService i).says .done :=
  if_neg (by simp [OvenEntry.commissioned, known])

theorem serviceEntry_occupied (busy : (s.oven i).occupancy ≠ .free) : s.serviceEntry i = s.says .occupied :=
  (serviceEntry_known known).trans (if_pos busy)

variable (free : (s.oven i).occupancy = .free)
include free

theorem serviceEntry_again (service : (s.oven i).service = true) : s.serviceEntry i = s.says .state := by
  rw [serviceEntry_known known, if_neg (not_not.mpr free), if_pos service]

theorem serviceEntry_enters (service : (s.oven i).service = false) :
    s.serviceEntry i = (s.enterService i).says .done := by
  rw [serviceEntry_known known, if_neg (not_not.mpr free), if_neg (Bool.eq_false_iff.mp service)]

end

/-! ### SERVICE_LEAVE (R133, R134) -/

theorem doServiceLeave_state (h : RequestedFor s f 15 [1] i) (service : (s.oven i).service = false) :
    doServiceLeave f s = (s.fromGateway f).replies f { result := .state } :=
  control_replies h.1 (by decide) (fun saved => nomatch saved) rfl
    ((forAddress_some h.2).trans (if_neg (Bool.eq_false_iff.mp service)))

theorem doServiceLeave_leaves (h : RequestedFor s f 15 [1] i) (service : (s.oven i).service = true) :
    doServiceLeave f s = ((s.fromGateway f).leaveService i).replies f { result := .done } :=
  control_replies h.1 (by decide) (fun saved => nomatch saved) rfl ((forAddress_some h.2).trans (if_pos service))

theorem doServiceLeave_badField (h : Requested s f 15 [1]) (none : NoOven f) :
    doServiceLeave f s = (s.fromGateway f).replies f { result := .badField } :=
  control_replies h (by decide) (fun saved => nomatch saved) rfl (forAddress_none none)

/-- Without a watch there is none to load; flag and pass remain. -/
theorem leaveService_unwatched (off : s.watch i = none) :
    s.leaveService i = (s.withService i false).admissionPass := by
  have off : (s.withService i false).watch i = none := off
  rw [State.leaveService, reloadWatch_none off, refreeze_none off]

/-! ### The statement -/

/-- Settles O25: SERVICE_ENTER in the order of its checks, then SERVICE_LEAVE by flag and watch. -/
theorem serviceMode : Obligations.ServiceMode := by
  intro s f i a enters
  have entry {t : State} {x : Result} (h : RequestedFor s f 14 [1] i) (act : a.serviceEntry i = t.says x) :
      exec (.serviceEnter f) s = .next (t.replies f { result := x }) :=
    congrArg Host.Outcome.next (doServiceEnter_answered h act)
  refine ⟨fun h unknown => entry h (serviceEntry_unknown unknown),
    fun h known busy => entry h (serviceEntry_occupied known busy),
    fun h known free service => entry h (serviceEntry_again known free service),
    fun h known free service => ?_,
    fun h service => congrArg Host.Outcome.next (doServiceLeave_state h service),
    fun h service off => ?_,
    fun r w h service watch record => ?_,
    fun h none => congrArg Host.Outcome.next (doServiceEnter_badField h none),
    fun h none => congrArg Host.Outcome.next (doServiceLeave_badField h none)⟩
  · have run := entry h (serviceEntry_enters known free service)
    rw [enterService_eq] at run
    exact run
  · have run := doServiceLeave_leaves h service
    rw [leaveService_unwatched (s := s.fromGateway f) off] at run
    exact congrArg Host.Outcome.next run
  · have run := doServiceLeave_leaves h service
    rw [leaveService_eq (s := s.fromGateway f) watch record] at run
    exact congrArg Host.Outcome.next run

end Sys2Proof.Machine
end

section
/-! SUPPORT. The bounds of the two queues (R139, R145): a frame joins a class queue where a buffer is free and the
Upward Queue where there is room, and every other operation leaves both or shortens them. -/

namespace Sys2Proof.Machine

variable {s t : State}

/-! ### The pool and the queue after one frame more or some fewer -/

theorem Down.inUse_le {d d' : Down} (shorter : ∀ k : Fin 4, d'.classes[k].length ≤ d.classes[k].length) :
    d'.inUse ≤ d.inUse :=
  Nat.add_le_add (Nat.add_le_add (Nat.add_le_add (shorter 0) (shorter 1)) (shorter 2)) (shorter 3)

theorem pushDown_inUse (s : State) (k : Fin 4) (f : DownFrame) :
    (s.pushDown k f).down.inUse = s.down.inUse + 1 := by
  fin_cases k <;> simp [State.pushDown, Down.inUse] <;> omega

/-- Only the frame on the line, no longer an oven's, stays of its frames (R142). -/
theorem purgeClass_length_le (i : OvenId) (sending : Bool) (q : List DownFrame) :
    (purgeClass i sending q).length ≤ q.length := by
  unfold purgeClass
  split
  · exact Nat.succ_le_succ (List.length_filter_le ..)
  · exact List.length_filter_le ..

theorem upRoom_iff : s.upRoom = true ↔ s.up.frames.length < 32 := decide_eq_true_iff

namespace QueueBounds

/-- The bounds speak of the two queues alone. -/
theorem frame (h : QueueBounds s) (classes : t.down.classes = s.down.classes := by rfl)
    (frames : t.up.frames = s.up.frames := by rfl) : QueueBounds t := by
  unfold QueueBounds Down.inUse
  rw [classes, frames]
  exact h

theorem fewer {d : Down} (h : QueueBounds s) (shorter : ∀ k : Fin 4, d.classes[k].length ≤ s.down.classes[k].length) :
    QueueBounds { s with down := d } :=
  ⟨(Down.inUse_le shorter).trans h.1, h.2⟩

section
variable {i : OvenId} {k : KFrame} {c : Prop} [Decidable c]

protected theorem ite (hs : QueueBounds s) (ht : QueueBounds t) : QueueBounds (if c then s else t) := by
  split
  · exact hs
  · exact ht

variable (h : QueueBounds s)
include h

theorem pushUp (room : s.upRoom = true) : QueueBounds (s.pushUp k) := by
  obtain ⟨pool, -⟩ := h
  refine ⟨pool, ?_⟩
  have room := upRoom_iff.mp room
  simp
  omega

theorem pushDown {c : Fin 4} {f : DownFrame} (free : s.bufferFree = true) : QueueBounds (s.pushDown c f) := by
  obtain ⟨-, queue⟩ := h
  refine ⟨?_, queue⟩
  rw [pushDown_inUse]
  exact bufferFree_iff.mp free

theorem offerReply : QueueBounds (s.offerReply k) := by
  unfold State.offerReply
  split
  · exact h.pushUp ‹_›
  · exact h

theorem offerReport : QueueBounds (s.offerReport k) := by
  unfold State.offerReport
  split
  · exact h.pushUp ‹_›
  · exact h

theorem offerForward : QueueBounds (s.offerForward i k) := by
  unfold State.offerForward
  split
  · exact h.pushUp (upRoom_iff.mpr (by omega))
  · exact h

/-! ### Watches, presence and occupancy -/

theorem modOven {f : OvenEntry → OvenEntry} : QueueBounds (s.modOven i f) := h
theorem setSlot {x : SlotState} : QueueBounds (s.setSlot i x) := h
theorem modCook {f : CookCtx → CookCtx} : QueueBounds (s.modCook i f) := h
theorem modUpdate {f : UpdateCtx → UpdateCtx} : QueueBounds (s.modUpdate i f) := h
theorem modCleanRecord {f : CleanRecord → CleanRecord} : QueueBounds (s.modCleanRecord i f) := h
theorem setOccupancy {o : Occupancy} : QueueBounds (s.setOccupancy i o) := h
theorem setOverflow {b : Bool} : QueueBounds (s.setOverflow i b) := h
theorem setWatch {w : Option Watch} : QueueBounds (s.setWatch i w) := h
theorem modRecipe {r : Fin 512} {f : RecipeEntry → RecipeEntry} : QueueBounds (s.modRecipe r f) := h
theorem putStop : QueueBounds (s.putStop i) := h
theorem putPending {f : SlotFrame} : QueueBounds (s.putPending i f) := h
theorem countReceived : QueueBounds (s.countReceived i) := h

theorem setPresence {p : Presence} {c : PresenceCause} : QueueBounds (s.setPresence i p c) :=
  offerReport (modOven h)

theorem reloadWatch : QueueBounds (s.reloadWatch i) := by
  unfold State.reloadWatch
  split
  · exact h
  · exact h

theorem startWatch : QueueBounds (s.startWatch i) := by
  unfold State.startWatch
  split
  · exact h
  · exact h

theorem refreeze : QueueBounds (s.refreeze i) := by
  unfold State.refreeze
  split
  · exact h
  · exact h

theorem releaseOccupancy {job : Occupancy} : QueueBounds (s.releaseOccupancy i job) :=
  .ite h.setOccupancy h

/-! ### Cleaning Admission (R81 to R85) -/

theorem dropWait {r : DropReason} : QueueBounds (s.dropWait i r) := by
  unfold State.dropWait
  split
  · exact offerReport (s := s.removeWait i) h
  · exact h

/-- An admission takes a buffer that is free (R82). -/
theorem admitOven {p : Programme} {seq : Byte} {taken : LineTime} {route : Route} (free : s.bufferFree = true) :
    QueueBounds (s.admitOven i p seq taken route) :=
  offerReport (pushDown (s := (s.takeSlot i).modCleanRecord i _) h free)

theorem admissionPass : QueueBounds s.admissionPass :=
  admissionPass_induct QueueBounds (fun _ _ h => h) (fun _ _ _ h => h.dropWait)
    (fun _ _ h _ _ _ _ _ _ free => (h.admitOven free).frame) h

theorem bufferFreed : QueueBounds s.bufferFreed := .ite h.admissionPass h

/-! ### The Call Table (R97 to R105) -/

section
variable {p : Fin 32} {sub : Option OvenId} {code : Nat} {sev : Severity} {kind : CallKind}

/-- A SERVICE frame is built where there is room (R102). -/
theorem reportCall (room : s.upRoom = true) : QueueBounds (s.reportCall p) := by
  unfold State.reportCall
  split
  · rename_i c _
    split
    · exact pushUp (s := (s.setCall p (some { c with state := .reported })).leaveReports p) h room
    · exact pushUp (s := s.freeCall p) h room
    · exact h
  · exact h

theorem buildService : QueueBounds s.buildService :=
  buildService_induct QueueBounds (fun _ _ h room _ => h.reportCall room) h

theorem relock : QueueBounds (s.relock i) := .ite (admissionPass h.modOven) h

theorem relockFor {c : Call} : QueueBounds (s.relockFor c) := by
  unfold State.relockFor
  split
  · exact h.relock
  · exact h

theorem resolveCall {c : Call} : QueueBounds (s.resolveCall p c) :=
  relockFor (buildService (s := (s.setCall p _).joinReports p) h)

theorem clearCall : QueueBounds (s.clearCall p) := by
  unfold State.clearCall
  split
  · exact .ite h (.ite h.resolveCall h)
  · exact h

theorem clearAtSource : QueueBounds (s.clearAtSource sub code) := by
  unfold State.clearAtSource
  split
  · exact h.clearCall
  · exact h

theorem mergeCall : QueueBounds (s.mergeCall p) := by
  unfold State.mergeCall
  split
  · exact h
  · exact h

theorem createCall : QueueBounds (s.createCall p sub code sev kind) := by
  unfold State.createCall
  exact buildService h.frame

end

/-! ### Cooks and locks (R47 to R57, R105, R106) -/

theorem dropDraining {r : Fin 512} {version : Nat} : QueueBounds (s.dropDraining r version) := by
  unfold State.dropDraining
  split
  · exact .ite (.ite h h) h
  · exact h

theorem dropUser {recipe version : Nat} : QueueBounds (s.dropUser recipe version) := by
  unfold State.dropUser
  split
  · exact h
  split
  · exact .ite h h.dropDraining
  · exact h.dropDraining

theorem cookGoIdle {r : CookResult} : QueueBounds (s.cookGoIdle i r) := by
  unfold State.cookGoIdle
  exact modCook (clearAtSource (clearAtSource (clearAtSource (releaseOccupancy (dropUser
    (offerReport (modCook h.setSlot)))))))

theorem stopCook {r : CookResult} : QueueBounds (s.stopCook i r) := .ite h (putStop h.cookGoIdle)

theorem advanceCook : QueueBounds (s.advanceCook i) := .ite h h

theorem acceptCook {r : Fin 512} {v : LiveVersion} {origin : Origin} {batch : BitVec 16} :
    QueueBounds (s.acceptCook i r v origin batch) := by
  unfold State.acceptCook
  exact putPending (modCook (modRecipe h.dropWait.setOccupancy))

theorem lockUpdate : QueueBounds (s.lockUpdate i) := .ite (offerReport h.modUpdate) h

theorem lockOven : QueueBounds (s.lockOven i) := .ite h (lockUpdate (dropWait (stopCook h.modOven)))


section
variable {sub : Option OvenId} {code : Nat} {sev : Severity} {kind : CallKind}

theorem lockSubject : QueueBounds (s.lockSubject sub) := by
  cases sub with
  | none => exact h
  | some i => exact h.lockOven

theorem overflowSubject : QueueBounds (s.overflowSubject sub) := by
  cases sub with
  | none => exact h
  | some i => exact h

/-- An occurrence by case (R97, R100, R101). -/
theorem raise : QueueBounds (s.raise sub code sev kind) := by
  obtain ⟨p, c, -, -, merged⟩ | ⟨-, ⟨-, lost⟩ | ⟨p, -, -, -, created⟩ | ⟨p, -, -, locking⟩ |
    ⟨p, -, -, -, displacing⟩ | ⟨-, -, -, overflowing⟩⟩ := raise_cases (s := s) sub code sev kind
  · rw [merged]; exact h.mergeCall
  · rw [lost]; exact h
  · rw [created]; exact h.createCall
  · rw [locking]; exact h.createCall.lockSubject
  · rw [displacing]; exact lockSubject (createCall (s := (s.freeCall p).loseCall) h)
  · rw [overflowing]; exact lockSubject h.overflowSubject.frame

end

/-! ### The ends of jobs (R9, R87, R119) -/

/-- The REQUEST of an ended cleaning is marked where it stands (R144). -/
theorem staleRequests : QueueBounds (s.staleRequests i) := by
  refine h.fewer fun k => ?_
  fin_cases k <;> simp

theorem giveSlot : QueueBounds (s.giveSlot i) := .ite h h

theorem endCleaning {r : CleanResult} {e : EndedBy} : QueueBounds (s.endCleaning i r e) := by
  unfold State.endCleaning
  extract_lets s1 s2 s3 s4
  have cleared : QueueBounds s2 := clearAtSource (modCleanRecord (staleRequests h.giveSlot))
  have faulted : QueueBounds s4 := .ite (raise cleared.offerReport) cleared.offerReport
  exact admissionPass faulted.modCleanRecord

theorem adopt : QueueBounds (s.adopt i) := dropWait (s := (s.takeSlot i).modCleanRecord i _) h

theorem endApply {cause : FailCause} {v : Version} : QueueBounds (s.endApply i cause v) := by
  unfold State.endApply
  extract_lets failed s1 s2 s3 s4
  have released : QueueBounds s2 := releaseOccupancy h.modUpdate
  have raised : QueueBounds s3 := .ite released.raise released
  exact admissionPass (reloadWatch (refreeze raised.offerReport))

/-! ### Samples and the HELLO (R4 to R10, R60 to R75) -/

theorem raiseIf {code : Nat} {sev : Option Severity} : QueueBounds (s.raiseIf i code sev) := by
  cases sev with
  | none => exact h
  | some sev => exact h.raise

theorem applyVerdict {v : Verdict} : QueueBounds (s.applyVerdict i v) := by
  cases v with
  | goOn => exact h
  | complete => exact h.advanceCook
  | abort r => exact h.stopCook

theorem watchSample {x : Sample} : QueueBounds (s.watchSample i x) := by
  unfold State.watchSample
  extract_lets c p o clamped s1 s2 s3 s4
  have sampled : QueueBounds s1 := h
  have cleared : QueueBounds s2 := .ite sampled.clearAtSource sampled
  have missing : QueueBounds s3 := .ite cleared.raise cleared
  exact missing.raiseIf.raiseIf.applyVerdict

theorem reconcileApply {a : Announced} : QueueBounds (s.reconcileApply i a) := .ite h.endApply h

theorem reconcileCook {a : Announced} : QueueBounds (s.reconcileCook i a) :=
  .ite h.stopCook.raise (.ite (raise h.putStop) h)

theorem reconcileClean {a : Announced} : QueueBounds (s.reconcileClean i a) := by
  unfold State.reconcileClean
  split
  · exact h.adopt
  · exact h
  · exact h.endCleaning
  · exact h

theorem reconcile {a : Announced} : QueueBounds (s.reconcile i a) :=
  h.reconcileApply.reconcileCook.reconcileClean

theorem clearOnMatch : QueueBounds (s.clearOnMatch i) := h.clearAtSource.clearAtSource

theorem returnFromSilent {c : PresenceCause} : QueueBounds (s.returnFromSilent i c) :=
  h.setPresence.clearAtSource.reloadWatch.admissionPass

theorem helloMismatch {a : Announced} : QueueBounds (s.helloMismatch i a) := by
  unfold State.helloMismatch
  extract_lets wasSilent s1 s2 s3
  have demoted : QueueBounds s1 := h.setPresence.setWatch
  have cleared : QueueBounds s2 := .ite demoted.clearAtSource demoted
  have ended : QueueBounds s3 := .ite cleared.endApply cleared
  exact ended.raise

theorem helloOwner {a : Announced} : QueueBounds (s.helloOwner i a) := by
  unfold State.helloOwner
  split
  · exact h.setPresence
  · exact h
  · exact .ite h.setPresence.startWatch.clearOnMatch.reconcile h.raise
  · exact .ite h.reloadWatch.clearOnMatch.reconcile h.helloMismatch
  · exact h.helloMismatch

theorem takeHello {a : Announced} : QueueBounds (s.takeHello i a k) := by
  unfold State.takeHello
  extract_lets s1 s2
  have announced : QueueBounds s1 := h.modOven
  have returned : QueueBounds s2 := .ite announced.returnFromSilent announced
  exact returned.offerForward.helloOwner.countReceived

theorem helloArrives {f : UpFrame} : QueueBounds (s.helloArrives i f) := by
  unfold State.helloArrives
  split
  · exact h.takeHello
  · exact .ite h h

/-! ### Commissioning, retirement, service mode (R15, R17, R131 to R134) -/

theorem commission {r : CommRecord} : QueueBounds (s.commission i r) := by
  unfold State.commission
  dsimp only
  split
  · exact .ite (reconcile (startWatch (setPresence h.modOven))) (setPresence h.modOven)
  · exact setPresence h.modOven

theorem retireUpdate : QueueBounds (s.retireUpdate i) := .ite h (offerReport h.modUpdate)

/-- A purge takes frames out of the class queues (R142). -/
theorem purge : QueueBounds (s.purge i) := by
  have purged : QueueBounds { s with down := s.down.purgedQueues i } := by
    refine h.fewer fun c => ?_
    simpa [Down.purgedQueues] using purgeClass_length_le i _ _
  exact .ite (bufferFreed purged.frame) purged.frame

theorem retireCall {p : Fin 32} : QueueBounds (s.retireCall i p) := by
  unfold State.retireCall
  split
  · exact .ite h h
  · exact h

theorem retireCalls : QueueBounds (s.retireCalls i) := by
  have walk : ∀ (l : List (Fin 32)) (t : State), QueueBounds t →
      QueueBounds (l.foldl (fun t p => t.retireCall i p) t) := by
    intro l
    induction l with
    | nil => exact fun _ h => h
    | cons p rest ih => exact fun _ h => ih _ h.retireCall
  exact buildService (walk _ s h)

theorem retire : QueueBounds (s.retire i) := by
  unfold State.retire
  extract_lets s1 s2 s3 s4 s5 s6
  have purged : QueueBounds s3 := purge (setSlot (modUpdate h.dropWait.retireUpdate))
  have unlocked : QueueBounds s5 := relock (setOverflow purged.retireCalls)
  exact setWatch (modOven unlocked.setPresence)

theorem enterService : QueueBounds (s.enterService i) := refreeze h.modOven

theorem leaveService : QueueBounds (s.leaveService i) := admissionPass (refreeze (reloadWatch h.modOven))

/-! ### Owners of notices and timers -/

theorem stepAck {index : Nat} : QueueBounds (s.stepAck i index) := by
  unfold State.stepAck
  split
  · split
    · exact clearAtSource (modCook h.setSlot)
    · exact clearAtSource (modCook h.setSlot)
    · exact clearAtSource (cookGoIdle h.setSlot)
    · exact h
    · exact h
  · exact h

theorem panelRefused {recipe : Nat} {reason : Result} : QueueBounds (s.panelRefused i recipe reason) :=
  offerReport (.ite h h)

theorem panelStart {recipe : Nat} : QueueBounds (s.panelStart i recipe) := by
  unfold State.panelStart
  split
  · exact h.panelRefused
  split
  · exact h.panelRefused
  · exact h.acceptCook.offerReport
  · exact h.panelRefused

theorem takeFault {code : Nat} : QueueBounds (s.takeFault i code) := by
  unfold State.takeFault
  split
  · exact h.raise
  · exact h

theorem takeFaultClear {code : Nat} : QueueBounds (s.takeFaultClear i code) := by
  unfold State.takeFaultClear
  split
  · split
    · exact h.clearCall
    · exact h
  · exact h

theorem serviceKey {key : Nat} : QueueBounds (s.serviceKey i key) := by
  unfold State.serviceKey
  split
  · exact .ite h (.ite h h.enterService)
  · exact .ite h.leaveService h
  · exact h

theorem watchExpires : QueueBounds (s.watchExpires i) := by
  unfold State.watchExpires
  extract_lets s1 s2
  have silenced : QueueBounds s2 := .ite h.reloadWatch.setPresence h.reloadWatch
  exact silenced.raise.stopCook

theorem ackLost : QueueBounds (s.ackLost i) := by
  unfold State.ackLost
  split
  · exact h.stopCook
  · exact h.stopCook
  · exact h.cookGoIdle
  · exact h
  · exact h

/-! ### The links (R107, R135, R144, R151) -/

theorem lineError : QueueBounds s.lineError := by
  unfold State.lineError
  dsimp only
  split
  · exact (raise (s := { s with calls := { s.calls with window := { s.calls.window with
      count := sat16 s.calls.window.count } } }) h).frame
  · exact h

theorem countLineCrc : QueueBounds s.countLineCrc := lineError h.frame

theorem wholeFrame : QueueBounds s.wholeFrame := by
  have gap : QueueBounds s.lineGap := by
    unfold State.lineGap
    dsimp only
    split
    · exact h
    · exact h
    · exact countLineCrc h.frame
  exact gap.frame

theorem lineEvent {e : LineEvent} : QueueBounds (s.lineEvent e) := by
  have arrives {t : State} (ht : QueueBounds t) (got : List Byte) (good : Bool) :
      QueueBounds (t.wholeArrives got good) := by
    unfold State.wholeArrives
    refine .ite ht (.ite ht.countLineCrc (.ite ht ?_))
    split
    · exact ht
    · exact .ite ht ht
  have takes {t : State} (ht : QueueBounds t) (o : RxOut) : QueueBounds (t.takeRx o) := by
    unfold State.takeRx
    split
    · exact ht
    · exact ht
    · exact ht.countLineCrc
    · exact arrives ht _ _
  exact takes h.frame _

theorem frameLeft {f : DownFrame} : QueueBounds (s.frameLeft f) := by
  unfold State.frameLeft
  split
  · exact h
  split
  · exact h
  · exact .ite h (.ite (.ite h h) h)

/-- The head of a class queue leaves it (R144). -/
theorem leaveClass {c : Fin 4} : QueueBounds (s.leaveClass c) := by
  unfold State.leaveClass
  split
  · exact h
  · rename_i f rest queued
    have left : QueueBounds { s with down := { s.down with classes := s.down.classes.set c rest } } := by
      refine h.fewer fun k => ?_
      by_cases same : k = c
      · subst same
        simp [queued]
      · simp [Fin.val_ne_of_ne (Ne.symm same)]
    exact left.frameLeft.bufferFreed

end

/-- A reset leaves both queues empty (R164). -/
theorem restart {c : ResetCause} : QueueBounds (s.restart c) := by
  have empty : Down.reset.inUse ≤ 48 ∧ Up.reset.frames.length ≤ 32 := by decide
  exact empty

end QueueBounds
end Sys2Proof.Machine
end

section
/-! PROOFS. Every step keeps the bounds of the two queues (R139, R145): the ways of a frame, command by command. -/

namespace Sys2Proof.Machine

/-! ### A frame that is taken finds a buffer free (R111, R117, R140) -/

namespace State

variable {s : State} {i : OvenId}

theorem openRefusal_free (allowed : s.openRefusal i = none) : s.bufferFree = true := by
  simp only [openRefusal, refusal_none_iff] at allowed
  obtain ⟨-, -, -, -, -, free, -⟩ := allowed
  simpa using free

theorem applyRefusal_free (allowed : s.applyRefusal i = none) : s.bufferFree = true := by
  simp only [applyRefusal, refusal_none_iff] at allowed
  obtain ⟨-, -, -, -, free, -⟩ := allowed
  simpa using free

theorem refreeze_bufferFree (s : State) (i : OvenId) : (s.refreeze i).bufferFree = s.bufferFree := by
  unfold refreeze
  split <;> rfl

end State

namespace QueueBounds

variable {s : State} {i : OvenId} {f : StoreFrame} {u : UpFrame}

/-! ### The ways of a frame -/

theorem finish {a : Answered} {r : ReplyTo} (h : QueueBounds a.after) : QueueBounds (a.finish r) := by
  unfold Answered.finish
  split
  · exact h.offerReply
  · exact h

section
variable (h : QueueBounds s)
include h

theorem owned {cls : Byte} {act : State → Answered} (owner : QueueBounds (act s).after) :
    QueueBounds (s.owned cls f act) :=
  arriveStore_induct QueueBounds h h h owner.finish

/-- The gateway address a CONTROL frame sets is none of the queues' concern. -/
theorem control {g : Gate} {act : State → Answered} (owner : ∀ t, QueueBounds t → QueueBounds (act t).after) :
    QueueBounds (s.control g f act) :=
  control_induct QueueBounds h h h (fun _ => offerReply (s := s.fromGateway f) h) (owner (s.fromGateway f) h).finish

theorem forAddress {act : OvenId → Answered} (owner : ∀ i, QueueBounds (act i).after) :
    QueueBounds (s.forAddress f act).after := by
  unfold State.forAddress
  split
  · exact owner _
  · exact h

theorem forRecipe {act : Fin 512 → Answered} (owner : ∀ r, QueueBounds (act r).after) :
    QueueBounds (s.forRecipe f act).after := by
  unfold State.forRecipe
  split
  · exact owner _
  · exact h

theorem forOven {tag : BitVec 16} {ok : Bool} {act : OvenId → Answered}
    (owner : ∀ i, QueueBounds (act i).after) : QueueBounds (s.forOven f tag ok act).after := by
  unfold State.forOven
  split
  · exact h
  split
  · exact owner _
  · exact h

theorem arriveUp {cls : Byte} {tag : BitVec 16} {act : OvenId → State → State}
    (owner : ∀ i t, QueueBounds t → QueueBounds (act i t)) : QueueBounds (s.arriveUp cls tag u act) :=
  arriveUp_induct QueueBounds h.wholeFrame h.wholeFrame h.wholeFrame h.wholeFrame fun i => owner i _ h.wholeFrame

theorem dispatchUp {forward owner : State → State} (copied : ∀ t, QueueBounds t → QueueBounds (forward t))
    (owned : ∀ t, QueueBounds t → QueueBounds (owner t)) : QueueBounds (s.dispatchUp i forward owner) := by
  unfold State.dispatchUp
  split
  · exact h
  · exact h
  · exact h
  · exact owned _ (copied _ h.reloadWatch.countReceived)
  · exact owned _ (copied _ h.returnFromSilent.reloadWatch.countReceived)

theorem takeNotice {tag : BitVec 16} {owner : OvenId → State → State}
    (owned : ∀ i t, QueueBounds t → QueueBounds (owner i t)) : QueueBounds (s.takeNotice tag u owner) :=
  h.arriveUp fun i _ h => h.dispatchUp (fun _ h => .ite h h.offerForward) (owned i)

/-! ### Events without a kitchen frame -/

theorem ready : QueueBounds (doReady s) := by
  unfold doReady
  split
  · extract_lets s1 s2 s3
    have restored : QueueBounds s1 := by
      unfold s1 State.restore
      split <;> exact h
    have raised : QueueBounds s3 := .ite restored.offerReport.raise restored.offerReport
    exact raised.frame
  · exact h

theorem startUpDiscard {l : Link} : QueueBounds (doStartUpDiscard l s) := by
  unfold doStartUpDiscard
  split
  · cases l with
    | store => exact h
    | ovenLine => exact h.wholeFrame.frame
  · exact h

theorem watchTick : QueueBounds (doWatchTick s) := .ite h h

theorem lineErrorWindowClose : QueueBounds (doLineErrorWindowClose s) := by
  unfold doLineErrorWindowClose
  extract_lets t
  split
  · have cleared : QueueBounds t := .ite h.clearAtSource h
    exact cleared.frame
  · exact h

theorem tableClearCompletion : QueueBounds (doTableClearCompletion s) := by
  unfold doTableClearCompletion
  split
  · exact offerReply h.frame
  · exact h

theorem saveEnd : QueueBounds (doSaveEnd s) := by
  unfold doSaveEnd
  split
  · exact offerReply h.frame
  · exact h

theorem classify {p : List Byte} : QueueBounds (s.classify p) := .ite h (.ite h (.ite h h))

theorem storeFrameDropped {e : EthFrame} : QueueBounds (doStoreFrameDropped e s) := by
  unfold doStoreFrameDropped
  split
  · exact h
  · exact .ite h h
  · exact h
  · exact h

theorem storeClassifierDiscard {e : EthFrame} : QueueBounds (doStoreClassifierDiscard e s) := by
  unfold doStoreClassifierDiscard
  split
  · exact .ite h h.classify
  · exact h

theorem pauseFrame {dest : EthAddr} {quanta : BitVec 16} : QueueBounds (doPauseFrame dest quanta s) :=
  .ite h (.ite h h)

/-- The receiver takes the events one by one. -/
theorem lineFrameDiscard {events : List LineEvent} : QueueBounds (doLineFrameDiscard events s) := by
  unfold doLineFrameDiscard
  induction events generalizing s with
  | nil => exact h
  | cons e rest ih => exact ih h.lineEvent

theorem lineTransmitterTake : QueueBounds (doLineTransmitterTake s) := by
  obtain ⟨source, k, -, -, taken⟩ | ⟨-, left⟩ := lineTransmitterTake_cases (s := s)
  · rw [taken]
    cases source <;> exact h.frame
  · rw [left]
    exact h

theorem transmissionEnd : QueueBounds (doTransmissionEnd s) := by
  unfold doTransmissionEnd
  split
  · exact h
  · dsimp only
    split
    · exact leaveClass h.frame
    · exact h
    · exact h

theorem storeLinkSend : QueueBounds (doStoreLinkSend s) := by
  unfold doStoreLinkSend
  split
  · exact .ite h h
  · exact h

/-- The frame sent leaves the queue before SERVICE frames are built (R102, R146). -/
theorem storeLinkTransmissionEnd : QueueBounds (doStoreLinkTransmissionEnd s) := by
  unfold doStoreLinkTransmissionEnd
  split
  · rename_i queued
    obtain ⟨pool, queue⟩ := h
    rw [queued] at queue
    exact .ite restart (buildService ⟨pool, (Nat.le_succ _).trans queue⟩)
  · exact h

/-! ### Requests for the part, its ovens and its tables -/

theorem statusRead : QueueBounds (doStatusRead f s) := h.control fun t h => by split <;> exact h

theorem configWrite : QueueBounds (doConfigWrite f s) := h.control fun t h => by
  split
  · exact h
  · exact .ite (admissionPass h.frame) h.frame

theorem configRead : QueueBounds (doConfigRead f s) := h.control fun t h => by
  split
  · exact h
  split <;> exact h

theorem daypartSet : QueueBounds (doDaypartSet f s) := h.control fun t h => by
  split
  · exact h
  · exact admissionPass h.frame

theorem rollCall : QueueBounds (doRollCall f s) := h.control fun t h => h.frame

theorem softReset : QueueBounds (doSoftReset f s) := h.control fun t h => by
  split
  · exact h.offerReply.frame
  · exact restart

theorem save : QueueBounds (doSave f s) := h.control fun t h => by
  split
  · exact h.raise
  · exact h

theorem ovenCommission : QueueBounds (doOvenCommission f s) := h.control fun t h => h.forAddress fun i => by
  dsimp only
  split
  · exact h
  split
  · exact h
  split
  · exact h
  · exact h.commission

theorem ovenRetire : QueueBounds (doOvenRetire f s) := h.control fun t h => h.forAddress fun i => by
  split
  · exact h
  split
  · exact h
  · exact h.retire

theorem ovenSet : QueueBounds (doOvenSet f s) := h.control fun t h => h.forAddress fun i => by
  split <;> exact h

theorem serviceEnter : QueueBounds (doServiceEnter f s) := h.control fun t h => h.forAddress fun i => by
  split
  · exact h
  split
  · exact h
  split
  · exact h
  · exact h.enterService

theorem serviceLeave : QueueBounds (doServiceLeave f s) := h.control fun t h => h.forAddress fun i => by
  split
  · exact h.leaveService
  · exact h

theorem watchReload : QueueBounds (doWatchReload f s) := h.control fun t h => h.forAddress fun i => by
  split
  · exact h.reloadWatch
  · exact h

theorem mapStage : QueueBounds (doMapStage f s) := h.control fun t h => h.forRecipe fun r => by
  dsimp only
  split
  · exact h
  split
  · exact h
  split <;> exact h

theorem mapSet : QueueBounds (doMapSet f s) := h.control fun t h => h.forRecipe fun r => by split <;> exact h

theorem mapReadNext : QueueBounds (doMapReadNext f s) := h.control fun t h => by split <;> exact h

theorem retireLive {r : Fin 512} : QueueBounds (s.retireLive r) := by
  unfold State.retireLive
  split
  · exact h
  · exact .ite h h

theorem release : QueueBounds (doRelease f s) := h.control fun t h => h.forRecipe fun r => by
  split
  · exact h
  split
  · exact h
  split
  · exact h
  · exact h.retireLive.frame

theorem withdraw : QueueBounds (doWithdraw f s) := h.control fun t h => h.forRecipe fun r => by
  split
  · exact h
  split
  · exact h
  · exact h.retireLive

theorem discardStaged : QueueBounds (doDiscardStaged f s) := h.control fun t h => h.forRecipe fun r => by
  split <;> exact h

theorem writeStep {k : Nat} {fields : Option (StepParams × Bool)} : QueueBounds (s.writeStep k fields).after := by
  unfold State.writeStep
  split
  · exact h
  split
  · exact h
  split <;> exact h

theorem readStep {k : Nat} : QueueBounds (s.readStep k).after := by
  unfold State.readStep
  split <;> exact h

theorem stepWriteNext : QueueBounds (doStepWriteNext f s) := h.control fun t h => by
  split
  · exact h.writeStep
  · exact h

theorem stepReadNext : QueueBounds (doStepReadNext f s) := h.control fun t h => by
  split
  · exact h.readStep
  · exact h

theorem tableClear : QueueBounds (doTableClear f s) := h.control fun t h => by split <;> exact h

theorem classMapWrite : QueueBounds (doClassMapWrite f s) := h.control fun t h => by split <;> exact h

theorem classMapRead : QueueBounds (doClassMapRead f s) := h.control fun t h => by split <;> exact h

theorem severityMapWrite : QueueBounds (doSeverityMapWrite f s) := h.control fun t h => by split <;> exact h

theorem severityMapRead : QueueBounds (doSeverityMapRead f s) := h.control fun t h => by split <;> exact h

theorem callRead : QueueBounds (doCallRead f s) := h.control fun t h => by split <;> exact h

theorem acknowledge {p : Fin 32} {c : Call} : QueueBounds (s.acknowledge p c).after := by
  unfold State.acknowledge
  dsimp only
  split
  · exact resolveCall (s := s.leaveReports p) h
  · exact h

theorem callAck : QueueBounds (doCallAck f s) := h.control fun t h => by
  split
  · exact h
  split
  · exact h
  split
  · exact h
  split
  · exact h.acknowledge
  · exact h.acknowledge
  · exact h
  · exact h

theorem callClearOverflow : QueueBounds (doCallClearOverflow f s) := h.control fun t h => h.forAddress fun i => by
  split
  · exact relock h.setOverflow
  · exact h

theorem cleanRelease : QueueBounds (doCleanRelease f s) := h.control fun t h => h.forAddress fun i => by
  split
  · exact h.endCleaning
  · exact h

/-! ### Frames for an oven (R44, R79, R110, R141): a class queue takes one where a buffer is free -/

theorem cookStart : QueueBounds (doCookStart f s) := h.owned <| h.forOven fun i => h.forRecipe fun r => by
  unfold State.startCook
  split
  · exact h
  split
  · exact h.acceptCook
  · exact h

theorem cookStop : QueueBounds (doCookStop f s) := h.owned <| h.forOven fun i => by
  split
  · exact h
  · exact h.stopCook

theorem requestCleaning {p : Programme} {seq : Byte} : QueueBounds (s.requestCleaning i p seq).after := by
  unfold State.requestCleaning
  split
  · exact h
  split
  · split
    · exact h.admitOven ‹_›
    · exact h
  · exact h

theorem cleanRequest : QueueBounds (doCleanRequest f s) := h.owned <| h.forOven fun i => by
  split
  · exact h.requestCleaning
  · exact h

theorem cancelCleaning : QueueBounds (s.cancelCleaning i f).after := by
  unfold State.cancelCleaning
  split
  · exact h
  split
  · exact h
  split
  · exact h
  split
  · exact modCleanRecord (h.pushDown ‹_›)
  · exact h

theorem forwardUpdate {k : Fin 4} {tag : BitVec 16} (free : s.bufferFree = true) :
    QueueBounds (s.forwardUpdate k tag i f) :=
  h.pushDown free

theorem updateOpen : QueueBounds (doUpdateOpen f s) := h.owned <| h.forOven fun i => by
  split
  · exact h
  split
  · exact h
  · rename_i allowed
    have free := State.openRefusal_free allowed
    exact forwardUpdate h.modUpdate free

theorem takeChunk {offset : Nat} {data : List Byte} : QueueBounds (s.takeChunk i f offset data).after := by
  unfold State.takeChunk
  dsimp only
  split
  · exact h
  split
  · exact h
  split
  · exact h
  split
  · exact h
  split
  · exact h
  split
  · exact h
  · rename_i free
    exact modUpdate (h.forwardUpdate (by simpa using free))

theorem sealUpdate : QueueBounds (s.sealUpdate i f).after := by
  unfold State.sealUpdate
  dsimp only
  split
  · exact h
  split
  · exact h
  split
  · exact h
  split
  · exact h
  · rename_i free
    have free : s.bufferFree = true := by simpa using free
    exact forwardUpdate h.modUpdate free

theorem updateApply : QueueBounds (doUpdateApply f s) := h.owned <| h.forOven fun i => by
  split
  · exact h
  · rename_i allowed
    have free := State.applyRefusal_free allowed
    exact forwardUpdate (refreeze (modUpdate h.setOccupancy)) ((State.refreeze_bufferFree ..).trans free)

theorem abortUpdate : QueueBounds (s.abortUpdate i f).after := by
  unfold State.abortUpdate
  split
  · exact h
  split
  · exact h
  · rename_i free
    have free : s.bufferFree = true := by simpa using free
    exact forwardUpdate h.modUpdate free

theorem direct : QueueBounds (doDirect f s) := h.owned <| by
  split
  · unfold State.forwardDirect
    split
    · exact h
    split
    · exact h
    split
    · exact h
    · rename_i free
      exact h.pushDown (by simpa using free)
  · exact h

/-! ### Upward frames -/

theorem sample {tag : BitVec 16} : QueueBounds (doSample tag u s) :=
  h.arriveUp fun _ _ h => h.dispatchUp (fun _ h => .ite (offerForward h.modOven) h) fun _ h => h.watchSample

theorem cleanPhase : QueueBounds (doCleanPhase u s) := h.takeNotice fun _ _ h => .ite h h

theorem cleanDone : QueueBounds (doCleanDone u s) := h.takeNotice fun _ t h => by
  split
  · exact .ite h.endCleaning h
  · exact h

theorem updateStatus : QueueBounds (doUpdateStatus u s) := h.takeNotice fun _ t h => by
  split
  · split
    · exact h
    · exact h.endApply
    · exact h
  · exact h

end
end QueueBounds

/-! ### Every command -/

theorem exec_queueBounds {s : State} (h : QueueBounds s) (c : Instr) : ∃ t, exec c s = .next t ∧ QueueBounds t := by
  cases c with
  | powerOn => exact ⟨_, rfl, .restart⟩
  | resetPin => exact ⟨_, rfl, .restart⟩
  | ready => exact ⟨_, rfl, h.ready⟩
  | startUpDiscard link => exact ⟨_, rfl, h.startUpDiscard⟩
  | watchTick => exact ⟨_, rfl, h.watchTick⟩
  | silenceWatchExpiry n => exact ⟨_, rfl, .ite h.watchExpires h⟩
  | ackTimerExpiry n => exact ⟨_, rfl, .ite (.ackLost (.raise h.setSlot)) h⟩
  | overtimeExpiry n => exact ⟨_, rfl, .ite (.raise h.modCleanRecord) h⟩
  | applyTimerExpiry n => exact ⟨_, rfl, .ite h.endApply h⟩
  | lineErrorWindowClose => exact ⟨_, rfl, h.lineErrorWindowClose⟩
  | pauseExpiry => exact ⟨_, rfl, h⟩
  | softResetTenthTick => exact ⟨_, rfl, .ite .restart h⟩
  | tableClearCompletion => exact ⟨_, rfl, h.tableClearCompletion⟩
  | saveEnd => exact ⟨_, rfl, h.saveEnd⟩
  | storeFrameDropped e => exact ⟨_, rfl, h.storeFrameDropped⟩
  | storeClassifierDiscard e => exact ⟨_, rfl, h.storeClassifierDiscard⟩
  | pauseFrame dest quanta => exact ⟨_, rfl, h.pauseFrame⟩
  | statusRead f => exact ⟨_, rfl, h.statusRead⟩
  | configWrite f => exact ⟨_, rfl, h.configWrite⟩
  | configRead f => exact ⟨_, rfl, h.configRead⟩
  | daypartSet f => exact ⟨_, rfl, h.daypartSet⟩
  | rollCall f => exact ⟨_, rfl, h.rollCall⟩
  | softReset f => exact ⟨_, rfl, h.softReset⟩
  | save f => exact ⟨_, rfl, h.save⟩
  | ovenCommission f => exact ⟨_, rfl, h.ovenCommission⟩
  | ovenRetire f => exact ⟨_, rfl, h.ovenRetire⟩
  | ovenRead f => exact ⟨_, rfl, h.control fun _ h => h.forAddress fun _ => h⟩
  | ovenSet f => exact ⟨_, rfl, h.ovenSet⟩
  | serviceEnter f => exact ⟨_, rfl, h.serviceEnter⟩
  | serviceLeave f => exact ⟨_, rfl, h.serviceLeave⟩
  | watchReload f => exact ⟨_, rfl, h.watchReload⟩
  | mapStage f => exact ⟨_, rfl, h.mapStage⟩
  | mapSet f => exact ⟨_, rfl, h.mapSet⟩
  | mapRead f => exact ⟨_, rfl, h.control fun _ h => h.forRecipe fun _ => h⟩
  | mapReadNext f => exact ⟨_, rfl, h.mapReadNext⟩
  | release f => exact ⟨_, rfl, h.release⟩
  | withdraw f => exact ⟨_, rfl, h.withdraw⟩
  | discardStaged f => exact ⟨_, rfl, h.discardStaged⟩
  | stepWrite f => exact ⟨_, rfl, h.control fun _ h => h.writeStep⟩
  | stepWriteNext f => exact ⟨_, rfl, h.stepWriteNext⟩
  | stepRead f => exact ⟨_, rfl, h.control fun _ h => h.readStep⟩
  | stepReadNext f => exact ⟨_, rfl, h.stepReadNext⟩
  | tableClear f => exact ⟨_, rfl, h.tableClear⟩
  | classMapWrite f => exact ⟨_, rfl, h.classMapWrite⟩
  | classMapRead f => exact ⟨_, rfl, h.classMapRead⟩
  | severityMapWrite f => exact ⟨_, rfl, h.severityMapWrite⟩
  | severityMapRead f => exact ⟨_, rfl, h.severityMapRead⟩
  | callRead f => exact ⟨_, rfl, h.callRead⟩
  | callAck f => exact ⟨_, rfl, h.callAck⟩
  | callClearOverflow f => exact ⟨_, rfl, h.callClearOverflow⟩
  | cleanRelease f => exact ⟨_, rfl, h.cleanRelease⟩
  | cookStart f => exact ⟨_, rfl, h.cookStart⟩
  | cookStop f => exact ⟨_, rfl, h.cookStop⟩
  | cleanRequest f => exact ⟨_, rfl, h.cleanRequest⟩
  | cleanCancel f => exact ⟨_, rfl, h.owned (h.forOven fun _ => h.cancelCleaning)⟩
  | updateOpen f => exact ⟨_, rfl, h.updateOpen⟩
  | updateChunk f => exact ⟨_, rfl, h.owned (h.forOven fun _ => h.takeChunk)⟩
  | updateSeal f => exact ⟨_, rfl, h.owned (h.forOven fun _ => h.sealUpdate)⟩
  | updateApply f => exact ⟨_, rfl, h.updateApply⟩
  | updateAbort f => exact ⟨_, rfl, h.owned (h.forOven fun _ => h.abortUpdate)⟩
  | direct f => exact ⟨_, rfl, h.direct⟩
  | lineFrameDiscard events => exact ⟨_, rfl, h.lineFrameDiscard⟩
  | sample tag f => exact ⟨_, rfl, h.sample⟩
  | hello f => exact ⟨_, rfl, h.arriveUp fun _ _ h => h.helloArrives⟩
  | stepAck f => exact ⟨_, rfl, h.takeNotice fun _ _ h => h.stepAck⟩
  | panelStart f => exact ⟨_, rfl, h.takeNotice fun _ _ h => h.panelStart⟩
  | panelStop f => exact ⟨_, rfl, h.takeNotice fun _ _ h => h.stopCook⟩
  | fault f => exact ⟨_, rfl, h.takeNotice fun _ _ h => h.takeFault⟩
  | faultClear f => exact ⟨_, rfl, h.takeNotice fun _ _ h => h.takeFaultClear⟩
  | cleanPhase f => exact ⟨_, rfl, h.cleanPhase⟩
  | cleanDone f => exact ⟨_, rfl, h.cleanDone⟩
  | updateStatus f => exact ⟨_, rfl, h.updateStatus⟩
  | serviceKey f => exact ⟨_, rfl, h.takeNotice fun _ _ h => h.serviceKey⟩
  | ovenNote f => exact ⟨_, rfl, h.takeNotice fun _ _ h => h⟩
  | lineTransmitterTake => exact ⟨_, rfl, h.lineTransmitterTake⟩
  | transmissionEnd => exact ⟨_, rfl, h.transmissionEnd⟩
  | storeLinkSend => exact ⟨_, rfl, h.storeLinkSend⟩
  | storeLinkTransmissionEnd => exact ⟨_, rfl, h.storeLinkTransmissionEnd⟩

/-- Settles O55: a command keeps the bounds, and an idle step leaves the queues. -/
theorem queueBoundsKept : Obligations.QueueBoundsKept := by
  intro s t h run
  unfold step at run
  split at run
  · rename_i c rest _
    obtain ⟨u, ran, bounds⟩ := exec_queueBounds (s := { s with pending := rest }) h c
    rw [ran] at run
    cases run
    exact bounds
  · cases run
    exact .ite h h

end Sys2Proof.Machine
end

section
/-! THEOREM. DIRECT (R139, R141): its form, the checks in order, and the class queue an accepted frame joins; settles
`Obligations.Direct`. -/

namespace Sys2Proof.Machine

variable {s u : State} {f : StoreFrame} {i : OvenId} {k : Fin 64} {a : Reply}

/-! ### The checks of R141 in order, each reached when those before it pass -/

section

theorem forwardDirect_unknown (unknown : (s.oven i).record = none) : s.forwardDirect i k f = s.says .unknownOven :=
  if_pos (by simp [OvenEntry.commissioned, unknown])

variable (known : (s.oven i).record.isSome = true)
include known

theorem forwardDirect_known : s.forwardDirect i k f =
    if (s.oven i).presence ≠ .active then s.says .notActive
    else if !s.bufferFree then s.refuses poolBusy
    else (s.pushDown s.classMap[k] (downFrame clsDirect f.tag i f.seq f.payload)).silently :=
  if_neg (by simp [OvenEntry.commissioned, known])

theorem forwardDirect_passive (passive : (s.oven i).presence ≠ .active) :
    s.forwardDirect i k f = s.says .notActive :=
  (forwardDirect_known known).trans (if_pos passive)

variable (active : (s.oven i).presence = .active)
include active

theorem forwardDirect_full (full : 48 ≤ s.down.inUse) : s.forwardDirect i k f = s.refuses poolBusy := by
  rw [forwardDirect_known known, if_neg (not_not.mpr active), if_pos (by simp [bufferFree_false full])]

theorem forwardDirect_accepted (room : s.down.inUse < 48) : s.forwardDirect i k f =
    (s.pushDown s.classMap[k] (downFrame clsDirect f.tag i f.seq f.payload)).silently := by
  rw [forwardDirect_known known, if_neg (not_not.mpr active), if_neg (by simp [bufferFree_iff.mpr room])]

end

/-! ### The way of a DIRECT frame to those checks (R136, R141) -/

section
variable (ready : s.phase = .ready) (len : f.len.toNat = f.payload.length) (short : f.payload.length ≤ maxPayload)
include ready len short

/-- A frame for the part itself, or of a kind above 63, reaches no class queue. -/
theorem doDirect_badField (address : f.oven.toNat ≤ 16) (wrong : f.oven = 0 ∨ 63 < f.tag.toNat) :
    doDirect f s = s.repliesTo 4 f { result := .badField } := by
  rw [doDirect, State.owned, arriveStore_pass clsDirect _ ready len short (by simp [storeAddressOk, address])]
  have foreign : clsDirect ≠ clsControl := by decide
  rcases wrong with part | past
  · rw [ovenOf_none (.inl (congrArg BitVec.toNat part))]
    exact finish_repliesTo foreign
  · rw [below_none past]
    cases ovenOf f.oven.toNat <;> exact finish_repliesTo foreign

variable (oven : ovenOf f.oven.toNat = some i) (kind : f.tag.toNat = k.val)
include oven kind

theorem doDirect_named : doDirect f s = (s.forwardDirect i k f).finish (replyTo clsDirect f) := by
  rw [doDirect, owned_pass clsDirect _ i ready oven len short, oven, below_some kind]

theorem doDirect_refused (refused : s.forwardDirect i k f = { after := s, reply := some a }) :
    doDirect f s = s.repliesTo 4 f a := by
  rw [doDirect_named ready len short oven kind, refused]
  exact finish_repliesTo (by decide)

/-- Oven address, kind, sequence and payload are the store's (R141). -/
theorem doDirect_accepted (known : (s.oven i).record.isSome = true) (active : (s.oven i).presence = .active)
    (room : s.down.inUse < 48) : doDirect f s = s.pushDown s.classMap[k]
      { frame := { cls := 4, oven := f.oven, tag := f.tag, seq := f.seq, payload := f.payload }, live := true } := by
  rw [doDirect_named ready len short oven kind, forwardDirect_accepted known active room, downFrame, ovenByte_eq oven]
  rfl

end

/-! ### The statement -/

/-- Settles O47: the form, then the checks one by one, then the queue. -/
theorem direct : Obligations.Direct := by
  intro s f ready len short address answers
  have ran {t : State} (run : doDirect f s = t) : exec (.direct f) s = .next t := congrArg Host.Outcome.next run
  refine ⟨fun wrong => ran (doDirect_badField ready len short address wrong), fun i oven kinds => ?_,
    fun i k oven kind known active room => ran (doDirect_accepted ready len short oven kind known active room)⟩
  have refuses {a : Reply} (refused : s.forwardDirect i ⟨f.tag.toNat, Nat.lt_succ_of_le kinds⟩ f =
      { after := s, reply := some a }) : answers a :=
    ran (doDirect_refused ready len short oven rfl refused)
  exact ⟨fun unknown => refuses (forwardDirect_unknown unknown),
    fun known passive => refuses (forwardDirect_passive known passive),
    fun known active full => refuses (forwardDirect_full known active full)⟩

end Sys2Proof.Machine
end

section
/-! THEOREM. What the MAC and the Classifier discard on the Store Link (R136, R148, R166): the MAC's sorting and the
Classifier's checks as conditions, then each discard with its counter; settles
`Obligations.MacAndClassifierDiscards`. -/

namespace Sys2Proof.Machine

variable {s : State} {e : EthFrame} {kitchenType : BitVec 16} {p : List Byte}

/-! ### The MAC's sorting (R136, R148) -/

theorem badReception_iff : EthFrame.badReception e = true ↔ e.rxErr = true ∨ EthFrame.size e < 64 ∨
    1518 < EthFrame.size e ∨ e.fcs ≠ crc32 (EthFrame.covered e) := by
  simp [EthFrame.badReception, or_assoc]

theorem pauseDest_iff {d : EthAddr} :
    pauseDest d = true ↔ d = Config.stationAddress ∨ d = 0x0180C2000001#48 := by
  simp [pauseDest]

theorem sort_badFrame (broken : EthFrame.badReception e = true) : EthFrame.sort kitchenType e = .badFrame :=
  if_pos broken

section
variable (sound : ¬ EthFrame.badReception e = true)
include sound

theorem sort_sound : EthFrame.sort kitchenType e =
    if e.etype = macControlType then
      if EthFrame.macOpcode e = 1 ∧ pauseDest e.dest = true then .pause else .foreign
    else if e.dest ≠ Config.stationAddress ∧ e.dest ≠ ethBroadcast then .foreign
    else if e.etype ≠ kitchenType then .foreign
    else .kitchen :=
  if_neg sound

/-- A control frame that is no pause frame (R148). -/
theorem sort_control (control : e.etype = macControlType)
    (other : ¬ (EthFrame.macOpcode e = 1 ∧ pauseDest e.dest = true)) : EthFrame.sort kitchenType e = .foreign := by
  rw [sort_sound sound, if_pos control, if_neg other]

/-- A frame of another type or for another destination (R136). -/
theorem sort_elsewhere (data : e.etype ≠ macControlType)
    (other : e.etype ≠ kitchenType ∨ e.dest ≠ Config.stationAddress ∧ e.dest ≠ ethBroadcast) :
    EthFrame.sort kitchenType e = .foreign := by
  rw [sort_sound sound, if_neg data]
  split
  · rfl
  · rename_i here
    exact if_pos (other.resolve_right here)

end

/-! ### The Classifier's checks (R136) -/

theorem storeLengthOk_iff : storeLengthOk p = true ↔
    headerLen p ≤ 480 ∧ (p.length = 7 + headerLen p ∨ p.length = 46 ∧ 7 + headerLen p ≤ 46) := by
  simp [storeLengthOk]

theorem storeAddressOk_iff {cls oven : Byte} :
    storeAddressOk cls oven = true ↔ oven.toNat ≤ 16 ∨ oven.toNat = 31 ∧ cls.toNat = 5 := by
  simp [storeAddressOk, ← BitVec.toNat_inj]

theorem classify_length (wrong : ¬ storeLengthOk p = true) : s.classify p = s.countStoreLength :=
  if_pos (by simp [wrong])

section
variable (fits : storeLengthOk p = true)
include fits

theorem classify_fits : s.classify p =
    if !(decide (1 ≤ (p.getD 0 0).toNat) && decide ((p.getD 0 0).toNat ≤ 5)) then s.countStoreClass
    else if !storeAddressOk (p.getD 0 0) (p.getD 1 0) then s.countStoreAddress
    else s :=
  if_neg (by simp [fits])

theorem classify_class (other : (p.getD 0 0).toNat = 0 ∨ 5 < (p.getD 0 0).toNat) :
    s.classify p = s.countStoreClass := by
  rw [classify_fits fits, if_pos]
  rw [Bool.not_eq_true', Bool.and_eq_false_iff, decide_eq_false_iff_not, decide_eq_false_iff_not]
  omega

theorem classify_address (least : 1 ≤ (p.getD 0 0).toNat) (greatest : (p.getD 0 0).toNat ≤ 5)
    (wrong : ¬ storeAddressOk (p.getD 0 0) (p.getD 1 0) = true) : s.classify p = s.countStoreAddress := by
  rw [classify_fits fits, if_neg (by simp only [least, greatest]; decide), if_pos (by simp only [wrong]; decide)]

end

/-! ### The two discards -/

theorem doStoreFrameDropped_badFrame (bad : EthFrame.sort s.config.kitchenType e = .badFrame) :
    doStoreFrameDropped e s = s.countStoreFcs := by
  rw [doStoreFrameDropped, bad]

theorem doStoreFrameDropped_foreign (foreign : EthFrame.sort s.config.kitchenType e = .foreign) :
    doStoreFrameDropped e s = if s.phase = .restoring then s.countStartUp else s.countStoreForeign := by
  rw [doStoreFrameDropped, foreign]

theorem doStoreClassifierDiscard_kitchen (kitchen : EthFrame.sort s.config.kitchenType e = .kitchen) :
    doStoreClassifierDiscard e s = if s.phase = .restoring then s.countStartUp else s.classify e.payload := by
  rw [doStoreClassifierDiscard, kitchen]

/-- Settles O15: the MAC's verdict names the counter, then the Classifier's first check that fails. -/
theorem macAndClassifierDiscards : Obligations.MacAndClassifierDiscards := by
  refine ⟨?_, ?_, fun s e restoring kitchen => ?_⟩
  · intro s e broken foreign
    have sorted (sound : ¬ broken) (other : foreign) : EthFrame.sort s.config.kitchenType e = .foreign := by
      have sound : ¬ EthFrame.badReception e = true := mt badReception_iff.mp sound
      rcases other with ⟨control, noPause⟩ | ⟨data, other⟩
      · exact sort_control sound control (mt (And.imp_right pauseDest_iff.mp) noPause)
      · exact sort_elsewhere sound data other
    refine ⟨fun bad => ?_, fun sound other ready => ?_, fun sound other restoring => ?_⟩
    · exact congrArg Host.Outcome.next (doStoreFrameDropped_badFrame (sort_badFrame (badReception_iff.mpr bad)))
    · have dropped := doStoreFrameDropped_foreign (sorted sound other)
      rw [if_neg (by simp [ready])] at dropped
      exact congrArg Host.Outcome.next dropped
    · have dropped := doStoreFrameDropped_foreign (sorted sound other)
      rw [if_pos restoring] at dropped
      exact congrArg Host.Outcome.next dropped
  · intro s e ready kitchen n fits cls addr
    have classified {t : State} (run : s.classify e.payload = t) :
        exec (.storeClassifierDiscard e) s = .next t := by
      have discarded := doStoreClassifierDiscard_kitchen kitchen
      rw [if_neg (by simp [ready]), run] at discarded
      exact congrArg Host.Outcome.next discarded
    refine ⟨fun wrong => classified (classify_length (mt storeLengthOk_iff.mp wrong)),
      fun length other => classified (classify_class (storeLengthOk_iff.mpr length) other),
      fun length least greatest beyond other =>
        classified (classify_address (storeLengthOk_iff.mpr length) least greatest fun passes => ?_)⟩
    exact (storeAddressOk_iff.mp passes).elim (Nat.not_le.mpr beyond) other
  · have discarded := doStoreClassifierDiscard_kitchen kitchen
    rw [if_pos restoring] at discarded
    exact congrArg Host.Outcome.next discarded

end Sys2Proof.Machine
end

section
/-! SUPPORT. The Oven Line receiver over runs of events (R135, R150, R151): the bytes of a frame that bring nothing, the
one event that ends a frame, and what that event is to the part. -/

namespace Sys2Proof.Machine

/-! ### Runs that bring nothing -/

/-- The receiver takes events without a report and goes from one state to another. -/
inductive LineRx.Quiet : LineRx → List LineEvent → LineRx → Prop
  | nil {r : LineRx} : Quiet r [] r
  | cons {r q u : LineRx} {e : LineEvent} {es : List LineEvent} (silent : r.step e = (q, .nothing))
      (rest : Quiet q es u) : Quiet r (e :: es) u

/-- An event without a report moves the receiver alone. -/
theorem lineEvent_silent {s : State} {e : LineEvent} {q : LineRx} (silent : s.lineRx.step e = (q, .nothing)) :
    s.lineEvent e = { s with lineRx := q } := by
  rw [State.lineEvent, silent]
  rfl

namespace LineRx.Quiet

variable {r q u : LineRx} {es es' : List LineEvent} {e : LineEvent} {o : RxOut}

theorem append (h : r.Quiet es q) (h' : q.Quiet es' u) : r.Quiet (es ++ es') u := by
  induction h with
  | nil => exact h'
  | cons silent _ ih => exact .cons silent (ih h')

theorem single (silent : r.step e = (q, .nothing)) : r.Quiet [e] q := .cons silent .nil

/-- A quiet run reports nothing at each event, and the event after it its own. -/
theorem run_ends (h : r.Quiet es q) (ends : q.step e = (u, o)) :
    r.run (es ++ [e]) = (u, List.replicate es.length .nothing ++ [o]) := by
  have fold : ∀ outs, es.foldl (fun a e => ((a.1.step e).1, a.2 ++ [(a.1.step e).2])) (r, outs) =
      (q, outs ++ List.replicate es.length .nothing) := by
    induction h with
    | nil => simp
    | cons silent _ ih =>
      intro outs
      rw [List.foldl_cons, silent, ih ends]
      simp [List.replicate_succ]
  rw [LineRx.run, List.foldl_append, fold]
  simp [ends]

/-- A quiet run moves the receiver alone. -/
theorem discard (h : r.Quiet es q) (s : State) (rx : s.lineRx = r) :
    doLineFrameDiscard es s = { s with lineRx := q } := by
  induction h generalizing s with
  | nil => rw [← rx]; rfl
  | cons silent _ ih =>
    rw [doLineFrameDiscard, List.foldl_cons, lineEvent_silent (rx.symm ▸ silent)]
    exact ih _ rfl

theorem discard_same (h : r.Quiet es r) (s : State) (rx : s.lineRx = r) : doLineFrameDiscard es s = s := by
  subst rx
  exact h.discard s rfl

/-- The event after a quiet run is what the part takes of it. -/
theorem discard_ends (h : r.Quiet es q) (ends : q.step e = (u, o)) (s : State) (rx : s.lineRx = r) :
    doLineFrameDiscard (es ++ [e]) s = State.takeRx { s with lineRx := u } o := by
  have before : doLineFrameDiscard (es ++ [e]) s = (doLineFrameDiscard es s).lineEvent e := by
    simp [doLineFrameDiscard]
  rw [before, h.discard s rx, State.lineEvent, ends]

/-- In HUNT, with no idle gap before them, bytes are not looked at. -/
theorem unheard (bs : List (Byte × Bool)) : (LineRx.hunt false).Quiet (onLineWith bs) (.hunt false) := by
  induction bs with
  | nil => exact .nil
  | cons b rest ih => exact .cons rfl ih

end LineRx.Quiet

/-! ### The bytes of a frame as they come in (R151) -/

/-- A byte has come without its stop bit. -/
def unstopped (bs : List (Byte × Bool)) : Bool := bs.any fun b => !b.2

theorem unstopped_iff {bs : List (Byte × Bool)} : unstopped bs = true ↔ ∃ b ∈ bs, b.2 = false := by
  simp [unstopped]

theorem unstopped_false {bs : List (Byte × Bool)} (h : ¬ ∃ b ∈ bs, b.2 = false) : unstopped bs = false :=
  Bool.eq_false_iff.mpr (mt unstopped_iff.mp h)

theorem onLine_eq (bs : List Byte) : onLine bs = onLineWith (bs.map fun b => (b, true)) := by
  simp [onLine, onLineWith]

theorem unstopped_onLine (bs : List Byte) : unstopped (bs.map fun b => (b, true)) = false := by
  simp [unstopped]

/-- The length a header gives does not change with what follows the header. -/
theorem headerLen_append {w : List Byte} (whole : 7 ≤ w.length) (x : List Byte) : headerLen (w ++ x) = headerLen w := by
  rw [headerLen, field, List.drop_append_of_le_length (by omega), List.take_append_of_le_length (by simp; omega)]
  rfl

/-- The bytes stand within the header and payload of a frame of an admitted length. -/
def Inside (w : List Byte) : Prop := 7 ≤ w.length → headerLen w ≤ maxPayload ∧ w.length ≤ 7 + headerLen w

theorem Inside.of_append {w x : List Byte} (h : Inside (w ++ x)) : Inside w := fun whole => by
  obtain ⟨short, within⟩ := h (by simp; omega)
  rw [headerLen_append whole] at short within
  simp at within
  exact ⟨short, by omega⟩

/-- The receiver's state while it holds header and payload bytes of such a frame. -/
def LineRx.holding (w : List Byte) (marked : Bool) : LineRx :=
  if w.length < 7 then .header w marked
  else if w.length < 7 + headerLen w then .payload w marked
  else .check w none marked

theorem rxTaken_inside {w : List Byte} (h : Inside w) (marked : Bool) :
    rxTaken w marked = (LineRx.holding w marked, .nothing) := by
  unfold rxTaken LineRx.holding
  split
  · rfl
  · rename_i whole
    obtain ⟨short, -⟩ := h (by omega)
    rw [if_neg (by omega)]
    split <;> rfl

/-- A byte that is still inside the frame joins those held, and a missing stop bit marks it. -/
theorem holding_step {w : List Byte} {v : Byte} (h : Inside (w ++ [v])) (marked stop : Bool) :
    (LineRx.holding w marked).step (.byte v stop) = (.holding (w ++ [v]) (marked || !stop), .nothing) := by
  rw [← rxTaken_inside h]
  unfold LineRx.holding
  split
  · rfl
  · rename_i whole
    obtain ⟨-, within⟩ := h (by simp; omega)
    rw [headerLen_append (by omega)] at within
    simp at within
    rw [if_pos (by omega)]
    rfl

theorem holding_quiet (more : List (Byte × Bool)) (w : List Byte) (marked : Bool)
    (h : Inside (w ++ more.map (·.1))) : (LineRx.holding w marked).Quiet (onLineWith more)
      (.holding (w ++ more.map (·.1)) (marked || unstopped more)) := by
  induction more generalizing w marked with
  | nil => simpa [unstopped, onLineWith] using LineRx.Quiet.nil
  | cons b rest ih =>
    have split : w ++ (b :: rest).map (·.1) = (w ++ [b.1]) ++ rest.map (·.1) := by simp
    have mark : (marked || unstopped (b :: rest)) = ((marked || !b.2) || unstopped rest) := by
      simp [unstopped, Bool.or_assoc]
    rw [split] at h ⊢
    rw [mark]
    exact .cons (holding_step h.of_append marked b.2) (ih _ _ h)

/-- The start byte after an idle gap, then bytes inside the frame. -/
theorem inside_quiet {bs : List (Byte × Bool)} (stop : Bool) (h : Inside (bs.map (·.1))) :
    (LineRx.hunt true).Quiet (onLineWith ((0x7E, stop) :: bs)) (.holding (bs.map (·.1)) (unstopped bs)) := by
  have taken := holding_quiet bs [] false h
  rw [List.nil_append, Bool.false_or] at taken
  exact .cons rfl taken

/-! ### A whole frame -/

section
variable {k : KFrame}

theorem field_two {w rest : List Byte} {a b : Byte} {off : Nat} (h : w.drop off = a :: b :: rest) :
    field w off 2 = ofBe [a, b] := by
  rw [field, h]
  rfl

theorem headerLen_bytes (short : k.payload.length ≤ maxPayload) : headerLen k.bytes = k.payload.length := by
  have small : k.payload.length < 65536 := Nat.lt_of_le_of_lt short (by decide)
  exact (field_two (rest := k.payload) (by rw [bytes_eq]; rfl)).trans (ofBe_be_two small)

theorem tag_bytes (k : KFrame) : BitVec.ofNat 16 (field k.bytes 2 2) = k.tag := by
  have spelled : field k.bytes 2 2 = k.tag.toNat :=
    (field_two (by rw [bytes_eq]; rfl)).trans (ofBe_be_two k.tag.isLt)
  rw [spelled, BitVec.ofNat_toNat, BitVec.setWidth_eq]

theorem bytes_length (k : KFrame) : k.bytes.length = 7 + k.payload.length := by
  rw [bytes_eq]
  simp only [List.length_cons]
  omega

theorem bytes_inside (short : k.payload.length ≤ maxPayload) : Inside k.bytes := fun _ => by
  rw [headerLen_bytes short, bytes_length]
  exact ⟨short, Nat.le_refl _⟩

/-- The receiver that holds header and payload of a frame awaits its check bytes. -/
theorem holding_bytes (short : k.payload.length ≤ maxPayload) (marked : Bool) :
    LineRx.holding k.bytes marked = .check k.bytes none marked := by
  rw [LineRx.holding, headerLen_bytes short, bytes_length, if_neg (by omega), if_neg (by omega)]

/-- The two check bytes spell the check, high byte first (R150). -/
theorem crcWord_bytes (c : BitVec 16) : crcWord (BitVec.ofNat 8 (c.toNat / 256)) (BitVec.ofNat 8 c.toNat) = c := by
  apply BitVec.eq_of_toNat_eq
  have bound : c.toNat < 65536 := c.isLt
  rw [crcWord, BitVec.toNat_append, BitVec.toNat_ofNat, BitVec.toNat_ofNat,
    ← Nat.shiftLeft_add_eq_or_of_lt (Nat.mod_lt _ (by decide)), Nat.shiftLeft_eq]
  omega

/-- Header, payload and first check byte bring nothing; what is marked stays marked. -/
theorem bytes_quiet {body : List (Byte × Bool)} {hi : Byte × Bool} (stop : Bool)
    (short : k.payload.length ≤ maxPayload) (held : body.map (·.1) = k.bytes) :
    (LineRx.hunt true).Quiet (onLineWith ((0x7E, stop) :: (body ++ [hi])))
      (.check k.bytes (some hi.1) (unstopped (body ++ [hi]))) := by
  have taken := inside_quiet (bs := body) stop (held ▸ bytes_inside short)
  rw [held, holding_bytes short] at taken
  have mark : unstopped (body ++ [hi]) = (unstopped body || !hi.2) := by simp [unstopped]
  have line : onLineWith ((0x7E, stop) :: (body ++ [hi])) =
      onLineWith ((0x7E, stop) :: body) ++ [.byte hi.1 hi.2] := by simp [onLineWith]
  rw [line, mark]
  exact taken.append (.single rfl)

/-! ### How a frame ends (R135, R151) -/

variable {bs : List (Byte × Bool)} {c : BitVec 16}

/-- The second check byte delivers the frame, with a good check where no stop bit was missing and the check agrees. -/
theorem whole_ends (stop : Bool) (short : k.payload.length ≤ maxPayload)
    (sent : bs.map (·.1) = k.bytes ++ beWord 2 c) : ∃ init last r,
      onLineWith ((0x7E, stop) :: bs) = init ++ [last] ∧ (LineRx.hunt true).Quiet init r ∧
        r.step last = (.hunt false, .whole k.bytes (!unstopped bs && crc16 k.bytes == c)) := by
  rw [beWord, be_two] at sent
  obtain ⟨body, check, rfl, held, two⟩ := List.map_eq_append_iff.mp sent
  obtain ⟨hi, tail, rfl, first, one⟩ := List.map_eq_cons_iff.mp two
  obtain ⟨lo, none, rfl, second, empty⟩ := List.map_eq_cons_iff.mp one
  rw [List.map_eq_nil_iff.mp empty]
  refine ⟨_, .byte lo.1 lo.2, _, by simp [onLineWith], bytes_quiet (hi := hi) stop short held, ?_⟩
  have mark : unstopped (body ++ [hi, lo]) = (unstopped (body ++ [hi]) || !lo.2) := by
    simp [unstopped, Bool.or_assoc]
  rw [mark, LineRx.step, first, second, crcWord_bytes]

theorem holding_gap (w : List Byte) (marked : Bool) :
    (LineRx.holding w marked).step .idleGap = (.hunt true, .broken marked) := by
  unfold LineRx.holding
  split
  · rfl
  · split <;> rfl

/-- An idle gap before a frame's last byte cuts it short. -/
theorem cut_ends {n : Nat} (stop : Bool) (short : k.payload.length ≤ maxPayload) (cut : n < 9 + k.payload.length)
    (sent : bs.map (·.1) = (k.bytes ++ beWord 2 c).take n) : ∃ r,
      (LineRx.hunt true).Quiet (onLineWith ((0x7E, stop) :: bs)) r ∧
        r.step .idleGap = (.hunt true, .broken (unstopped bs)) := by
  have length := bytes_length k
  by_cases inside : n ≤ 7 + k.payload.length
  · rw [List.take_append_of_le_length (by omega)] at sent
    have held : Inside (bs.map (·.1)) := by
      rw [sent]
      refine Inside.of_append (x := k.bytes.drop n) ?_
      rw [List.take_append_drop]
      exact bytes_inside short
    exact ⟨_, inside_quiet stop held, holding_gap _ _⟩
  · have checked : (k.bytes ++ beWord 2 c).take n = k.bytes ++ [BitVec.ofNat 8 (c.toNat / 256)] := by
      have all : n - k.bytes.length = 1 := by omega
      rw [beWord, be_two, List.take_append, List.take_of_length_le (by omega), all]
      rfl
    rw [checked] at sent
    obtain ⟨body, check, rfl, held, one⟩ := List.map_eq_append_iff.mp sent
    obtain ⟨hi, none, rfl, -, empty⟩ := List.map_eq_cons_iff.mp one
    rw [List.map_eq_nil_iff.mp empty]
    exact ⟨_, bytes_quiet stop short held, rfl⟩

end

/-- The last header byte ends a frame whose length is above 480 (R135). -/
theorem long_ends {header : List (Byte × Bool)} (stop : Bool) (whole : header.length = 7)
    (long : 480 < headerLen (header.map (·.1))) : ∃ init last r,
      onLineWith ((0x7E, stop) :: header) = init ++ [last] ∧ (LineRx.hunt true).Quiet init r ∧
        r.step last = (.hunt false, .broken (unstopped header)) := by
  obtain rfl | ⟨body, last, rfl⟩ := List.eq_nil_or_concat header
  · cases whole
  have six : body.length = 6 := by simpa using whole
  have held : Inside (body.map (·.1)) := fun seven => by
    rw [List.length_map] at seven
    omega
  refine ⟨_, .byte last.1 last.2, _, by simp [onLineWith], inside_quiet stop held, ?_⟩
  have waits : LineRx.holding (body.map (·.1)) (unstopped body) = .header (body.map (·.1)) (unstopped body) :=
    if_pos (by simp [six])
  have long : maxPayload < headerLen (body.map (·.1) ++ [last.1]) := by simpa using long
  rw [waits, LineRx.step, rxTaken, if_neg (by simp [six]), if_pos long]
  simp [unstopped]

end Sys2Proof.Machine
end

section
/-! THEOREM. The Oven Line receiver delivers what is sent to it (R135, R150, R151): settles
`Obligations.ReceiverDeliversLineFrames`. -/

namespace Sys2Proof.Machine

/-- A byte takes 10 bit-times, and the line rests for 40 (R150). -/
theorem lineSignal_length (k : KFrame) : (lineSignal k).length = (10 + k.payload.length) * 10 + 40 := by
  have bits (bytes : List Byte) : (bytes.flatMap byteBits).length = bytes.length * 10 := by
    simp [List.length_flatMap]
  have bytes : (lineBytes k).length = 10 + k.payload.length := by
    simp [lineBytes, bytes_length, beWord, be_two]
    omega
  rw [lineSignal, List.length_append, bits, bytes, List.length_replicate]

/-- Settles O16: the frame's bytes but the last are a quiet run. -/
theorem receiverDeliversLineFrames : Obligations.ReceiverDeliversLineFrames := by
  refine ⟨fun k c short => ?_, fun _ => rfl, fun k => ⟨rfl, lineSignal_length k⟩⟩
  have sent : ((k.bytes ++ beWord 2 c).map fun b => (b, true)).map (·.1) = k.bytes ++ beWord 2 c := by
    simp [Function.comp_def]
  obtain ⟨init, last, r, line, quiet, ends⟩ := whole_ends true short sent
  have length : init.length = 9 + k.payload.length := by
    have count := congrArg List.length line
    simp [onLineWith, bytes_length, beWord, be_two] at count
    omega
  have check : (crc16 k.bytes == c) = decide (c = crc16 k.bytes) := by simp [Bool.beq_eq_decide_eq, eq_comm]
  rw [unstopped_onLine, Bool.not_false, Bool.true_and, check] at ends
  rw [onLine_eq, List.map_cons, line, quiet.run_ends ends, length]

end Sys2Proof.Machine
end

section
/-! THEOREM. What the Oven Line discards, and the counter of each cause (R135, R151, R154): settles
`Obligations.OvenLineDiscards`. -/

namespace Sys2Proof.Machine

variable {s : State} {k : KFrame} {c : BitVec 16} {bs : List (Byte × Bool)}

/-! ### What the part takes of the receiver's reports -/

/-- The line error window moves calls and the Upward Queue alone (R107). -/
theorem lineError_tells (s : State) : s.Tells s.lineError := by
  have counted : s.Tells { s with calls := { s.calls with window := { s.calls.window with
      count := sat16 s.calls.window.count } } } := ⟨_, _, rfl⟩
  unfold State.lineError
  dsimp only
  split
  · have raised := counted.trans (raise_tells none codeLineErrors .minor .condition (by decide))
    exact raised.trans ⟨_, _, rfl⟩
  · exact counted

theorem countLineCrc_lineRx (s : State) : s.countLineCrc.lineRx = s.lineRx := by
  obtain ⟨calls, up, told⟩ := lineError_tells (s.countDiscard (fun c n => { c with lineCrc := n }) (·.lineCrc))
  rw [State.countLineCrc, told]
  rfl

/-- The counter a broken frame moves, by its mark. -/
def State.countBroken (s : State) (marked : Bool) : State := if marked then s.countLineCrc else s.countLineLength

theorem takeRx_broken (s : State) (marked : Bool) : s.takeRx (.broken marked) = s.countBroken marked := by
  cases marked <;> rfl

theorem countBroken_lineRx (s : State) (marked : Bool) : (s.countBroken marked).lineRx = s.lineRx := by
  cases marked
  · rfl
  · exact countLineCrc_lineRx s

/-! ### A whole frame at the checks of R135 -/

theorem bytes_heard (oven : (ovenOf k.oven.toNat).isSome = true) :
    ¬ (ovenOf (State.wholeArrives.byteOf k.bytes 1)).isNone = true := by
  have heard : ¬ (ovenOf k.oven.toNat).isNone = true := by simpa [Option.isSome_iff_ne_none] using oven
  exact heard

theorem bytes_lengths (k : KFrame) :
    upwardLengths (k.bytes.getD 0 0) (BitVec.ofNat 16 (field k.bytes 2 2)) = upwardLengths k.cls k.tag :=
  congrArg (upwardLengths k.cls) (tag_bytes k)

section
variable (ready : s.phase = .ready)
include ready

theorem wholeArrives_bad (got : List Byte) : s.wholeArrives got false = s.countLineCrc := by
  rw [State.wholeArrives, if_neg (by simp [ready])]
  rfl

/-- The first check of R135 on a frame whose CRC-16 is good. -/
theorem wholeArrives_source (nobody : ovenOf k.oven.toNat = none) :
    s.wholeArrives k.bytes true = s.countLineSource := by
  rw [State.wholeArrives, if_neg (by simp [ready]), if_neg (by decide), if_pos]
  exact Option.isNone_iff_eq_none.mpr nobody

variable (oven : (ovenOf k.oven.toNat).isSome = true)
include oven

theorem wholeArrives_class (unnamed : upwardLengths k.cls k.tag = none) :
    s.wholeArrives k.bytes true = s.countLineClass := by
  rw [State.wholeArrives, if_neg (by simp [ready]), if_neg (by decide), if_neg (bytes_heard oven), bytes_lengths,
    unnamed]

theorem wholeArrives_length {lo hi : Nat} (short : k.payload.length ≤ maxPayload)
    (named : upwardLengths k.cls k.tag = some (lo, hi))
    (outside : k.payload.length < lo ∨ hi < k.payload.length) :
    s.wholeArrives k.bytes true = s.countLineLength := by
  rw [State.wholeArrives, if_neg (by simp [ready]), if_neg (by decide), if_neg (bytes_heard oven), bytes_lengths,
    named, headerLen_bytes short]
  exact if_neg (by omega)

end

/-! ### A run of events as the part takes it -/

section
variable (rx : s.lineRx = .hunt true)
include rx

/-- A whole frame arrives with its check, good where no stop bit was missing and the CRC-16 agrees. -/
theorem discard_whole (stop : Bool) (short : k.payload.length ≤ maxPayload)
    (sent : bs.map (·.1) = k.bytes ++ beWord 2 c) : doLineFrameDiscard (onLineWith ((0x7E, stop) :: bs)) s =
      State.wholeArrives { s with lineRx := .hunt false } k.bytes (!unstopped bs && crc16 k.bytes == c) := by
  obtain ⟨init, last, r, line, quiet, ends⟩ := whole_ends stop short sent
  rw [line, quiet.discard_ends ends s rx]
  rfl

theorem discard_cut {n : Nat} (stop : Bool) (short : k.payload.length ≤ maxPayload) (cut : n < 9 + k.payload.length)
    (sent : bs.map (·.1) = (k.bytes ++ beWord 2 c).take n) :
    doLineFrameDiscard (onLineWith ((0x7E, stop) :: bs) ++ [.idleGap]) s =
      State.countBroken { s with lineRx := .hunt true } (unstopped bs) := by
  obtain ⟨r, quiet, ends⟩ := cut_ends stop short cut sent
  rw [quiet.discard_ends ends s rx, takeRx_broken]

/-- A broken frame is counted, and the bytes behind it are not looked at. -/
theorem discard_broken {init : List LineEvent} {last : LineEvent} {r : LineRx} {marked : Bool}
    (quiet : (LineRx.hunt true).Quiet init r) (ends : r.step last = (.hunt false, .broken marked))
    (rest : List (Byte × Bool)) : doLineFrameDiscard (init ++ [last] ++ onLineWith rest) s =
      State.countBroken { s with lineRx := .hunt false } marked := by
  have counted := quiet.discard_ends ends s rx
  rw [takeRx_broken] at counted
  have hunts : (State.countBroken { s with lineRx := .hunt false } marked).lineRx = .hunt false :=
    countBroken_lineRx _ marked
  rw [doLineFrameDiscard] at counted
  rw [doLineFrameDiscard, List.foldl_append, counted]
  exact (LineRx.Quiet.unheard rest).discard_same _ hunts

theorem discard_stray {b : Byte} (stray : b ≠ 0x7E) (rest : List Byte) :
    doLineFrameDiscard (onLine (b :: rest)) s = State.countLineLength { s with lineRx := .hunt false } := by
  have ends : (LineRx.hunt true).step (.byte b true) = (.hunt false, .broken false) := if_neg stray
  rw [onLine_eq]
  exact discard_broken rx .nil ends _

theorem discard_long {header : List (Byte × Bool)} (stop : Bool) (whole : header.length = 7)
    (long : 480 < headerLen (header.map (·.1))) (rest : List (Byte × Bool)) :
    doLineFrameDiscard (onLineWith ((0x7E, stop) :: (header ++ rest))) s =
      State.countBroken { s with lineRx := .hunt false } (unstopped header) := by
  obtain ⟨init, last, r, line, quiet, ends⟩ := long_ends stop whole long
  have split : onLineWith ((0x7E, stop) :: (header ++ rest)) = init ++ [last] ++ onLineWith rest := by
    rw [← line]
    simp [onLineWith]
  rw [split]
  exact discard_broken rx quiet ends rest

end

/-! ### The statement -/

/-- Settles O17: what the receiver reports of each run, then the counter that moves. -/
theorem ovenLineDiscards : Obligations.OvenLineDiscards := by
  intro s ready rx lengthCount crcCount marked arrive
  have ran {es : List LineEvent} {t : State} (run : doLineFrameDiscard es s = t) :
      exec (.lineFrameDiscard es) s = .next t := congrArg Host.Outcome.next run
  have bare (bytes : List Byte) : (bytes.map fun b => (b, true)).map (·.1) = bytes := by simp [Function.comp_def]
  refine ⟨?_, fun k n short cut => ?_, fun b rest stray => ran (discard_stray rx stray rest),
    fun k c stop bs short sent mark => ?_, fun k c n stop bs short cut sent mark => ?_, ?_⟩
  · intro k c short whole u
    have arrived : doLineFrameDiscard (onLine ((0x7E : Byte) :: (k.bytes ++ beWord 2 c))) s =
        State.wholeArrives u k.bytes (crc16 k.bytes == c) := by
      have run := discard_whole rx true short (bare (k.bytes ++ beWord 2 c))
      rw [unstopped_onLine, Bool.not_false, Bool.true_and] at run
      rw [onLine_eq]
      exact run
    have good (agrees : c = crc16 k.bytes) : (crc16 k.bytes == c) = true := beq_iff_eq.mpr agrees.symm
    have readyU : u.phase = .ready := ready
    refine ⟨fun wrong => ran ?_, fun agrees nobody => ran ?_, fun agrees oven unnamed => ran ?_,
      fun lo hi agrees oven named outside => ran ?_⟩
    · rw [arrived, beq_eq_false_iff_ne.mpr wrong.symm, wholeArrives_bad readyU]
      rfl
    · rw [arrived, good agrees, wholeArrives_source readyU nobody]
      rfl
    · rw [arrived, good agrees, wholeArrives_class readyU oven unnamed]
      rfl
    · rw [arrived, good agrees, wholeArrives_length readyU oven short named outside]
      rfl
  · have run := discard_cut rx true short cut (bare ((k.bytes ++ beWord 2 (crc16 k.bytes)).take n))
    rw [unstopped_onLine] at run
    rw [onLine_eq]
    exact ran run
  · have run := discard_whole rx stop short sent
    rw [unstopped_iff.mpr mark, Bool.not_true, Bool.false_and, wholeArrives_bad (by exact ready)] at run
    exact ran run
  · have run := discard_cut rx stop short cut sent
    rw [unstopped_iff.mpr mark] at run
    exact ran run
  · intro header rest stop whole long u
    have run := discard_long rx stop whole long rest
    refine ⟨fun clean => ?_, fun mark => ?_⟩
    · rw [unstopped_false clean] at run
      exact ran run
    · rw [unstopped_iff.mpr mark] at run
      exact ran run

end Sys2Proof.Machine
end

section
/-! THEOREM. The pause of the Store Link port (R148, R149, R166): a pause frame by its destination, then the idle
step on an empty queue (log 1); settles `Obligations.PauseCounts`. -/

namespace Sys2Proof.Machine

variable {s : State} {dest : EthAddr} {quanta : BitVec 16}

/-! ### A pause frame (R148, R149) -/

/-- The phase plays no part (R166). -/
theorem doPauseFrame_pauses (named : pauseDest dest = true) :
    doPauseFrame dest quanta s = { s with pause := { s.pause with remaining := quanta.toNat } } :=
  if_pos named

theorem doPauseFrame_foreign (other : ¬ pauseDest dest = true) : doPauseFrame dest quanta s =
    if s.phase = .restoring then s.countStartUp else s.countStoreForeign :=
  if_neg other

/-! ### The idle step (R149, log 1) -/

theorem idle_unpaused (go : s.pause.remaining = 0) : s.idle = s := if_pos go

theorem idle_paused (paused : 0 < s.pause.remaining) : s.idle = { s with pause :=
    { remaining := s.pause.remaining - 1, paused := satAdd max32 s.pause.paused 1 } } :=
  if_neg paused.ne'

theorem step_nil (empty : s.pending = []) : step s = .next s.idle := by
  rw [step, empty]

/-! ### The statement -/

/-- Settles O14: the frame by its destination, the expiry by its definition, the empty queue by the pause in force. -/
theorem pauseCounts : Obligations.PauseCounts := by
  intro s
  refine ⟨fun d q named => ?_, fun d q station multicast ready => ?_, rfl, fun empty paused => ?_,
    fun empty go => ?_⟩
  · exact congrArg Host.Outcome.next (doPauseFrame_pauses (pauseDest_iff.mpr named))
  · have counted := doPauseFrame_foreign (s := s) (quanta := q)
      (mt pauseDest_iff.mp (not_or.mpr ⟨station, multicast⟩))
    rw [if_neg (by simp [ready])] at counted
    exact congrArg Host.Outcome.next counted
  · rw [step_nil empty, idle_paused paused]
    rfl
  · rw [step_nil empty, idle_unpaused go]

end Sys2Proof.Machine
end

section
/-! THEOREM. The laws of the part in its reset state (R164): settles `Obligations.LawsHoldAtReset`. -/

namespace Sys2Proof.Machine

/-! ### The reset state, entry by entry -/

section
variable (i : OvenId)

@[simp] theorem reset_oven : State.reset.oven i = OvenEntry.reset := by simp [State.reset, State.oven]

@[simp] theorem reset_watch : State.reset.watch i = none := by simp [State.reset, State.watch]

@[simp] theorem reset_cook : State.reset.cook i = CookCtx.reset := by simp [State.reset, State.cook]

@[simp] theorem reset_update : State.reset.update i = UpdateCtx.reset := by simp [State.reset, State.update]

@[simp] theorem reset_overflow : State.reset.calls.overflow[i.val] = false := by simp [State.reset, CallTable.reset]

@[simp] theorem reset_call (p : Fin 32) : State.reset.call p = none := by
  simp [State.reset, State.call, CallTable.reset]

end

/-! ### The laws -/

/-- Nothing is cleaning, and nothing waits (R77). -/
theorem cleaningLaw_reset : CleaningLaw State.reset := by
  have none : State.reset.cleaningOvens = 0 := List.countP_eq_zero.mpr fun i _ => by simp [OvenEntry.reset]
  exact ⟨none.symm, List.nodup_nil, fun w waits => absurd waits List.not_mem_nil, fun _ => ⟨rfl, rfl⟩⟩

theorem mergingLaw_reset : MergingLaw State.reset := by simp [MergingLaw]

theorem numberLaw_reset : NumberLaw State.reset := by
  have next : State.reset.calls.next = 1 := rfl
  simp [NumberLaw, next]

theorem lockLaw_reset : LockLaw State.reset := by
  simp [LockLaw, State.lockHeld, OvenEntry.reset]

theorem updateLaw_reset : UpdateLaw State.reset := by
  simp [UpdateLaw, UpdateCtx.reset]

theorem occupancyLaw_reset : OccupancyLaw State.reset := by
  have queue : State.reset.cleaning.queue = [] := rfl
  simp [OccupancyLaw, OvenEntry.reset, CookCtx.reset, UpdateCtx.reset, queue]

theorem serialLaw_reset : SerialLaw State.reset := by
  have image : State.reset.image = none := rfl
  simp [SerialLaw, OvenEntry.reset, image]

theorem presenceLaw_reset : PresenceLaw State.reset := by
  simp [PresenceLaw, OvenEntry.reset]

/-- Empty tables, no image, and no cook (R21, R33). -/
theorem recipeLaw_reset : RecipeLaw State.reset := by
  have idle (i : OvenId) : (State.reset.book.ledger.cook i).active = false := by
    simp [State.book, CookCtx.reset, CookCtx.held]
  refine (recipeLaw_iff _).mpr (.of_idle idle ownersAgree_reset (fun m image => nomatch image) fun r => ?_)
  have entry : State.reset.book.ledger.recipes[r] = RecipeEntry.reset := by simp [State.book, State.reset]
  exact entry ▸ counted_reset r

/-- Settles O3. -/
theorem lawsHoldAtReset : Obligations.LawsHoldAtReset :=
  ⟨QueueBounds.restart (s := State.reset) (c := .powerOn), cleaningLaw_reset, mergingLaw_reset, numberLaw_reset,
    lockLaw_reset, updateLaw_reset, occupancyLaw_reset, serialLaw_reset, presenceLaw_reset, recipeLaw_reset⟩

end Sys2Proof.Machine
end

section
/-! THEOREM. The common checks of a CONTROL request in their order (R157, R158, R163, R37): settles
`Obligations.CommonChecks`. -/

namespace Sys2Proof.Machine

variable {s : State} {f : StoreFrame} {g : Gate} {a : Reply}

/-! ### The checks, each reached when those before it pass -/

theorem gateRefusal_awaited (awaited : s.softReset.isSome = true) : s.gateRefusal g f = some { result := .busy } :=
  if_pos awaited

section
variable (noReset : s.softReset = none)
include noReset

theorem gateRefusal_header (other : f.tag ≠ g.code ∨ f.oven ≠ 0) :
    s.gateRefusal g f = some { result := .badField } := by
  rw [State.gateRefusal, if_neg (by simp [noReset]), if_pos other]

variable (code : f.tag = g.code) (part : f.oven = 0)
include code part

/-- The two checks that are left once no SAVE stands against the request. -/
theorem gateRefusal_unsaved (unsaved : ¬ (s.saving.isSome = true ∧ g.saved = true)) : s.gateRefusal g f =
    if s.clearing.isSome = true ∧ g.clear ≠ .taken then g.clear.refusal
    else if f.payload.length ∉ g.lengths then some { result := .badField } else none := by
  rw [State.gateRefusal, if_neg (by simp [noReset]), if_neg (by simp [code, part]), if_neg unsaved]

end

/-- A TABLE_CLEAR lets a request through exactly where its row is taken (R37). -/
theorem refusal_taken {r : ClearRule} : r.refusal = none ↔ r = .taken := by
  cases r <;> simp [ClearRule.refusal]

/-- A CONTROL frame that the Classifier passes is answered with the first check it fails (R157). -/
theorem control_answers {act : State → Answered} (ready : s.phase = .ready)
    (len : f.len.toNat = f.payload.length) (short : f.payload.length ≤ maxPayload)
    (address : f.oven.toNat ≤ 16 ∨ f.oven = 31) (refusal : (s.fromGateway f).gateRefusal g f = some a) :
    s.control g f act = (s.fromGateway f).replies f a := by
  have passes : storeAddressOk clsControl f.oven = true :=
    storeAddressOk_iff.mpr (address.imp_right fun all => ⟨by rw [all]; rfl, rfl⟩)
  rw [State.control, arriveStore_pass clsControl _ ready len short passes]
  dsimp only
  rw [refusal]
  rfl

/-! ### The row of each request (R156, R157) -/

/-- The gate holds the terms of a CONTROL request. -/
structure Gate.Holds (g : Gate) (c : Instr) (x : StoreForm) : Prop where
  code : g.code = x.code
  saved : g.saved = changesSaved c
  clear : g.clear.refusal = (clearRefuses c).map fun r => { result := r }
  lengths : g.lengths = controlLengths c

/-- Every CONTROL request passes the common checks with the terms of its row. -/
theorem exec_control {c : Instr} {x : StoreForm} (form : storeForm c = some x) (cls : x.cls = clsControl) :
    ∃ g act, Gate.Holds g c x ∧ ∀ s, exec c s = .next (s.control g x.frame act) := by
  cases c with
  | statusRead f => cases form; exact ⟨gateStatusRead, _, ⟨rfl, rfl, rfl, rfl⟩, fun _ => rfl⟩
  | configWrite f => cases form; exact ⟨gateConfigWrite, _, ⟨rfl, rfl, rfl, rfl⟩, fun _ => rfl⟩
  | configRead f => cases form; exact ⟨gateConfigRead, _, ⟨rfl, rfl, rfl, rfl⟩, fun _ => rfl⟩
  | daypartSet f => cases form; exact ⟨gateDaypartSet, _, ⟨rfl, rfl, rfl, rfl⟩, fun _ => rfl⟩
  | rollCall f => cases form; exact ⟨gateRollCall, _, ⟨rfl, rfl, rfl, rfl⟩, fun _ => rfl⟩
  | softReset f => cases form; exact ⟨gateSoftReset, _, ⟨rfl, rfl, rfl, rfl⟩, fun _ => rfl⟩
  | save f => cases form; exact ⟨gateSave, _, ⟨rfl, rfl, rfl, rfl⟩, fun _ => rfl⟩
  | ovenCommission f => cases form; exact ⟨gateOvenCommission, _, ⟨rfl, rfl, rfl, rfl⟩, fun _ => rfl⟩
  | ovenRetire f => cases form; exact ⟨gateOvenRetire, _, ⟨rfl, rfl, rfl, rfl⟩, fun _ => rfl⟩
  | ovenRead f => cases form; exact ⟨gateOvenRead, _, ⟨rfl, rfl, rfl, rfl⟩, fun _ => rfl⟩
  | ovenSet f => cases form; exact ⟨gateOvenSet, _, ⟨rfl, rfl, rfl, rfl⟩, fun _ => rfl⟩
  | serviceEnter f => cases form; exact ⟨gateServiceEnter, _, ⟨rfl, rfl, rfl, rfl⟩, fun _ => rfl⟩
  | serviceLeave f => cases form; exact ⟨gateServiceLeave, _, ⟨rfl, rfl, rfl, rfl⟩, fun _ => rfl⟩
  | watchReload f => cases form; exact ⟨gateWatchReload, _, ⟨rfl, rfl, rfl, rfl⟩, fun _ => rfl⟩
  | mapStage f => cases form; exact ⟨gateMapStage, _, ⟨rfl, rfl, rfl, rfl⟩, fun _ => rfl⟩
  | mapSet f => cases form; exact ⟨gateMapSet, _, ⟨rfl, rfl, rfl, rfl⟩, fun _ => rfl⟩
  | mapRead f => cases form; exact ⟨gateMapRead, _, ⟨rfl, rfl, rfl, rfl⟩, fun _ => rfl⟩
  | mapReadNext f => cases form; exact ⟨gateMapReadNext, _, ⟨rfl, rfl, rfl, rfl⟩, fun _ => rfl⟩
  | release f => cases form; exact ⟨gateRelease, _, ⟨rfl, rfl, rfl, rfl⟩, fun _ => rfl⟩
  | withdraw f => cases form; exact ⟨gateWithdraw, _, ⟨rfl, rfl, rfl, rfl⟩, fun _ => rfl⟩
  | discardStaged f => cases form; exact ⟨gateDiscardStaged, _, ⟨rfl, rfl, rfl, rfl⟩, fun _ => rfl⟩
  | stepWrite f => cases form; exact ⟨gateStepWrite, _, ⟨rfl, rfl, rfl, rfl⟩, fun _ => rfl⟩
  | stepWriteNext f => cases form; exact ⟨gateStepWriteNext, _, ⟨rfl, rfl, rfl, rfl⟩, fun _ => rfl⟩
  | stepRead f => cases form; exact ⟨gateStepRead, _, ⟨rfl, rfl, rfl, rfl⟩, fun _ => rfl⟩
  | stepReadNext f => cases form; exact ⟨gateStepReadNext, _, ⟨rfl, rfl, rfl, rfl⟩, fun _ => rfl⟩
  | tableClear f => cases form; exact ⟨gateTableClear, _, ⟨rfl, rfl, rfl, rfl⟩, fun _ => rfl⟩
  | classMapWrite f => cases form; exact ⟨gateClassMapWrite, _, ⟨rfl, rfl, rfl, rfl⟩, fun _ => rfl⟩
  | classMapRead f => cases form; exact ⟨gateClassMapRead, _, ⟨rfl, rfl, rfl, rfl⟩, fun _ => rfl⟩
  | severityMapWrite f => cases form; exact ⟨gateSeverityMapWrite, _, ⟨rfl, rfl, rfl, rfl⟩, fun _ => rfl⟩
  | severityMapRead f => cases form; exact ⟨gateSeverityMapRead, _, ⟨rfl, rfl, rfl, rfl⟩, fun _ => rfl⟩
  | callRead f => cases form; exact ⟨gateCallRead, _, ⟨rfl, rfl, rfl, rfl⟩, fun _ => rfl⟩
  | callAck f => cases form; exact ⟨gateCallAck, _, ⟨rfl, rfl, rfl, rfl⟩, fun _ => rfl⟩
  | callClearOverflow f => cases form; exact ⟨gateCallClearOverflow, _, ⟨rfl, rfl, rfl, rfl⟩, fun _ => rfl⟩
  | cleanRelease f => cases form; exact ⟨gateCleanRelease, _, ⟨rfl, rfl, rfl, rfl⟩, fun _ => rfl⟩
  | _ => cases form <;> exact absurd cls (by dsimp only; decide)

/-- Settles O18: the gate of the request's row, and its checks one by one. -/
theorem commonChecks : Obligations.CommonChecks := by
  intro c x s form cls ready len short address
  obtain ⟨g, act, ⟨code, saved, clear, lengths⟩, run⟩ := exec_control form cls
  rw [← code, ← saved, ← lengths]
  intro refused saving
  have refuses {a : Reply} (refusal : (s.fromGateway x.frame).gateRefusal g x.frame = some a) : refused a :=
    (run s).trans (congrArg _ (control_answers ready len short address refusal))
  refine ⟨fun awaited => refuses (gateRefusal_awaited awaited),
    fun noReset other => refuses (gateRefusal_header noReset other),
    fun noReset tag part ⟨saving, saved⟩ => refuses (gateRefusal_saving noReset part tag saved saving),
    fun r noReset tag part unsaved clearing refusal => refuses ?_,
    fun noReset tag part unsaved taken length => refuses ?_⟩
  · rw [refusal] at clear
    have bars : g.clear ≠ .taken := fun taken => by simp [refusal_taken.mpr taken] at clear
    exact (gateRefusal_unsaved noReset tag part unsaved).trans ((if_pos ⟨clearing, bars⟩).trans clear)
  · have taken : ¬ (s.clearing.isSome = true ∧ g.clear ≠ .taken) := by
      rintro ⟨clearing, bars⟩
      obtain none | none := taken
      · simp [none] at clearing
      · exact bars (refusal_taken.mp (by rw [clear, none]; rfl))
    exact (gateRefusal_unsaved noReset tag part unsaved).trans ((if_neg taken).trans (if_pos length))

end Sys2Proof.Machine
end

section
/-! THEOREM. The restore takes no kitchen frames (R151, R166): settles `Obligations.RestoreTakesNoFrames`. -/

namespace Sys2Proof.Machine

variable {s : State}

/-! ### The restore discards a frame at its arrival (R166) -/

theorem arriveStore_restoring {cls : Byte} {f : StoreFrame} {act : State → State} (restoring : s.phase = .restoring) :
    s.arriveStore cls f act = s.countStartUp :=
  if_pos restoring

theorem wholeFrame_phase (s : State) : s.wholeFrame.phase = s.phase := phase_of_book s.wholeFrame_book

theorem arriveUp_restoring {cls : Byte} {tag : BitVec 16} {f : UpFrame} {act : OvenId → State → State}
    (restoring : s.phase = .restoring) : s.arriveUp cls tag f act = s.wholeFrame.countStartUp :=
  if_pos ((wholeFrame_phase s).trans restoring)

theorem doStartUpDiscard_restoring (restoring : s.phase = .restoring) :
    doStartUpDiscard .store s = s.countStartUp ∧ doStartUpDiscard .ovenLine s = s.wholeFrame.countStartUp :=
  ⟨if_pos restoring, if_pos restoring⟩

/-! ### Every frame comes by its arrival -/

/-- Every Store Link frame takes the way of R136 and R166 to its owner. -/
theorem exec_arriveStore {c : Instr} {x : StoreForm} (form : storeForm c = some x) :
    ∃ act, ∀ s, exec c s = .next (s.arriveStore x.cls x.frame act) := by
  by_cases control : x.cls = clsControl
  · obtain ⟨g, act, -, run⟩ := exec_control form control
    rw [control]
    exact ⟨_, run⟩
  · cases c with
    | cookStart f => cases form; exact ⟨_, fun _ => rfl⟩
    | cookStop f => cases form; exact ⟨_, fun _ => rfl⟩
    | cleanRequest f => cases form; exact ⟨_, fun _ => rfl⟩
    | cleanCancel f => cases form; exact ⟨_, fun _ => rfl⟩
    | updateOpen f => cases form; exact ⟨_, fun _ => rfl⟩
    | updateChunk f => cases form; exact ⟨_, fun _ => rfl⟩
    | updateSeal f => cases form; exact ⟨_, fun _ => rfl⟩
    | updateApply f => cases form; exact ⟨_, fun _ => rfl⟩
    | updateAbort f => cases form; exact ⟨_, fun _ => rfl⟩
    | direct f => cases form; exact ⟨_, fun _ => rfl⟩
    | _ => cases form <;> exact absurd rfl control

/-- Every upward frame takes the way of R135 and R166 to its owner; a HELLO has its own. -/
theorem exec_arriveUp {c : Instr} {x : UpForm} (form : upForm c = some x) :
    ∃ act, ∀ s, exec c s = .next (s.arriveUp x.cls x.tag x.frame act) := by
  by_cases hello : ∃ f, c = .hello f
  · obtain ⟨f, rfl⟩ := hello
    cases form
    exact ⟨_, fun _ => rfl⟩
  · obtain ⟨forward, owner, run⟩ := exec_dispatchUp form (not_exists.mp hello)
    exact ⟨_, run⟩

/-- Settles O6. -/
theorem restoreTakesNoFrames : Obligations.RestoreTakesNoFrames := by
  intro s restoring counted
  obtain ⟨store, line⟩ := doStartUpDiscard_restoring restoring
  refine ⟨congrArg Host.Outcome.next store, congrArg Host.Outcome.next line, fun c x form => ?_, fun c x form => ?_⟩
  · obtain ⟨act, run⟩ := exec_arriveStore form
    exact (run s).trans (congrArg _ (arriveStore_restoring restoring))
  · obtain ⟨act, run⟩ := exec_arriveUp form
    exact (run s).trans (congrArg _ (arriveUp_restoring restoring))

end Sys2Proof.Machine
end

section
/-! THEOREM. CONFIG_WRITE, DAYPART_SET and ROLL_CALL (R83, R161, R162): settles `Obligations.ConfigWriteClamps` and
`Obligations.DaypartAndRollCall`. -/

namespace Sys2Proof.Machine

variable {s : State} {f : StoreFrame} {number : Nat}

/-! ### CONFIG_WRITE (R161) -/

/-- Two bytes hold no number above 65,535 (R152). -/
theorem field_two_le (p : List Byte) (off : Nat) : field p off 2 ≤ 65535 := by
  unfold field
  match p.drop off with
  | [] => exact Nat.zero_le _
  | [a] => have := a.isLt; simp [ofBe]; omega
  | a :: b :: _ => have := a.isLt; have := b.isLt; simp [ofBe]; omega

theorem doConfigWrite_writes (h : Requested s f 2 [3]) (saving : s.saving = none) {w : Written}
    (named : byteAt f.payload 0 = number) (writes : s.config.write number (field f.payload 1 2) = some w) :
    doConfigWrite f s = State.replies
      (if startsPass number then ({ s.fromGateway f with config := w.params } : State).admissionPass
        else { s.fromGateway f with config := w.params }) f
      { result := .done, detail := w.stored, clamped := w.clamped } := by
  refine control_replies h (by decide) (fun _ => saving) rfl ?_
  rw [named, writes]

/-- A parameter that starts no admission pass takes its value and nothing else moves. -/
theorem exec_configWrite_stores (number : Nat) {p : Params} {x : Nat} {b : Bool} (h : Requested s f 2 [3])
    (saving : s.saving = none) (writes : s.config.write number (field f.payload 1 2) = some ⟨p, x, b⟩)
    (noPass : startsPass number = false) (named : byteAt f.payload 0 = number) : exec (.configWrite f) s = .next
      (({ s.fromGateway f with config := p } : State).replies f { result := .done, detail := x, clamped := b }) := by
  have written := doConfigWrite_writes h saving named writes
  rw [noPass] at written
  exact congrArg Host.Outcome.next written

/-- Clean daypart mask and slot limit start an admission pass with the new value (R83). -/
theorem exec_configWrite_passes (number : Nat) {p : Params} {x : Nat} {b : Bool} (h : Requested s f 2 [3])
    (saving : s.saving = none) (writes : s.config.write number (field f.payload 1 2) = some ⟨p, x, b⟩)
    (pass : startsPass number = true) (named : byteAt f.payload 0 = number) : exec (.configWrite f) s = .next
      (({ s.fromGateway f with config := p } : State).admissionPass.replies f
        { result := .done, detail := x, clamped := b }) := by
  have written := doConfigWrite_writes h saving named writes
  rw [pass] at written
  exact congrArg Host.Outcome.next written

theorem exec_configWrite_badField (h : Requested s f 2 [3]) (saving : s.saving = none)
    (none : s.config.write (byteAt f.payload 0) (field f.payload 1 2) = none) :
    exec (.configWrite f) s = .next ((s.fromGateway f).replies f { result := .badField }) := by
  refine congrArg Host.Outcome.next (control_replies h (by decide) (fun _ => saving) rfl ?_)
  rw [none]
  rfl

theorem write_macControlType {p : Params} : p.write 1 0x8808 = none := by
  unfold Params.write
  exact if_pos rfl

/-- The kitchen type value takes every number of two bytes from 0x0600 on but the MAC control type. -/
theorem write_kitchenType {p : Params} {v : Nat} (other : v ≠ 0x8808) (short : v ≤ 65535) : p.write 1 v = some
    { params := { p with kitchenType := BitVec.ofNat 16 (max 0x0600 v) }, stored := max 0x0600 v,
      clamped := decide (max 0x0600 v ≠ v) } := by
  have writes : p.write 1 v = writeNat 0x0600 0xFFFF v fun x => { p with kitchenType := BitVec.ofNat 16 x } :=
    if_neg other
  have nearer : clampNat 0x0600 0xFFFF v = max 0x0600 v := congrArg (max 0x0600) (min_eq_right short)
  rw [writes, writeNat, nearer]

theorem write_unknown {p : Params} {v : Nat} (unknown : number = 0 ∨ 14 < number) : p.write number v = none := by
  match number with
  | 0 => rfl
  | 1 | 2 | 3 | 4 | 5 | 6 | 7 | 8 | 9 | 10 | 11 | 12 | 13 | 14 => omega
  | _ + 15 => rfl

/-- Settles O20: what the parameter of each number writes, and whether it starts a pass. -/
theorem configWriteClamps : Obligations.ConfigWriteClamps := by
  intro s f h saving
  refine ⟨fun one mac => exec_configWrite_badField h saving ?_,
    fun one other => exec_configWrite_stores 1 h saving (write_kitchenType other (field_two_le _ _)) rfl one,
    exec_configWrite_passes 2 h saving rfl rfl, exec_configWrite_stores 3 h saving rfl rfl,
    exec_configWrite_passes 4 h saving rfl rfl, exec_configWrite_stores 5 h saving rfl rfl,
    exec_configWrite_stores 6 h saving rfl rfl, exec_configWrite_stores 7 h saving rfl rfl,
    exec_configWrite_stores 8 h saving rfl rfl, exec_configWrite_stores 9 h saving rfl rfl,
    exec_configWrite_stores 10 h saving rfl rfl, exec_configWrite_stores 11 h saving rfl rfl,
    exec_configWrite_stores 12 h saving rfl rfl, exec_configWrite_stores 13 h saving rfl rfl,
    exec_configWrite_stores 14 h saving rfl rfl,
    fun unknown => exec_configWrite_badField h saving (write_unknown unknown)⟩
  rw [one, mac]
  exact write_macControlType

/-! ### DAYPART_SET and ROLL_CALL (R162) -/

theorem doDaypartSet_done (h : Requested s f 4 [1]) (saving : s.saving = none) {d : Fin 4}
    (named : byteAt f.payload 0 = d.val) : doDaypartSet f s =
      ({ s.fromGateway f with daypart := d } : State).admissionPass.replies f
        { result := .done, detail := s.daypart.val } := by
  refine control_replies h (by decide) (fun _ => saving) rfl ?_
  rw [below_some named]
  rfl

theorem doDaypartSet_badField (h : Requested s f 4 [1]) (saving : s.saving = none)
    (past : 3 < byteAt f.payload 0) :
    doDaypartSet f s = (s.fromGateway f).replies f { result := .badField } := by
  refine control_replies h (by decide) (fun _ => saving) rfl ?_
  rw [below_none past]
  rfl

theorem doRollCall_done (h : Requested s f 5 [0]) : doRollCall f s =
    ({ s.fromGateway f with down := { s.down with rollCall := true } } : State).replies f
      { result := .done, detail := if s.down.rollCall = true then 1 else 0 } :=
  control_replies h (by decide) (fun saved => nomatch saved) rfl rfl

/-- Settles O21. -/
theorem daypartAndRollCall : Obligations.DaypartAndRollCall := by
  intro s f a
  refine ⟨fun d h saving named => ?_, fun h saving past => ?_, fun h => ?_⟩
  · exact congrArg Host.Outcome.next (doDaypartSet_done h saving named)
  · exact congrArg Host.Outcome.next (doDaypartSet_badField h saving past)
  · exact congrArg Host.Outcome.next (doRollCall_done h)

end Sys2Proof.Machine
end

section
/-! THEOREM. SAVE and its end, and READY with a valid image and without one (R165, R167 to R169): settles
`Obligations.SaveBeginsAndEnds` and `Obligations.ReadyRestoresOrDefaults`. -/

namespace Sys2Proof.Machine

variable {s t : State} {f : StoreFrame} {c : SavedContent}

/-! ### SAVE (R168, R169) -/

theorem doSave_worn (h : RequestedTable s f 7 [0]) (worn : saveLimit ≤ s.saveCount) : doSave f s =
    ((s.fromGateway f).raise none codeStoreWorn .minor .event).replies f { result := .worn } :=
  (Passes.of_table (g := gateSave) h (by decide)).replies (if_pos worn)

theorem doSaveEnd_saving {m : Image} {r : ReplyTo} (saving : s.saving = some r) (image : s.image = some m) :
    doSaveEnd s = State.offerReply
      { s with image := some m.content.image, saveCount := s.saveCount + 1, saving := none }
      (replyFrame r { result := .done, detail := s.saveCount + 1 }) := by
  rw [doSaveEnd, saving, image]
  rfl

/-- Settles O7. -/
theorem saveBeginsAndEnds : Obligations.SaveBeginsAndEnds := by
  refine ⟨fun s f h unworn => ?_, fun s f h worn => congrArg Host.Outcome.next (doSave_worn h worn),
    fun s m r saving image => congrArg Host.Outcome.next (doSaveEnd_saving saving image)⟩
  have ⟨_, saving, _⟩ := h
  refine ⟨_, _, congrArg Host.Outcome.next (doSave_begins h unworn), rfl, rfl, rfl, rfl, rfl, ?_⟩
  rw [← saving]
  rfl

/-! ### The image at the restore (R165) -/

/-- A complete image with its CRC-32 is the one a SAVE leaves. -/
theorem eq_image {m : Image} (complete : m.complete = true) (crc : m.crc = m.content.crc) : m = m.content.image := by
  rw [SavedContent.image, ← crc, ← complete]

theorem validContent_none (invalid : ∀ m, s.image = some m → m.complete = false ∨ m.crc ≠ m.content.crc) :
    s.validContent = none := by
  unfold State.validContent
  split
  · rename_i m image
    refine if_neg fun valid => ?_
    obtain ⟨complete, crc⟩ := Bool.and_eq_true_iff.mp valid
    obtain incomplete | other := invalid m image
    · exact absurd (complete.symm.trans incomplete) (by decide)
    · exact other (beq_iff_eq.mp crc)
  · rfl

/-! ### READY (R165, R167) -/

/-- A report depends on the Upward Queue alone and changes it alone (R145). -/
theorem offerReport_of_up (same : t.up = s.up) (k : KFrame) :
    t.offerReport k = { t with up := (s.offerReport k).up } := by
  unfold State.offerReport State.upRoom State.pushUp
  rw [same]
  split <;> rfl

/-- The restore has a result, and REPORT STARTED gives it. -/
def State.reportedStart (s : State) (result : RestoreResult) (saves : Nat) : State :=
  State.offerReport { s with restoreResult := result } (reportStarted s.resetCause result saves s.lineTime)

/-- The roll call is set and the Classifier begins to take frames (R167). -/
def State.startedUp (s : State) : State := { s with phase := .ready, down := { s.down with rollCall := true } }

section
variable (restoring : s.phase = .restoring)
include restoring

/-- READY without a loss reports the restore and begins. -/
theorem doReady_startsUp (kept : s.restore.restoreResult ≠ .lost) : doReady s =
    (s.restore.offerReport (reportStarted s.restore.resetCause s.restore.restoreResult s.restore.saveCount
      s.restore.lineTime)).startedUp := by
  rw [doReady, if_pos restoring]
  dsimp only
  rw [if_neg kept]
  rfl

/-- A valid image gives back its contents. -/
theorem doReady_restored (valid : s.validContent = some c) : doReady s =
    { s.restoreFrom c with
      restoreResult := .restored
      up := (s.offerReport (reportStarted s.resetCause .restored s.saveCount s.lineTime)).up
      down := { s.down with rollCall := true }
      phase := .ready } := by
  have restored : s.restore = { s.restoreFrom c with restoreResult := .restored } := by
    rw [State.restore, valid]
  have up : s.restore.up = s.up := by rw [restored]; rfl
  rw [doReady_startsUp restoring (by simp [restored]), offerReport_of_up up, restored]
  rfl

variable (invalid : s.validContent = none)
include invalid

theorem doReady_empty (first : s.saveCount = 0) : doReady s = (s.reportedStart .empty 0).startedUp := by
  have restored : s.restore = { s with restoreResult := .empty } := by
    rw [State.restore, invalid, if_pos first]
  rw [doReady_startsUp restoring (by simp [restored]), restored, ← first]
  rfl

theorem doReady_lost (saves : 0 < s.saveCount) :
    doReady s = ((s.reportedStart .lost s.saveCount).raise none codeStoreLost .major .event).startedUp := by
  have restored : s.restore = { s with restoreResult := .lost } := by
    rw [State.restore, invalid, if_neg saves.ne']
  have lost : s.restore.restoreResult = .lost := by rw [restored]
  rw [doReady, if_pos restoring]
  dsimp only
  rw [if_pos lost, restored]
  rfl

end

/-! ### The set-up given back (R2, R25, R39) -/

theorem restoredOven_eq (r : Option CommRecord) : restoredOven r =
    { presence := if r.isSome then .commissioned else .vacant, record := r, announced := none, occupancy := .free,
      service := false, locked := false, counters := ⟨0, 0, 0, 0, 0, 0, 0, 0⟩ } := by
  cases r <;> rfl

theorem restoreFrom_oven (s : State) (c : SavedContent) (i : OvenId) :
    (s.restoreFrom c).oven i = restoredOven c.records[i] := by
  simp [State.restoreFrom, State.oven]

theorem restoreFrom_entry (s : State) (c : SavedContent) (r : Fin 512) :
    (s.restoreFrom c).recipe r = c.recipes[r].entry := by
  simp [State.restoreFrom, State.recipe]

theorem restoreFrom_steps (s : State) (c : SavedContent) (k : Fin 768) :
    (s.restoreFrom c).steps[k] = c.steps[k].getD StepRec.blank := by
  simp [State.restoreFrom]

/-- Settles O5: the image decides what the restore gives back, the save count what a restore without one reports. -/
theorem readyRestoresOrDefaults : Obligations.ReadyRestoresOrDefaults := by
  refine ⟨fun s m restoring image complete crc => ?_,
    fun s restoring invalid => ⟨fun first => ?_, fun saves => ?_⟩⟩
  · have valid : s.validContent = some m.content :=
      validContent_of_image (image.trans (congrArg some (eq_image complete crc)))
    exact ⟨_, congrArg Host.Outcome.next (doReady_restored restoring valid), rfl, rfl, rfl,
      fun i => (restoreFrom_oven s m.content i).trans (restoredOven_eq _), restoreFrom_entry s m.content,
      restoreFrom_steps s m.content, rfl, rfl, rfl, rfl, rfl, rfl⟩
  · exact congrArg Host.Outcome.next (doReady_empty restoring (validContent_none invalid) first)
  · exact congrArg Host.Outcome.next (doReady_lost restoring (validContent_none invalid) saves)

end Sys2Proof.Machine
end

section
/-! THEOREM. When a soft reset comes (R163), and what a reset during a SAVE leaves (R164, R165, R167, R170): settles
`Obligations.SoftResetWaitsForItsReply` and `Obligations.ResetDuringASaveLosesTheImage`. -/

namespace Sys2Proof.Machine

variable {s : State} {f : StoreFrame}

/-! ### SOFT_RESET (R163) -/

theorem Passes.of_softReset (h : Requested s f 6 [0]) : Passes s gateSoftReset f :=
  ⟨h, fun saved => (nomatch saved), fun taken => absurd rfl taken, by decide⟩

theorem doSoftReset_waits (h : Requested s f 6 [0]) (room : s.up.frames.length < 32) : doSoftReset f s =
    { (s.fromGateway f).replies f { result := .done } with softReset := some 10 } := by
  have room : (s.fromGateway f).upRoom = true := decide_eq_true room
  refine ((Passes.of_softReset h).control _).trans ?_
  rw [if_pos room]
  rfl

/-- No REPLY can be queued, so none is waited for. -/
theorem doSoftReset_resets (h : Requested s f 6 [0]) (full : 32 ≤ s.up.frames.length) :
    doSoftReset f s = s.restart .control := by
  have full : ¬ (s.fromGateway f).upRoom = true := by simpa [State.upRoom] using full
  refine ((Passes.of_softReset h).control _).trans ?_
  rw [if_neg full]
  rfl

theorem doSoftResetTenthTick_resets (due : s.softReset = some 0) : doSoftResetTenthTick s = s.restart .control :=
  if_pos due

/-- The end of the REPLY's transmission is the reset. -/
theorem doStoreLinkTransmissionEnd_resets {e : EthFrame} {rest : List KFrame} {q : Byte}
    (awaited : s.softReset.isSome = true) (busy : s.up.tx = some e)
    (head : s.up.frames = replyFrame { cls := clsControl, oven := 0, tag := 6, seq := q } { result := .done } :: rest) :
    doStoreLinkTransmissionEnd s = s.restart .control := by
  have reply : isSoftResetReply (replyFrame { cls := clsControl, oven := 0, tag := 6, seq := q }
      { result := .done }) = true :=
    (isSoftResetReply_iff _).mpr ⟨rfl, by simp [replyFrame, be, beWord, Result.code]⟩
  rw [doStoreLinkTransmissionEnd, busy, head]
  exact if_pos ⟨awaited, reply⟩

/-- Settles O10. -/
theorem softResetWaitsForItsReply : Obligations.SoftResetWaitsForItsReply := by
  have resets {s t : State} (run : t = s.restart .control) : ResetOf s t .control := run ▸ restart_resetOf s .control
  refine fun s => ⟨fun f h room => congrArg Host.Outcome.next (doSoftReset_waits h room),
    fun f h full => ⟨_, rfl, resets (doSoftReset_resets h full)⟩,
    fun due => ⟨_, rfl, resets (doSoftResetTenthTick_resets due)⟩,
    fun f e rest n awaited busy head => ⟨_, rfl, resets ?_⟩⟩
  exact doStoreLinkTransmissionEnd_resets (by rw [awaited]; rfl) busy head

/-! ### An occurrence at an empty Call Table (R94, R97, R102) -/

/-- A call filed alone is reported at once where the Upward Queue has room. -/
theorem buildService_alone {p : Fin 32} {c : Call} (room : s.up.frames.length < 32) (alone : s.calls.reports = [p])
    (here : s.call p = some c) (opened : c.state = .opened) : s.buildService =
      ((s.setCall p (some { c with state := .reported })).leaveReports p).pushUp (serviceFrame c .reported) := by
  obtain ⟨q, next⟩ : ∃ q, s.nextReport = some q := Option.ne_none_iff_exists'.mp fun none => by
    simp [nextReport_none.mp none p (by simp [alone])] at here
  have first : q = p := by simpa [alone] using (nextReport_some next).1
  subst first
  rw [State.buildService, alone, List.length_singleton, buildServiceN_builds room next, reportCall_opened here opened]
  rfl

/-- The first call takes the lowest position, and its SERVICE frame joins the Upward Queue. -/
theorem raise_first {sub : Option OvenId} {code : Nat} {sev : Severity} {kind : CallKind} {c : Call}
    (new : newCall s sub code sev kind = c) (lesser : sev ≠ .lockout) (empty : s.calls = CallTable.reset)
    (room : s.up.frames.length < 32) : s.raise sub code sev kind =
      (((s.filed 0 c).setCall 0 (some { c with state := .reported })).leaveReports 0).pushUp
        (serviceFrame c .reported) := by
  have none (p : Fin 32) : s.call p = none := by simp [State.call, empty, CallTable.reset]
  have unused : s.callsInUse = 0 := List.countP_eq_zero.mpr fun p _ => by simp [none]
  have lowest : s.lowestFree = some 0 := lowestFree_of_lowest (none 0) fun q below => absurd below (Fin.not_lt_zero q)
  have alone : (s.filed 0 c).calls.reports = [0] := by simp [State.filed, empty, CallTable.reset]
  have opened : c.state = .opened := new ▸ rfl
  rw [raise_creates (fun p c there => by simp [none] at there) lesser (by omega) lowest, State.createCall_eq, new]
  exact buildService_alone (s := s.filed 0 c) room alone (State.setCall_self s 0 _) opened

/-! ### A reset during a SAVE (R170) -/

/-- The ways in which a reset comes: power, the pin, the tenth tick, a SOFT_RESET that finds the Upward Queue full,
the end of its REPLY's transmission (R163, R164). -/
def State.ResetBy (s : State) (c : Instr) : Prop :=
  c = .powerOn ∨ c = .resetPin ∨ (c = .softResetTenthTick ∧ s.softReset = some 0) ∨
    (∃ f, c = .softReset f ∧ Requested s f 6 [0] ∧ 32 ≤ s.up.frames.length) ∨
    (c = .storeLinkTransmissionEnd ∧ s.softReset.isSome = true ∧ s.up.tx.isSome = true ∧
      ∃ q rest, s.up.frames = replyFrame { cls := clsControl, oven := 0, tag := 6, seq := q }
        { result := .done } :: rest)

/-- Every one of them is the same restart. -/
theorem exec_restarts {c : Instr} (way : s.ResetBy c) : ∃ cause, exec c s = .next (s.restart cause) := by
  obtain rfl | rfl | ⟨rfl, due⟩ | ⟨f, rfl, h, full⟩ | ⟨rfl, awaited, busy, q, rest, head⟩ := way
  · exact ⟨.powerOn, rfl⟩
  · exact ⟨.pin, rfl⟩
  · exact ⟨.control, congrArg Host.Outcome.next (doSoftResetTenthTick_resets due)⟩
  · exact ⟨.control, congrArg Host.Outcome.next (doSoftReset_resets h full)⟩
  · obtain ⟨e, busy⟩ := Option.isSome_iff_exists.mp busy
    exact ⟨.control, congrArg Host.Outcome.next (doStoreLinkTransmissionEnd_resets awaited busy head)⟩

/-- The set-up as a reset leaves it (R2, R20, R25, R161, R162). -/
structure State.AtDefaults (t : State) : Prop where
  config : t.config = Params.reset
  daypart : t.daypart = 0
  ovens : ∀ i, t.oven i = OvenEntry.reset
  recipes : ∀ n, t.recipe n = RecipeEntry.reset
  steps : ∀ k, t.stepRec k = StepRec.blank

theorem restart_atDefaults (s : State) (cause : ResetCause) : (s.restart cause).AtDefaults where
  config := rfl
  daypart := rfl
  ovens := reset_oven
  recipes n := by simp [State.recipe, State.restart, State.reset]
  steps k := by simp [State.stepRec, State.restart, State.reset]

theorem reportStarted_noReply (cause : ResetCause) (result : RestoreResult) (saves : Nat) (now : LineTime) :
    (reportStarted cause result saves now).cls ≠ clsReply :=
  show clsReport ≠ clsReply by decide

theorem serviceFrame_noReply (c : Call) (state : CallState) : (serviceFrame c state).cls ≠ clsReply :=
  show clsService ≠ clsReply by decide

/-- READY without a valid image: the result is written, the report and a call may stand (R167). -/
def State.unrestored (s : State) (result : RestoreResult) (calls : CallTable) (up : Up) : State :=
  State.startedUp { s with restoreResult := result, calls := calls, up := up }

theorem State.AtDefaults.unrestored (h : s.AtDefaults) (result : RestoreResult) (calls : CallTable) (up : Up) :
    (s.unrestored result calls up).AtDefaults :=
  ⟨h.config, h.daypart, h.ovens, h.recipes, h.steps⟩

section
variable (cause : ResetCause) (invalid : s.validContent = none)
include invalid

theorem doReady_restart_empty (first : s.saveCount = 0) : doReady (s.restart cause) =
    (s.restart cause).unrestored .empty CallTable.reset { Up.reset with frames := [reportStarted cause .empty 0 0] } :=
  doReady_empty rfl invalid first

/-- The report stands first, the SERVICE frame of STORE_LOST after it. -/
theorem doReady_restart_lost (saves : 0 < s.saveCount) : ∃ calls up,
    doReady (s.restart cause) = (s.restart cause).unrestored .lost calls up ∧
      (∃ d, calls.slots[0] = some d ∧ d.oven = none ∧ d.code = 211 ∧ d.severity = .major ∧ d.kind = .event ∧
        d.state = .reported) ∧
      ∃ c, up.frames = [reportStarted cause .lost s.saveCount 0, serviceFrame c .reported] := by
  let u := (s.restart cause).reportedStart .lost s.saveCount
  have report : u.up.frames = [reportStarted cause .lost s.saveCount 0] := rfl
  have room : u.up.frames.length < 32 := by simp [report]
  have raised := raise_first (s := u) (sub := none) (code := codeStoreLost) (sev := .major) (kind := .event) rfl
    (by decide) rfl room
  exact ⟨_, _, (doReady_lost (s := s.restart cause) rfl invalid saves).trans (congrArg State.startedUp raised),
    ⟨_, State.setCall_self _ 0 _, rfl, rfl, rfl, rfl, rfl⟩, _, rfl⟩

end

/-- Settles O9: every way is one restart, and READY after it finds the image incomplete. -/
theorem resetDuringASaveLosesTheImage : Obligations.ResetDuringASaveLosesTheImage := by
  intro s m r c saving image incomplete way
  obtain ⟨cause, run⟩ := exec_restarts way
  have invalid : s.validContent = none := validContent_none fun n held => by
    rw [image] at held
    cases held
    exact .inl incomplete
  refine ⟨s.restart cause, doReady (s.restart cause), run, rfl, rfl, image, rfl, rfl, ?_⟩
  obtain first | saves := Nat.eq_zero_or_pos s.saveCount
  · obtain ⟨config, daypart, ovens, recipes, steps⟩ :=
      (restart_atDefaults s cause).unrestored .empty CallTable.reset { Up.reset with frames := [reportStarted cause .empty 0 0] }
    rw [doReady_restart_empty cause invalid first]
    refine ⟨rfl, config, daypart, ovens, recipes, steps, fun k built => ?_, fun _ => ⟨rfl, reset_call⟩,
      fun saves => absurd first saves.ne'⟩
    rw [List.mem_singleton.mp built]
    exact reportStarted_noReply _ _ _ _
  · obtain ⟨calls, up, ready, ⟨d, call⟩, x, frames⟩ := doReady_restart_lost cause invalid saves
    obtain ⟨config, daypart, ovens, recipes, steps⟩ := (restart_atDefaults s cause).unrestored .lost calls up
    rw [ready]
    refine ⟨rfl, config, daypart, ovens, recipes, steps, fun k built => ?_, fun first => absurd first saves.ne',
      fun _ => ⟨rfl, 0, d, call⟩⟩
    have built : k ∈ up.frames := built
    rw [frames] at built
    obtain rfl | built := List.mem_cons.mp built
    · exact reportStarted_noReply _ _ _ _
    · rw [List.mem_singleton.mp built]
      exact serviceFrame_noReply _ _

end Sys2Proof.Machine
end
